-- ==== Sys2Proof/Word.lean ====
section
/-! DEFINITION. The word types of the controller and the index types of its lanes, channels, loops, inputs and
condition entries (spec 00, sections 0.7.1 and 0.7.3). -/

namespace Sys2Proof

/-- One byte of the cabinet link. -/
abbrev Byte := BitVec 8

/-- A device time: a 32-bit count of ticks of 10 us (R5). -/
abbrev Time := BitVec 32

/-- Lane 0, 1 or 2 (00, section 0.7.3). -/
abbrev Lane := Fin 3

/-- Strip channel 0 to 5 (00, Table 0-5). -/
abbrev Chan := Fin 6

/-- Loop P0-P2, E0-E2, X0-X2, D as 0 to 9 (12, Table 12-9). -/
abbrev Loop := Fin 10

/-- Field input: the ten loops as 0 to 9, ENF as 10, MK as 11 (04, section 4.1). -/
abbrev Input := Fin 12

/-- Index of a condition entry, 0 to 64 (10, Table 10-1). -/
abbrev CondIx := Fin 65

end Sys2Proof
end

