-- ==== Sys2Proof/Config.lean ====
section
/-! DEFINITION. What is fixed for the controller and is no setting: the fixed capacities and intervals of the spec, and the
free values (constants without a body) for what the spec leaves open. -/

namespace Sys2Proof.Config

/-- Ticks in one ms (00, section 0.7.1). -/
def ticksPerMs : Nat := 100
/-- Ticks in one s (00, section 0.7.1). -/
def ticksPerS : Nat := 100000
/-- Record slots of the pool (R112). -/
def poolSlots : Nat := 48
/-- Free slots at which TABLE_FULL clears (R154). -/
def tableFullClear : Nat := 4
/-- Capacity of the history ring (R117). -/
def historyCap : Nat := 64
/-- Greatest id and greatest trace record index (R113, R167). -/
def lastId : Nat := 4294967295
/-- Axle entries of a record (R65). -/
def axleCap : Nat := 12
/-- Capacity of a pairing FIFO (R57). -/
def fifoCap : Nat := 4
/-- SILENT_N (R61). -/
def silentN : Nat := 4
/-- The run at which PULSE_STUCK and ZERO_RANGE are faults (R32, R42). -/
def runFault : Nat := 3
/-- Where a run is held (R32, R42, R59). -/
def runCap : Nat := 255
/-- AXLE_MAX in kg (06, section 6.1). -/
def axleMax : Nat := 50000
/-- Greatest effective channel factor (R78). -/
def factorMax : Nat := 1048575
/-- Cap of an excess added to an area (R27). -/
def excessCap : Int := 262143
/-- Entries of a deck order list (R131). -/
def deckListCap : Nat := 32
/-- Length to which every list must have fallen for the list-full latch to clear (R142). -/
def deckListLow : Nat := 28
/-- Records that an offer may find in the admission queue and be refused (R132). -/
def queueCap : Nat := 16
/-- Capacity of the request queue (R174). -/
def requestCap : Nat := 4
/-- Formed answers that may wait behind a held answer (R175). -/
def behindCap : Nat := 4
/-- Capacity of the report queue (R175). -/
def reportCap : Nat := 32
/-- Words of the trace ring and header words of a stored record (R167, Table 11-3). -/
def traceWords : Nat := 16384
def traceHeader : Nat := 4
/-- ALERT_DECAY, the LANE_INTRUSION decay, RECOVER_WATCH and the CONV_LINK quiet time, in ticks (10, section 10.1; R155, R156). -/
def alertDecay : Nat := 3000000
def intrusionDecay : Nat := 6000000
def recoverWatch : Nat := 6000000
def convLinkQuiet : Nat := 1000000
/-- Span of 16 missing samples that is a CONV_LINK fault (R156) and of three spurious exits that is a DECK_DESYNC fault (R157). -/
def convLinkSpan : Nat := 100000
def desyncSpan : Nat := 60000000
/-- Chatter: the detection span, the age of an episode at which it is a fault, and the quiet time (R49). -/
def chatterSpan : Nat := 100000
def chatterFault : Nat := 1000000
def chatterQuiet : Nat := 3000000
/-- The longest gap between two bytes of a frame (R173). -/
def frameGap : Nat := 2000
/-- Greatest duration of a SIGN_FORCE in s (R106). -/
def forceMax : Nat := 3600
/-- The greatest DECK_OVERSTAY, in ticks (09, Table 9-1): an entry older than this overstays under every setting. -/
def overstayMax : Nat := 720000000
/-- The greatest TRACK_TTL, in ticks (08, Table 8-6): a record older than this has outlived every setting. -/
def trackTtlMax : Nat := 360000000
/-- Where a persistence count is held (R153). -/
def countCap : Nat := 65535

/-- FREE VALUE. The bytes of the non-volatile image over which its checksum is taken (R179), from the setting values in
parameter order: the spec states no layout of the image (log entry 8). -/
opaque imageBytes : List Int → List Byte

/-- FREE VALUE. The non-volatile image after a start that interrupted a store write: none is a bad checksum, some
false the image before the write, some true the image being written (log entry 9). -/
opaque interruptedImage : Nat → Option Bool

/-- FREE VALUE. Whether the verdict on an open ghost is taken before the flush when its E loop goes out of service: R137
gives both outcomes and no order (log entry 10). -/
opaque verdictFirst : Nat → Bool

/-- FREE VALUE. The speed that the summary of a record shows where the record closed before its speed was set, by the record's id: Table 8-5
gives the speed no absence and R69 sets it at the completed close only (log entry 53). -/
opaque unsetSpeed : Nat → Fin 40001

/-- FREE VALUE. The stored checksum of an image left bad by an interrupted store write: the spec does not say which
bytes of the write were made (log entry 54). -/
opaque tornChecksum : Nat → BitVec 16

end Sys2Proof.Config
end

