-- ==== Sys2Proof/Syntax.lean ====
section
/-! DEFINITION. The commands of the controller: one constructor of `Instr` for each row of spec/opcode_table.json.
A request (Table 12-3) has no operand: the request taken is the frame at the head of the request queue (R174). -/

namespace Sys2Proof

/-- The converter's answer to a conversion request (02, section 2.1): the echoed channel and gain code, the raw sample,
and the check word. An answer that is absent or incomplete at the end of its slot is `none`. -/
structure ConvAnswer where
  channel : Nat
  gain    : Nat
  raw     : BitVec 16
  check   : BitVec 16
deriving DecidableEq, Repr

/-- One row of the table each. -/
inductive Instr where
  | coldStart
  | restart
  | warmStart
  | deviceSecondsAdvance
  | scanTick
  | conversionSlot (ans : Option ConvAnswer)
  | singleConversion (ans : Option ConvAnswer)
  | tempStaleExpiry
  | fifoEntryExpiry (lane : Lane)
  | closeGapExpiry (lane : Lane)
  | straddleWaitExpiry (id : Nat)
  | rawEdge (input : Input) (level : Bool)
  | candidateAccepted (input : Input)
  | candidateCancelled (input : Input)
  | loopStuckAlert (loop : Loop)
  | loopStuckFault (loop : Loop)
  | chatterQuiet (loop : Loop)
  | cameraPulseEnd (lane : Lane)
  | signForceExpiry (lane : Lane)
  | recordExpiry (id : Nat)
  | headwayElapsed
  | blindClearElapsed
  | grantTimeExpiry
  | grantExpiry (id : Nat)
  | overstayExpiry (lane : Lane)
  | resyncEnd
  | restEnd
  | alertDecay (ix : CondIx)
  | convLinkClear
  | tempLostFault
  | recoverWatchEnd (ix : CondIx)
  | frameReceived (bytes : List Byte)
  | frameGapTimeout
  | linkSilentExpiry
  | frameSent
  | unknownType
  | status
  | ident
  | conditions
  | ackConditions
  | recover
  | reportMask
  | record
  | history
  | deckView
  | queueView
  | snapshot
  | snapshotRelease
  | laneOpen
  | laneClose
  | deckClose
  | deckRelease
  | deckClearHead
  | signForce
  | setupBegin
  | setupCommit
  | setupAbandon
  | paramWrite
  | paramRead
  | tableWrite
  | tableRead
  | storeWriteEnd (good : Bool)
  | convertOne
  | zeroNow
  | traceRead
  | traceRelease
  | lenOutOfRange (bytes : List Byte)
deriving DecidableEq, Repr

end Sys2Proof
end

