-- ==== Sys2Proof/Machine/Settings.lean ====
section
/-! DEFINITION. The settings of the controller (spec 12, section 12.7), grouped by the chapter that owns them, with their
defaults. All fields are plain data. -/

namespace Sys2Proof.Machine

/-- One entry of the scan list (02, Table 2-2). -/
structure ScanEntry where
  channel : Fin 8
  gain    : Fin 4
  every   : Nat
  endMark : Bool
deriving DecidableEq, Repr

/-- One entry of the class table (07, Table 7-3). -/
structure ClassEntry where
  valid   : Bool
  axMin   : Nat
  axMax   : Nat
  pattern : Vector Nat 8
  mask    : Vector Nat 8
  row     : Fin 8
  heavy   : Bool
deriving DecidableEq, Repr

/-- One limit row, in kg (07, Table 7-5). -/
structure LimitRow where
  gross  : Nat
  single : Nat
  tandem : Nat
  tridem : Nat
deriving DecidableEq, Repr

/-- LOOP_POL (04, Table 4-1). -/
inductive LoopPol where
  | occHigh | occLow
deriving DecidableEq, Repr

/-- ENF_EDGE (04, Table 4-1). -/
inductive EnfEdge where
  | off | rise | fall | both
deriving DecidableEq, Repr

/-- TRACE_MODE (11, Table 11-1). -/
inductive TraceMode where
  | off | running | holdOnDivert
deriving DecidableEq, Repr

/-- Chapter 1 (Tables 1-1 and 1-2); distances in mm. `startOpen` is LANE_START_OPEN = open. -/
structure SiteSettings where
  laneCount    : Nat
  startOpen    : Vector Bool 3
  stripSpacing : Vector Nat 3
  signDist     : Vector Nat 3
  slipDist     : Vector Nat 3
  threshDist   : Vector Nat 3
deriving DecidableEq, Repr

/-- Chapter 2 (Table 2-1). -/
structure ConvSettings where
  scanDiv   : Nat
  scanList  : Vector ScanEntry 16
  tempOfs   : Int
  tempGain  : Int
  tempStale : Nat
  refNom    : Int
  refTol    : Nat
  refN      : Nat
deriving DecidableEq, Repr

/-- Detector settings of chapter 3 (Table 3-3). -/
structure DetSettings where
  pulseOn     : Nat
  pulseOff    : Nat
  pulseMin    : Nat
  pulseMax    : Nat
  pulseRejoin : Nat
deriving DecidableEq, Repr

/-- Zeroing settings of chapter 3 (Table 3-8). -/
structure ZeroSettings where
  baseRef      : Vector Int 6
  zeroN        : Nat
  zeroInterval : Nat
  zeroOverdue  : Nat
  zeroSpread   : Nat
  zeroRange    : Nat
deriving DecidableEq, Repr

/-- Chapter 4 (Table 4-1). `loopUsed` is LOOP_USE = used. -/
structure LoopSettings where
  loopUsed   : Vector Bool 10
  loopPol    : Vector LoopPol 10
  loopStable : Nat
  loopStuck  : Nat
  chatterN   : Nat
  enfEdge    : EnfEdge
deriving DecidableEq, Repr

/-- Chapter 5 (Table 5-1). -/
structure AsmSettings where
  vMax        : Nat
  vPairMin    : Nat
  vNominal    : Nat
  splitGap    : Nat
  closeGap    : Nat
  straddleWin : Nat
  straddleWait : Nat
deriving DecidableEq, Repr

/-- Chapter 6 (Table 6-1); an F_ch that is unset is none. -/
structure WeighSettings where
  fch      : Vector (Option Nat) 6
  tempQ    : Vector Nat 9
  agreePm  : Nat
  marginA  : Nat
  marginB  : Nat
  accelPct : Nat
  groupGap : Nat
  vLow     : Nat
deriving DecidableEq, Repr

/-- Chapter 7 (Table 7-1). -/
structure DecSettings where
  gapB1          : Nat
  gapB2          : Nat
  gapB3          : Nat
  heavyThreshold : Nat
  uDivertAxles   : Nat
  classTable     : Vector ClassEntry 16
  limitRows      : Vector LimitRow 8
  camPulse       : Nat
deriving DecidableEq, Repr

/-- Chapter 8 (Table 8-6). -/
structure TrackSettings where
  fastPct   : Nat
  vCrawl    : Nat
  trackTtl  : Nat
  ghostLong : Nat
deriving DecidableEq, Repr

/-- Chapter 9 (Table 9-1). -/
structure DeckSettings where
  budget       : Nat
  winMax       : Nat
  winLen       : Nat
  headway      : Nat
  grantTtl     : Nat
  restTime     : Nat
  resyncTime   : Nat
  blindClear   : Nat
  overstay     : Nat
  unknownLoad  : Nat
deriving DecidableEq, Repr

/-- Chapters 11 and 12 (Table 11-1; LINK_BAUD, LINK_SILENT of section 12.7). -/
structure LinkSettings where
  traceMode  : TraceMode
  traceCh    : Vector Bool 6
  linkBaud   : Nat
  linkSilent : Nat
deriving DecidableEq, Repr

/-- One whole set of settings: a generation, the working copy, or the non-volatile image. -/
structure Settings where
  site  : SiteSettings
  conv  : ConvSettings
  det   : DetSettings
  zero  : ZeroSettings
  loop  : LoopSettings
  asm   : AsmSettings
  weigh : WeighSettings
  dec   : DecSettings
  track : TrackSettings
  deck  : DeckSettings
  link  : LinkSettings
deriving DecidableEq, Repr

/-- Entry j of the default scan list (Table 2-2) with the given END mark; entries 8 to 15 of the default list are unused,
and hold channel j - 8 with the fields of the entry for that channel (log entry 6). -/
def defaultScanEntry (j : Nat) (mark : Bool) : ScanEntry :=
  { channel := Fin.ofNat 8 j, gain := if j % 8 < 6 then 2 else 0, every := if j % 8 < 6 then 1 else 200, endMark := mark }

/-- Table 2-2 with END on the entry given, or on none. -/
def defaultScanList (marked : Option Nat) : Vector ScanEntry 16 :=
  Vector.ofFn fun j => defaultScanEntry j.val (marked == some j.val)

/-- Table 7-4: entries 0 to 4, then entries that are not valid. -/
def defaultClassEntry (j : Nat) : ClassEntry :=
  let zeros : Vector Nat 8 := Vector.replicate 8 0
  match j with
  | 0 => ⟨true, 1, 1, zeros, zeros, 0, false⟩
  | 1 => ⟨true, 2, 2, zeros, zeros.set 0 2, 0, false⟩
  | 2 => ⟨true, 2, 2, zeros, zeros, 1, true⟩
  | 3 => ⟨true, 3, 4, zeros, zeros, 2, true⟩
  | 4 => ⟨true, 5, 12, zeros, zeros, 3, true⟩
  | _ => ⟨false, 1, 12, zeros, zeros, 0, false⟩

/-- Table 7-5, the default rows. -/
def defaultLimitRow (j : Nat) : LimitRow :=
  match j with
  | 1 => ⟨18000, 10000, 18000, 24000⟩
  | 2 => ⟨32000, 10000, 18000, 24000⟩
  | 3 => ⟨40000, 10000, 18000, 24000⟩
  | _ => ⟨26000, 10000, 18000, 24000⟩

/-- The defaults of section 12.7 with every F_ch unset, over the given scan list. -/
def defaultsWith (list : Vector ScanEntry 16) : Settings where
  site := { laneCount := 3, startOpen := Vector.replicate 3 true, stripSpacing := Vector.replicate 3 3000,
            signDist := Vector.replicate 3 180000, slipDist := Vector.replicate 3 320000,
            threshDist := Vector.replicate 3 450000 }
  conv := { scanDiv := 24, scanList := list, tempOfs := 0, tempGain := 256, tempStale := 600, refNom := 196608,
            refTol := 1600, refN := 8 }
  det := { pulseOn := 800, pulseOff := 400, pulseMin := 3, pulseMax := 600, pulseRejoin := 2 }
  zero := { baseRef := Vector.replicate 6 0, zeroN := 256, zeroInterval := 60, zeroOverdue := 600, zeroSpread := 400,
            zeroRange := 8000 }
  loop := { loopUsed := Vector.replicate 10 true, loopPol := Vector.replicate 10 .occHigh, loopStable := 20,
            loopStuck := 180, chatterN := 10, enfEdge := .rise }
  asm := { vMax := 36000, vPairMin := 1000, vNominal := 22000, splitGap := 10000, closeGap := 1500, straddleWin := 50,
           straddleWait := 1000 }
  weigh := { fch := Vector.replicate 6 none, tempQ := Vector.replicate 9 4096, agreePm := 80, marginA := 50,
             marginB := 120, accelPct := 10, groupGap := 1800, vLow := 2800 }
  dec := { gapB1 := 1800, gapB2 := 3500, gapB3 := 6000, heavyThreshold := 7500, uDivertAxles := 3,
           classTable := Vector.ofFn fun j => defaultClassEntry j.val,
           limitRows := Vector.ofFn fun j => defaultLimitRow j.val, camPulse := 200 }
  track := { fastPct := 30, vCrawl := 1500, trackTtl := 300, ghostLong := 1500 }
  deck := { budget := 40000, winMax := 3, winLen := 60, headway := 8, grantTtl := 180, restTime := 120,
            resyncTime := 90, blindClear := 60, overstay := 600, unknownLoad := 26000 }
  link := { traceMode := .running, traceCh := Vector.replicate 6 true, linkBaud := 115200, linkSilent := 60 }

/-- The blank working copy of SETUP_BEGIN in SAFE mode (R177), which also stands for the defaults in force after a cold
start into SAFE mode (R181): every setting at its default, every F_ch unset, no entry marked END. -/
def blankSettings : Settings := defaultsWith (defaultScanList none)

end Sys2Proof.Machine
end

