-- ==== Sys2Proof/Machine/State.lean ====
section
/-! DEFINITION. The state of the controller as plain data: one structure for each block of spec 00, Table 0-3, the queue of
waiting commands, and the state after reset. INVENTORY.md lists every field with the rule that names it. -/

namespace Sys2Proof.Machine

/-- No command of this block stops the machine with a fault: a request that does not fit is answered with a status code
(Table 12-2), and trouble in the field is a cause to the Condition Monitor. Nothing raises a fault; an empty type is safe. -/
inductive Fault
deriving DecidableEq, Repr

/-- A refusal of the model. -/
inductive Refusal where
  /-- A command whose meaning is not written, raised by its arm of `exec` alone, by name. Safe. -/
  | notModelled (mnemonic : String)
deriving DecidableEq, Repr

/-! ### Timebase and Converter Sequencer (chapters 1 and 2) -/

/-- The Timebase (R5, R6, R13). -/
structure TbuState where
  time     : Time
  seconds  : BitVec 32
  secTicks : Nat
  divider  : Nat
  scanDue  : Bool
deriving DecidableEq, Repr

/-- A pending single conversion (R21, R22); `armed` once a pass has begun after the request was taken. -/
structure SingleConv where
  chan  : Fin 8
  gain  : Fin 4
  armed : Bool
deriving DecidableEq, Repr

/-- The held temperature: T in tenths of a degree with its time, or absent; `stale` is the latch of R24. -/
structure Temperature where
  value : Option (Int × Time)
  stale : Bool
deriving DecidableEq, Repr

/-- The Converter Sequencer. -/
structure CsqState where
  nextNumber : BitVec 32
  inForce    : ConvSettings
  passTime   : Time
  slotIx     : Nat
  slots      : List ScanEntry
  held       : Vector Int 8
  single     : Option SingleConv
  temp       : Temperature
  refFails   : Nat
deriving DecidableEq, Repr

/-! ### Strip Channel Units and Zero Scheduler (chapter 3) -/

/-- Table 3-1. -/
inductive DetState where
  | off | idle | pulse | tail | stuck
deriving DecidableEq, Repr

/-- A norm value with its missing mark, as held in a span. -/
abbrev Sample := Int × Bool

/-- One Strip Channel Unit (Table 3-2); `cfg` holds the detector settings it runs under (R34). -/
structure ScuState where
  det         : DetState
  start       : Time
  count       : Nat
  area        : Nat
  peak        : Nat
  missing     : Nat
  tailSamples : Nat
  tailBuf     : List Sample
  span        : List Sample
  cur         : Option Time
  prev        : Option Time
  stuckRun    : Nat
  cfg         : DetSettings
deriving DecidableEq, Repr

/-- The overdue part of a channel's grade (R37). -/
inductive ZeroGrade where
  | fresh | overdue | failing
deriving DecidableEq, Repr

/-- The Zero Scheduler's state of one channel. -/
structure ZeroChan where
  baseline  : Int
  lastZero  : Option (BitVec 32)
  requested : Bool
  due       : Bool
  grade     : ZeroGrade
  rangeRun  : Nat
deriving DecidableEq, Repr

/-- The measurement in progress, with the settings it began with (R41, R43). -/
structure Measurement where
  chan     : Chan
  count    : Nat
  sum      : Int
  least    : Int
  greatest : Int
  zeroN    : Nat
  spread   : Nat
  range    : Nat
  baseRef  : Int
deriving DecidableEq, Repr

/-- The Zero Scheduler. -/
structure ZscState where
  chans   : Vector ZeroChan 6
  pointer : Chan
  meas    : Option Measurement
deriving DecidableEq, Repr

/-- A stored time of a list whose oldest time is tested against a fixed span (R49, R156, R157), with the R8 latch of that test. -/
structure StoredTime where
  time : Time
  old  : Bool
deriving DecidableEq, Repr

/-! ### Loop Input Unit (chapter 4) -/

/-- A debounce candidate (R46). -/
structure Candidate where
  level     : Bool
  firstEdge : Time
deriving DecidableEq, Repr

/-- The debounce of one input: `level` is occupied for a loop, high for ENF, active for MK. -/
structure Debounce where
  level    : Bool
  cand     : Option Candidate
  lastEdge : Time
deriving DecidableEq, Repr

/-- The stuck grade (R48). -/
inductive StuckGrade where
  | none | alerted | faulted
deriving DecidableEq, Repr

/-- A chatter episode (R49); its absence is QUIET. -/
structure Episode where
  start      : Time
  lastDet    : Time
  faultGiven : Bool
deriving DecidableEq, Repr

/-- What the Loop Input Unit keeps for a loop beside its debounce. -/
structure LoopState where
  occStart  : Time
  announced : Bool
  stuck     : StuckGrade
  chatter   : Option Episode
  edges     : List StoredTime
deriving DecidableEq, Repr

/-- The Loop Input Unit; `pins` are the observed levels of the twelve inputs, high being true. -/
structure LiuState where
  pins  : Vector Bool 12
  deb   : Vector Debounce 12
  loops : Vector LoopState 10
deriving DecidableEq, Repr

/-! ### Lane Assemblers (chapter 5) -/

/-- What a vehicle of the assembler holds: no record yet, no record of the pool because none was free (with its
generation), or the record of an id. -/
inductive Owner where
  | noRecord
  | unrecorded
  | recorded (id : Nat)
deriving DecidableEq, Repr

/-- An entry of the pairing FIFO; `axle` none is NOT_RECORDED, `waiting` marks an expiry that waits for the S2 detector
(R60), `veh` is the serial number of its vehicle. -/
structure FifoEntry where
  start   : Time
  area    : Nat
  owner   : Owner
  axle    : Option Nat
  gen     : Nat
  veh     : Nat
  waiting : Bool
deriving DecidableEq, Repr

/-- The open vehicle; the S1 times and the generation are meaningful once it has an S1 hit. -/
structure OpenVehicle where
  veh         : Nat
  owner       : Owner
  loopCovered : Bool
  firstStart  : Time
  lastStart   : Time
  lastTaken   : Time
  gen         : Nat
deriving DecidableEq, Repr

/-- A sealed vehicle, recorded or unrecorded. -/
structure SealedVehicle where
  veh   : Nat
  owner : Owner
  gen   : Nat
deriving DecidableEq, Repr

/-- A PENDING record with the record it awaits and its wait start time (R70). -/
structure PendingRecord where
  id        : Nat
  awaits    : Nat
  waitStart : Time
deriving DecidableEq, Repr

/-- One Lane Assembler (Table 5-2). -/
structure LasState where
  fifo        : List FifoEntry
  openVeh     : Option OpenVehicle
  sealed      : List SealedVehicle
  pendingList : List PendingRecord
  vref        : Option Nat
  silentS1    : Nat
  silentS2    : Nat
  nextVeh     : Nat
deriving DecidableEq, Repr

/-! ### Vehicle records (chapters 6 to 8) -/

inductive SpeedSource where
  | paired | substitute
deriving DecidableEq, Repr

inductive Quality where
  | a | b | u
deriving DecidableEq, Repr

inductive Decision where
  | passLight | passHeavy | divert
deriving DecidableEq, Repr

inductive LaneMode where
  | normal | degraded | blanket | closed
deriving DecidableEq, Repr

/-- Admission state of a record (Table 8-1). The reserved load of a GRANTED record stands in its grant. -/
inductive Admission where
  | none | queued | granted | expired | unadmitted | used
deriving DecidableEq, Repr

inductive RecState where
  | assembling | pending | decided | onDeck
deriving DecidableEq, Repr

/-- Table 8-4. -/
inductive Disposition where
  | diverted | exited | entered | lost | divertAssumed | cleared | noncompliantCleared | flushed | operatorCleared
  | merged | abandoned
deriving DecidableEq, Repr

/-- The set of reasons of a record (Table 8-1). -/
structure Reasons where
  gross     : Bool
  axle      : Bool
  tandem    : Bool
  tridem    : Bool
  unweighed : Bool
  truncated : Bool
  queueFull : Bool
deriving DecidableEq, Repr

/-- The set of flags of a record (Table 8-1). -/
structure RecFlags where
  lowSpeed        : Bool
  disagree        : Bool
  orphan          : Bool
  accel           : Bool
  tempStale       : Bool
  zeroOverdue     : Bool
  straddleMerged  : Bool
  straddleSuspect : Bool
  saturated       : Bool
  late            : Bool
  unadmitted      : Bool
deriving DecidableEq, Repr

def Reasons.empty : Reasons := ⟨false, false, false, false, false, false, false⟩
def RecFlags.empty : RecFlags := ⟨false, false, false, false, false, false, false, false, false, false, false⟩

/-- Table 8-2. A field not yet set is none: the speed until the axle pairs, or its substitute is resolved at the close (R58, R69). An axle
opens with the source PAIRED, awaiting the pair (R63). -/
structure Axle where
  s1Start : Time
  s1Area  : Nat
  s2Area  : Option Nat
  w1      : Option Nat
  w2      : Option Nat
  load    : Option Nat
  speed   : Option Nat
  source  : SpeedSource
  spacing : Option Nat
  group   : Option Nat
deriving DecidableEq, Repr

/-- The windows of a decided record (Table 8-7). -/
structure Windows where
  slipFrom   : Time
  slipTo     : Time
  threshFrom : Time
  threshTo   : Time
deriving DecidableEq, Repr

/-- The close readings the Weight Unit keeps with a record (R75); the generation is the record's own. -/
structure CloseReading where
  temp     : Option Int
  overdue1 : Bool
  overdue2 : Bool
  mode     : LaneMode
deriving DecidableEq, Repr

/-- A vehicle record (Table 8-1), with its close readings while it waits to be weighed. Its speed is set at its close (R69) and is none
before. `outlived` is the R8 latch of the test of R118 at the greatest TRACK_TTL, taken while the record waits for its decision (log entry
65). -/
structure VRecord where
  id        : Nat
  lane      : Lane
  weighTime : Time
  gen       : Nat
  st        : RecState
  speed     : Option Nat
  axles     : List Axle
  gross     : Option Nat
  upper     : Option Nat
  quality   : Option Quality
  cls       : Option Nat
  decision  : Option Decision
  decTime   : Option Time
  reasons   : Reasons
  flags     : RecFlags
  windows   : Option Windows
  admission : Admission
  deckLane  : Option Lane
  reading   : Option CloseReading
  outlived  : Bool
deriving DecidableEq, Repr

/-- A history summary (Table 8-5). -/
structure Summary where
  id          : Nat
  lane        : Lane
  gen         : Nat
  weighTime   : Time
  decTime     : Option Time
  closeTime   : Time
  disposition : Disposition
  decision    : Option Decision
  cls         : Option Nat
  quality     : Option Quality
  axleCount   : Nat
  speed       : Nat
  gross       : Option Nat
  upper       : Option Nat
  reasons     : Reasons
  flags       : RecFlags
  admission   : Admission
  deckLane    : Option Lane
deriving DecidableEq, Repr

/-- The Record Table: the records in use (every other of the 48 slots is FREE), the approach lists as lists of record ids,
and the history ring. -/
structure RtbState where
  pool     : List VRecord
  approach : Vector (List Nat) 3
  history  : List Summary
  nextId   : Nat
deriving DecidableEq, Repr

/-- The Route Tracker: the open-ghost mark of each E loop (R123). The windows stand in the records. -/
structure RtkState where
  ghost : Vector Bool 3
deriving DecidableEq, Repr

/-! ### Decision Unit (chapter 7) -/

inductive Aspect where
  | blank | divert | hold
deriving DecidableEq, Repr

/-- A snapshot entry (Table 7-7). -/
structure SnapEntry where
  id        : Nat
  weighTime : Time
  decTime   : Time
  decision  : Decision
  reasons   : Reasons
  quality   : Option Quality
  cls       : Option Nat
  axleCount : Nat
  speed     : Nat
  gross     : Option Nat
  upper     : Option Nat
  late      : Bool
deriving DecidableEq, Repr

/-- The Decision Unit (Table 7-2); `frozen` is the freeze time of a frozen snapshot. -/
structure DcuState where
  aspect : Vector Aspect 3
  force  : Vector (Option Time) 3
  camera : Vector (Option Time) 3
  snap   : Vector (Option SnapEntry) 3
  frozen : Option Time
deriving DecidableEq, Repr

/-! ### Deck Controller (chapter 9) -/

/-- Deck states in the order of Table 12-5. -/
inductive DeckSt where
  | resync | openDeck | isolated | resting | overloaded | blind | closed
deriving DecidableEq, Repr

/-- Deck signals in the order of Table 12-5. -/
inductive Signal where
  | go | heavyWait | allStop
deriving DecidableEq, Repr

/-- Causes of a DECK report (R148). -/
inductive DeckCause where
  | startSafe | deckClose | deckRelease | desyncFault | listOverflow | resyncEnd | noncompliantEntry | isolationEnd
  | restEnd | overload | overloadEnd | blindBegin | blindEnd
deriving DecidableEq, Repr

inductive EntryKind where
  | heavy | light | pending
deriving DecidableEq, Repr

/-- A deck order entry (Table 9-3). `load` is 0 and `recId` none where the entry has none; `noncompliant` marks a HEAVY
entry whose record's decision is DIVERT; `aged` is the R8 latch of its overstay test, and `agedFull` that of the same test at the greatest
DECK_OVERSTAY, which a commit of a longer one reads (log entry 34). -/
structure DeckEntry where
  kind         : EntryKind
  recId        : Option Nat
  entryTime    : Time
  load         : Nat
  admitted     : Bool
  ghost        : Bool
  noncompliant : Bool
  aged         : Bool
  agedFull     : Bool
deriving DecidableEq, Repr

/-- An outstanding grant (Table 9-2). -/
structure Grant where
  id     : Nat
  time   : Time
  load   : Nat
  expiry : Time
deriving DecidableEq, Repr

/-- The last grant time, with the latches of the HEADWAY and BLIND_CLEAR tests on it (R8, R133). -/
structure LastGrant where
  time      : Time
  headwayOk : Bool
  blindOk   : Bool
deriving DecidableEq, Repr

/-- The Deck Controller (Table 9-2). -/
structure DkcState where
  st            : DeckSt
  signal        : Signal
  queue         : List Nat
  grants        : List Grant
  grantTimes    : List Time
  lastGrant     : Option LastGrant
  committed     : Nat
  onDeck        : Nat
  lists         : Vector (List DeckEntry) 3
  overstayGiven : Vector Bool 3
  listFull      : Bool
  overload      : Bool
  blind         : Bool
  resyncOwed    : Bool
  timer         : Option Time
deriving DecidableEq, Repr

/-! ### Condition Monitor (chapter 10) -/

/-- Condition states in the order of Table 12-9. -/
inductive CondState where
  | clear | alert | fault | recovering
deriving DecidableEq, Repr

/-- One entry of the condition table (R153); `watch` is the watch time of RECOVERING (R159), and `lapsed` the R8 latch of its elapsed test,
that of the last time in ALERT (R155) and of the watch time in RECOVERING. -/
structure CondEntry where
  st      : CondState
  count   : Nat
  first   : Option Time
  last    : Option Time
  changed : Bool
  watch   : Option Time
  lapsed  : Bool
deriving DecidableEq, Repr

/-- Report mask of a kind, in the order of Table 12-10. -/
inductive MaskValue where
  | never | alert | fault | both
deriving DecidableEq, Repr

inductive DeviceMode where
  | normal | setup | safe
deriving DecidableEq, Repr

/-- Counters of a lane (Table 10-2). -/
structure LaneCounters where
  weighed      : BitVec 32
  unweighed    : BitVec 32
  diverted     : BitVec 32
  noncompliant : BitVec 32
deriving DecidableEq, Repr

/-- The Condition Monitor. -/
structure CmnState where
  conds        : Vector CondEntry 65
  convTimes    : List StoredTime
  desyncTimes  : List StoredTime
  nonIds       : Vector (List Nat) 3
  tempLostTime : Option Time
  windows      : Vector (List Bool) 3
  mask         : Vector MaskValue 17
  closedMark   : Vector Bool 3
  laneMode     : Vector LaneMode 3
  safeFlag     : Bool
  mode         : DeviceMode
  lanes        : Vector LaneCounters 3
  grants       : BitVec 32
  unadmitted   : BitVec 32
  ghosts       : BitVec 32
deriving DecidableEq, Repr

/-! ### Trace Store (chapter 11) -/

/-- A stored pulse record (Table 11-3). -/
structure TraceRecord where
  index   : Nat
  chan    : Chan
  start   : Time
  vehicle : Nat
  aborted : Bool
  missing : Bool
  samples : List Int
deriving DecidableEq, Repr

/-- The Trace Store (Table 11-2); `held` is the held vehicle id while HELD and none while NOT_HELD. -/
structure TrsState where
  ring      : List TraceRecord
  nextIndex : Nat
  held      : Option Nat
  notice    : Vector (Option (Time × Nat)) 6
deriving DecidableEq, Repr

/-! ### Link Interface and Settings Store (chapter 12) -/

/-- A valid request frame. -/
structure Request where
  type    : Byte
  tag     : Byte
  payload : List Byte
deriving DecidableEq, Repr

/-- Status codes in the order of Table 12-2. -/
inductive StatusCode where
  | ok | unknownType | badLength | badValue | access | busy | state | notFound
deriving DecidableEq, Repr

/-- What a VEHICLE report gives of an axle (R126). -/
structure AxleReport where
  load    : Nat
  source  : SpeedSource
  spacing : Option Nat
  group   : Nat
deriving DecidableEq, Repr

/-- Contents of a VEHICLE report (R126, Table 12-8). -/
structure VehicleReport where
  id        : Nat
  lane      : Lane
  gen       : Nat
  weighTime : Time
  decTime   : Time
  speed     : Nat
  quality   : Quality
  cls       : Nat
  decision  : Decision
  reasons   : Reasons
  flags     : RecFlags
  admission : Admission
  gross     : Nat
  upper     : Nat
  windows   : Windows
  axles     : List AxleReport
deriving DecidableEq, Repr

/-- Contents of a DISPOSITION report (R127). -/
structure DispositionReport where
  id          : Nat
  lane        : Lane
  disposition : Disposition
  closeTime   : Time
  decision    : Option Decision
  deckLane    : Option Lane
  admission   : Admission
deriving DecidableEq, Repr

/-- Contents of a CONDITION report (R160, Table 12-9). -/
structure ConditionReport where
  ix    : CondIx
  new   : CondState
  prev  : CondState
  count : Nat
  first : Option Time
  last  : Option Time
  now   : Time
deriving DecidableEq, Repr

/-- Contents of a DECK report (R148); `prev` is none for the change From "Start" of Table 9-4. -/
structure DeckReport where
  new       : DeckSt
  prev      : Option DeckSt
  cause     : DeckCause
  signal    : Signal
  onDeck    : Nat
  committed : Nat
  queueLen  : Nat
  now       : Time
deriving DecidableEq, Repr

/-- Contents of a CONVERSION report (R22); `result` none is MISSING, else the raw sample and its norm value. -/
structure ConversionReport where
  chan   : Fin 8
  gain   : Fin 4
  time   : Time
  result : Option (Int × Int)
deriving DecidableEq, Repr

/-- The reports of Table 12-4. -/
inductive Report where
  | vehicle (r : VehicleReport)
  | disposition (r : DispositionReport)
  | condition (r : ConditionReport)
  | deck (r : DeckReport)
  | conversion (r : ConversionReport)
  | traceHeld (vehicle : Nat) (now : Time) (newest : Nat)
  | start (warm : Bool) (safe : Bool) (gen : Nat) (now : Time)
deriving DecidableEq, Repr

/-- Contents of a STATUS answer (Table 12-5). -/
structure StatusBody where
  mode        : DeviceMode
  safeFlag    : Bool
  maintain    : Bool
  lastWarm    : Bool
  coldInd     : Bool
  noticeLoss  : Bool
  overrun     : Bool
  storeBusy   : Bool
  deck        : DeckSt
  signal      : Signal
  queueLen    : Nat
  grantTimes  : Nat
  laneMode    : Vector LaneMode 3
  gen         : Nat
  time        : Time
  seconds     : BitVec 32
  onDeck      : Nat
  committed   : Nat
  lanes       : Vector LaneCounters 3
  grants      : BitVec 32
  unadmitted  : BitVec 32
  ghosts      : BitVec 32
deriving DecidableEq, Repr

/-- What DECK_VIEW shows of a deck order entry (R150). -/
structure DeckEntryView where
  kind         : EntryKind
  recId        : Option Nat
  entryTime    : Time
  load         : Nat
  admitted     : Bool
  ghost        : Bool
  noncompliant : Bool
deriving DecidableEq, Repr

/-- What DECK_VIEW carries beside its entries (R150). -/
structure DeckViewHead where
  st         : DeckSt
  signal     : Signal
  onDeck     : Nat
  committed  : Nat
  budget     : Nat
  listFull   : Bool
  resyncOwed : Bool
  timerLeft  : Nat
  entries    : Nat
deriving DecidableEq, Repr

/-- The header fields of a stored pulse record (Table 11-3). -/
structure TraceHeader where
  index   : Nat
  chan    : Chan
  start   : Time
  count   : Nat
  vehicle : Nat
  aborted : Bool
  missing : Bool
deriving DecidableEq, Repr

/-- A sample as TRACE_READ gives it: a signed value of three bytes (R171). -/
abbrev TraceSample := BitVec 24

/-- The ring summary of TRACE_READ (R171). -/
structure TraceSummary where
  oldest  : Nat
  newest  : Nat
  free    : Nat
  mode    : TraceMode
  held    : Option Nat
deriving DecidableEq, Repr

/-- An entry as CONDITIONS gives it (R161). -/
structure CondView where
  ix      : CondIx
  st      : CondState
  count   : Nat
  first   : Option Time
  last    : Option Time
  changed : Bool
deriving DecidableEq, Repr

/-- What an answer carries after its status code. -/
inductive AnswerBody where
  | empty
  | badSetting (param : Nat) (entry : Nat)
  | status (b : StatusBody)
  | ident (gen : Nat) (checksum : BitVec 16)
  | conditions (entries : List CondView) (next : Nat)
  | masks (m : Vector MaskValue 17)
  | record (r : VRecord) (reserved : Option Nat)
  | records (rs : List (Nat × Lane × RecState))
  | history (ss : List Summary)
  | deck (head : DeckViewHead) (entries : List DeckEntryView)
  | queue (len : Nat) (entries : List (Nat × Lane × Option Time × Option Nat))
  | grants (len : Nat) (entries : List Grant) (times : List Time) (last : Option Time)
  | snapshot (frozen : Option Time) (entries : Vector (Option SnapEntry) 3) (aspects : Vector Aspect 3)
      (forceLeft : Vector Nat 3)
  | param (value : Int)
  | scanEntry (e : ScanEntry)
  | classEntry (e : ClassEntry)
  | limitRow (r : LimitRow)
  | trace (sum : TraceSummary) (rec : Option (TraceHeader × List TraceSample))
deriving DecidableEq, Repr

/-- An answer: the request's type and tag, its status code and its contents (R174). -/
structure Answer where
  type : Byte
  tag  : Byte
  code : StatusCode
  body : AnswerBody
deriving DecidableEq, Repr

/-- The frame the transmitter is sending. -/
inductive TxFrame where
  | answer (a : Answer)
  | report (r : Report)
deriving DecidableEq, Repr

/-- The Link Interface. -/
structure LkiState where
  rx             : List Byte
  rxLast         : Time
  requests       : List Request
  heldCommit     : Option Byte
  ready          : List Answer
  behind         : List Answer
  reports        : List Report
  tx             : Option TxFrame
  noticeLoss     : Bool
  requestOverrun : Bool
  lastValid      : Time
  silentGiven    : Bool
  linkRate       : Nat
  coldInd        : Bool
  lastWarm       : Bool
  warmDue        : Bool
deriving DecidableEq, Repr

/-- The Settings Store. -/
structure SstState where
  live      : Settings
  liveGen   : Nat
  retained  : Option (Nat × Settings)
  working   : Option Settings
  storeBusy : Bool
  image     : Settings
  imageGood : Bool
  checksum  : BitVec 16
deriving DecidableEq, Repr

/-- The whole controller, the model's counter of free values, and the queue of waiting commands. -/
structure State where
  tbu       : TbuState
  csq       : CsqState
  scu       : Vector ScuState 6
  zsc       : ZscState
  liu       : LiuState
  las       : Vector LasState 3
  dcu       : DcuState
  rtb       : RtbState
  rtk       : RtkState
  dkc       : DkcState
  cmn       : CmnState
  trs       : TrsState
  lki       : LkiState
  sst       : SstState
  freeIndex : Nat
  pending   : List Instr
deriving DecidableEq, Repr

/-! ### The state after reset -/

/-- An entry of the condition table that is CLEAR (R166). -/
def CondEntry.initial : CondEntry := ⟨.clear, 0, none, none, false, none, false⟩

/-- The entry of STORE_FAULT after a cold start with a bad checksum (R166, R181). -/
def CondEntry.storeFault : CondEntry := ⟨.fault, 1, some 0, some 0, true, none, false⟩

/-- The machine right after reset: the state after a cold start (R181 and the start rules of every chapter) with a store
whose checksum is bad, all input lines low. The spec gives no content of a store that was never written (log entry 5),
nor a start value of the fields of log entries 59 and 66. -/
def State.reset : State where
  tbu := { time := 0, seconds := 0, secTicks := 0, divider := 0, scanDue := true }
  csq := { nextNumber := 0, inForce := blankSettings.conv, passTime := 0, slotIx := 0, slots := [],
           held := Vector.replicate 8 0, single := none, temp := ⟨none, false⟩, refFails := 0 }
  scu := Vector.replicate 6
    { det := .idle, start := 0, count := 0, area := 0, peak := 0, missing := 0, tailSamples := 0, tailBuf := [],
      span := [], cur := none, prev := none, stuckRun := 0, cfg := blankSettings.det }
  zsc := { chans := Vector.replicate 6 ⟨0, none, false, true, .fresh, 0⟩, pointer := 0, meas := none }
  liu := { pins := Vector.replicate 12 false, deb := Vector.replicate 12 ⟨false, none, 0⟩,
           loops := Vector.replicate 10 ⟨0, false, .none, none, []⟩ }
  las := Vector.replicate 3
    { fifo := [], openVeh := none, sealed := [], pendingList := [], vref := none, silentS1 := 0, silentS2 := 0,
      nextVeh := 0 }
  dcu := { aspect := Vector.replicate 3 .divert, force := Vector.replicate 3 none, camera := Vector.replicate 3 none,
           snap := Vector.replicate 3 none, frozen := none }
  rtb := { pool := [], approach := Vector.replicate 3 [], history := [], nextId := 1 }
  rtk := { ghost := Vector.replicate 3 false }
  dkc := { st := .closed, signal := .allStop, queue := [], grants := [], grantTimes := [], lastGrant := none,
           committed := 0, onDeck := 0, lists := Vector.replicate 3 [], overstayGiven := Vector.replicate 3 false,
           listFull := false, overload := false, blind := false, resyncOwed := false, timer := none }
  cmn := { conds := (Vector.replicate 65 CondEntry.initial).set 63 CondEntry.storeFault, convTimes := [],
           desyncTimes := [], nonIds := Vector.replicate 3 [], tempLostTime := none, windows := Vector.replicate 3 [],
           mask := Vector.replicate 17 .both, closedMark := Vector.replicate 3 false,
           laneMode := Vector.replicate 3 .blanket, safeFlag := true, mode := .safe,
           lanes := Vector.replicate 3 ⟨0, 0, 0, 0⟩, grants := 0, unadmitted := 0, ghosts := 0 }
  trs := { ring := [], nextIndex := 1, held := none, notice := Vector.replicate 6 none }
  lki := { rx := [], rxLast := 0, requests := [], heldCommit := none, ready := [], behind := [],
           reports := [.deck ⟨.closed, none, .startSafe, .allStop, 0, 0, 0, 0⟩,
                       .condition ⟨63, .fault, .clear, 1, some 0, some 0, 0⟩],
           tx := some (.report (.start false true 0 0)), noticeLoss := false, requestOverrun := false, lastValid := 0,
           silentGiven := false, linkRate := 115200, coldInd := true, lastWarm := false, warmDue := false }
  sst := { live := blankSettings, liveGen := 0, retained := none, working := none, storeBusy := false,
           image := blankSettings, imageGood := false, checksum := 0 }
  freeIndex := 0
  pending := []

end Sys2Proof.Machine
end

