-- ==== Sys2Proof/Machine/Ops.lean ====
section
/-! DEFINITION. The named operations every block uses: time tests and travel formulas (chapter 1), the placing of reports and
answers and the transmitter (chapter 12), the record pool (chapter 8), and reads of settings, loops and lanes. -/

namespace Sys2Proof.Machine

/-! ### Vectors -/

/-- The vector with entry i replaced. -/
def put {α : Type} {n : Nat} (v : Vector α n) (i : Fin n) (x : α) : Vector α n := v.set i.val x i.isLt

/-- The vector with entry i changed by f. -/
def change {α : Type} {n : Nat} (v : Vector α n) (i : Fin n) (f : α → α) : Vector α n := put v i (f v[i])

/-- The vector with every entry changed by f. -/
def mapVec {α β : Type} {n : Nat} (f : α → β) (v : Vector α n) : Vector β n := Vector.ofFn fun i => f v[i]

/-- The lanes in ascending order. -/
def allLanes : List Lane := [0, 1, 2]
/-- The strip channels in ascending order. -/
def allChans : List Chan := [0, 1, 2, 3, 4, 5]
/-- The loops in the order P0-P2, E0-E2, X0-X2, D. -/
def allLoops : List Loop := [0, 1, 2, 3, 4, 5, 6, 7, 8, 9]
/-- The condition indexes in ascending order. -/
def allConds : List CondIx := List.finRange 65

/-- The leading strip channel 2L and the trailing strip channel 2L + 1 of lane L (Table 0-5). -/
def s1Chan (l : Lane) : Chan := ⟨2 * l.val, by omega⟩
def s2Chan (l : Lane) : Chan := ⟨2 * l.val + 1, by omega⟩
/-- The lane of a strip channel. -/
def chanLane (c : Chan) : Lane := ⟨c.val / 2, by omega⟩
/-- Loops P_L, E_L, X_L of lane L, and D (Table 0-6). -/
def pLoop (l : Lane) : Loop := ⟨l.val, by omega⟩
def eLoop (l : Lane) : Loop := ⟨3 + l.val, by omega⟩
def xLoop (l : Lane) : Loop := ⟨6 + l.val, by omega⟩
def dLoop : Loop := 9
/-- The field inputs ENF and MK, and the input of a loop. -/
def enfInput : Input := 10
def mkInput : Input := 11
def loopInput (l : Loop) : Input := ⟨l.val, by omega⟩
/-- The place of a loop. -/
inductive LoopRole where
  | presence (l : Lane) | threshold (l : Lane) | deckExit (l : Lane) | slip
deriving DecidableEq, Repr
def loopRole (l : Loop) : LoopRole :=
  if h : l.val < 3 then .presence ⟨l.val, h⟩
  else if h : l.val < 6 then .threshold ⟨l.val - 3, by omega⟩
  else if h : l.val < 9 then .deckExit ⟨l.val - 6, by omega⟩
  else .slip
/-- The lane a loop belongs to; the D loop belongs to none (R2). -/
def loopLane (l : Loop) : Option Lane :=
  match loopRole l with
  | .presence k | .threshold k | .deckExit k => some k
  | .slip => none

/-! ### Time (R5 to R8) -/

/-- The present device time. -/
def State.now (s : State) : Time := s.tbu.time

/-- A duration set in ms, and one set in s, in ticks (00, section 0.7.1). -/
def ms (n : Nat) : Nat := n * Config.ticksPerMs
def secs (n : Nat) : Nat := n * Config.ticksPerS

/-- (b - a) mod 2^32. -/
def ticksFrom (a b : Time) : Nat := (b - a).toNat

/-- "d has passed since t" (R7). -/
def passed (now t : Time) (d : Nat) : Bool := d ≤ ticksFrom t now

/-- "a is earlier than b", "b is later than a" (R7). -/
def earlier (a b : Time) : Bool := 1 ≤ ticksFrom a b && ticksFrom a b ≤ 2147483647

/-- "t lies in the window from a to b" (R7). -/
def inWindow (t a b : Time) : Bool := ticksFrom a t ≤ ticksFrom a b

/-- The end time e is reached: now is not earlier than e (R7, R8). -/
def reached (now e : Time) : Bool := !earlier now e

/-- t + d mod 2^32. -/
def after (t : Time) (d : Nat) : Time := t + BitVec.ofNat 32 d

/-- The difference of two times in either direction (R70). -/
def apart (a b : Time) : Nat := min (ticksFrom a b) (ticksFrom b a)

/-- The list kept in ascending time with x inserted after every entry not later than it (R7). -/
def insertByTime {α : Type} (time : α → Time) (x : α) : List α → List α
  | [] => [x]
  | y :: ys => if earlier (time x) (time y) then x :: y :: ys else y :: insertByTime time x ys

/-! ### Speed and travel (R9 to R11) -/

/-- ceil(a / b) for b > 0. -/
def ceilDiv (a b : Nat) : Nat := (a + b - 1) / b

/-- Travel time of d mm at s mm/s, rounded down or up (R10); s is at least 1. -/
def travelFloor (d s : Nat) : Nat := d * 100000 / max s 1
def travelCeil (d s : Nat) : Nat := ceilDiv (d * 100000) (max s 1)

/-- The fast speed of the tracking windows (R10). -/
def fastSpeed (vMax fastPct s : Nat) : Nat := min vMax (s * (100 + fastPct) / 100)

/-- The travel distance covered in a time difference at speed s (R11). -/
def travelDistance (ticks s : Nat) : Nat := ticks * s / 100000

/-! ### Lists -/

/-- The oldest entries dropped until at most n are left. -/
def keepNewest {α : Type} (n : Nat) (xs : List α) : List α := xs.drop (xs.length - n)

/-- The newest n stored times after time t, the oldest leaving beyond n (R49, R156, R157). -/
def addTime (n : Nat) (t : Time) (xs : List StoredTime) : List StoredTime := keepNewest n (xs ++ [⟨t, false⟩])

/-- The list holds n times and the oldest lies less than d before t; a time latched as old never does (R8). -/
def recentRun (n d : Nat) (t : Time) (xs : List StoredTime) : Bool :=
  xs.length == n && xs.head?.any fun o => !o.old && ticksFrom o.time t < d

/-- Each time from which d has passed is latched as old (R8). -/
def latchOld (now : Time) (d : Nat) (xs : List StoredTime) : List StoredTime :=
  xs.map fun o => { o with old := o.old || passed now o.time d }

/-- The first n entries from a first position (R150). -/
def segment {α : Type} (first n : Nat) (xs : List α) : List α := (xs.drop first).take n

/-! ### Settings in force -/

/-- The settings of a generation: the live one, or the retained one (R180). -/
def State.settingsOf (s : State) (gen : Nat) : Settings :=
  if gen = s.sst.liveGen then s.sst.live
  else match s.sst.retained with
    | some (g, st) => if g = gen then st else s.sst.live
    | none => s.sst.live

/-- Lanes 0 to LANE_COUNT - 1 are present (R1). -/
def lanePresent (st : Settings) (l : Lane) : Bool := l.val < st.site.laneCount

/-- Lanes k and k +- 1 are adjacent when both are present (R1). -/
def adjacent (st : Settings) (a b : Lane) : Bool :=
  lanePresent st a && lanePresent st b && (a.val + 1 == b.val || b.val + 1 == a.val)

/-- The used entries of a scan list: entries 0 to the one marked END; none when no entry is marked (R15, R26). -/
def usedEntries (list : Vector ScanEntry 16) : List ScanEntry :=
  match list.toList.findIdx? (·.endMark) with
  | some j => list.toList.take (j + 1)
  | none => []

/-- Channel c appears in a used entry with EVERY 1. -/
def scansChan (list : Vector ScanEntry 16) (c : Chan) : Bool :=
  (usedEntries list).any fun e => e.channel.val == c.val && e.every == 1

/-- Both strip channels of the lane appear in used entries with EVERY 1 (R18). -/
def coversLane (list : Vector ScanEntry 16) (l : Lane) : Bool := scansChan list (s1Chan l) && scansChan list (s2Chan l)

/-- A loop is in use when its LOOP_USE is used and its lane, if it has one, is present (R2, R45). -/
def loopInUse (st : Settings) (l : Loop) : Bool :=
  st.loop.loopUsed[l] && (match loopLane l with | some k => lanePresent st k | none => true)

/-- The interpreted raw level of a loop under a polarity (R45). -/
def interpret (pol : LoopPol) (pin : Bool) : Bool :=
  match pol with
  | .occHigh => pin
  | .occLow => !pin

/-- A loop is in service when it is in use and not faulted (R50). -/
def inService (s : State) (l : Loop) : Bool :=
  loopInUse s.sst.live l && s.liu.loops[l].stuck != .faulted &&
    !(s.liu.loops[l].chatter.any (·.faultGiven))

/-- The key is at MAINTAIN (R53). -/
def maintain (s : State) : Bool := s.liu.deb[mkInput].level

/-! ### The transmitter (R175) -/

/-- The transmitter chooses the next frame when it is idle: the oldest ready answer, otherwise the oldest report. It stays
idle once the OK answer to a RESTART has been sent, for the warm start then begins (R182; log entry 19). -/
def kick (s : State) : State :=
  if s.lki.tx.isSome || s.lki.warmDue then s
  else match s.lki.ready, s.lki.reports with
    | a :: as, _ => { s with lki.tx := some (.answer a), lki.ready := as }
    | [], r :: rs => { s with lki.tx := some (.report r), lki.reports := rs }
    | [], [] => s

/-- The report at the tail of the queue, the oldest pushed out of a full one with NOTICE_LOSS set (R175). -/
def enqueueReport (r : Report) (s : State) : State :=
  if Config.reportCap ≤ s.lki.reports.length then
    { s with lki.reports := s.lki.reports.tail ++ [r], lki.noticeLoss := true }
  else { s with lki.reports := s.lki.reports ++ [r] }

/-- Place a report in the report queue; an idle transmitter takes it up (R175). -/
def placeReport (r : Report) (s : State) : State := kick (enqueueReport r s)

/-- An answer is formed: it is ready, or waits behind the held answer of a SETUP_COMMIT (R175). -/
def giveAnswer (a : Answer) (s : State) : State :=
  if s.lki.heldCommit.isSome then { s with lki.behind := s.lki.behind ++ [a] }
  else kick { s with lki.ready := s.lki.ready ++ [a] }

/-- The answer to a request: TYPE plus 0x80, its TAG, the status code and what follows it (R174). -/
def reply (r : Request) (code : StatusCode) (body : AnswerBody) (s : State) : State :=
  giveAnswer ⟨r.type + 0x80, r.tag, code, body⟩ s

/-- A refusal, which carries the status byte alone (R174). -/
def refuse (r : Request) (code : StatusCode) (s : State) : State := reply r code .empty s

/-- OK with no further contents. -/
def accept (r : Request) (s : State) : State := reply r .ok .empty s

/-! ### The record pool (R112) -/

/-- The record of an id, if the pool holds it. -/
def findRec (s : State) (id : Nat) : Option VRecord := s.rtb.pool.find? (·.id == id)

/-- The record of an id changed by f. -/
def changeRec (id : Nat) (f : VRecord → VRecord) (s : State) : State :=
  { s with rtb.pool := s.rtb.pool.map fun r => if r.id == id then f r else r }

/-- The number of FREE slots. -/
def freeSlots (s : State) : Nat := Config.poolSlots - s.rtb.pool.length

/-- The free values are used in turn: the index of the next one, advanced (log entry 9). -/
def useFree (s : State) : State := { s with freeIndex := s.freeIndex + 1 }

end Sys2Proof.Machine
end

