-- ==== Sys2Proof/Machine/Param.lean ====
section
/-! DEFINITION. The settings by parameter number (12, section 12.7): which number names which setting, its range, and how it is
read from and written to a set of settings. The codes of named values are their places in the listed order, TRACE_CH is a bit mask
of channels (log entry 6). -/

namespace Sys2Proof.Machine

/-- The settings that have one value each; the three tables stand apart. -/
inductive Param where
  | laneCount
  | startOpen (i : Lane)
  | stripSpacing (i : Lane)
  | signDist (i : Lane)
  | slipDist (i : Lane)
  | threshDist (i : Lane)
  | scanDiv
  | tempOfs
  | tempGain
  | tempStale
  | refNom
  | refTol
  | refN
  | pulseOn
  | pulseOff
  | pulseMin
  | pulseMax
  | pulseRejoin
  | baseRef (i : Chan)
  | zeroN
  | zeroInterval
  | zeroOverdue
  | zeroSpread
  | zeroRange
  | loopUse (i : Loop)
  | loopPol (i : Loop)
  | loopStable
  | loopStuck
  | chatterN
  | enfEdge
  | vMax
  | vPairMin
  | vNominal
  | splitGap
  | closeGap
  | straddleWin
  | straddleWait
  | fch (i : Chan)
  | tempQ (i : Fin 9)
  | agreePm
  | marginA
  | marginB
  | accelPct
  | groupGap
  | vLow
  | gapB1
  | gapB2
  | gapB3
  | heavyThreshold
  | uDivertAxles
  | camPulse
  | fastPct
  | vCrawl
  | trackTtl
  | ghostLong
  | budget
  | winMax
  | winLen
  | headway
  | grantTtl
  | restTime
  | resyncTime
  | blindClear
  | overstay
  | unknownLoad
  | traceMode
  | traceCh
  | linkBaud
  | linkSilent
deriving DecidableEq, Repr

/-- The place of a value in the list of its setting's named values. -/
def codeOf {α : Type} [BEq α] (names : List α) (x : α) : Int := Int.ofNat (names.idxOf x)

/-- The named value at a place of the list. -/
def nameOf {α : Type} (first : α) (names : List α) (v : Int) : α := names.getD v.toNat first

/-- A set of strip channels as a bit mask, bit c being channel c. -/
def maskOfSet (set : Vector Bool 6) : Nat :=
  (allChans.map fun c => if set[c] then 2 ^ c.val else 0).sum

/-- The set of strip channels of a bit mask. -/
def setOfMask (m : Nat) : Vector Bool 6 := Vector.ofFn fun c => m.testBit c.val

/-- A number of a run of k numbers from base on, as its place in the run. -/
def inRun (n base k : Nat) : Option (Fin k) := if h : base ≤ n ∧ n - base < k then some ⟨n - base, h.2⟩ else none

/-- The number of a parameter (12, section 12.7). -/
def Param.number : Param → Nat
  | .laneCount => 1
  | .startOpen i => 2 + i.val
  | .stripSpacing i => 5 + i.val
  | .signDist i => 8 + i.val
  | .slipDist i => 11 + i.val
  | .threshDist i => 14 + i.val
  | .scanDiv => 20
  | .tempOfs => 22
  | .tempGain => 23
  | .tempStale => 24
  | .refNom => 25
  | .refTol => 26
  | .refN => 27
  | .pulseOn => 30
  | .pulseOff => 31
  | .pulseMin => 32
  | .pulseMax => 33
  | .pulseRejoin => 34
  | .baseRef i => 35 + i.val
  | .zeroN => 41
  | .zeroInterval => 42
  | .zeroOverdue => 43
  | .zeroSpread => 44
  | .zeroRange => 45
  | .loopUse i => 50 + i.val
  | .loopPol i => 60 + i.val
  | .loopStable => 70
  | .loopStuck => 71
  | .chatterN => 72
  | .enfEdge => 73
  | .vMax => 80
  | .vPairMin => 81
  | .vNominal => 82
  | .splitGap => 83
  | .closeGap => 84
  | .straddleWin => 85
  | .straddleWait => 86
  | .fch i => 90 + i.val
  | .tempQ i => 96 + i.val
  | .agreePm => 105
  | .marginA => 106
  | .marginB => 107
  | .accelPct => 108
  | .groupGap => 109
  | .vLow => 110
  | .gapB1 => 120
  | .gapB2 => 121
  | .gapB3 => 122
  | .heavyThreshold => 123
  | .uDivertAxles => 124
  | .camPulse => 127
  | .fastPct => 140
  | .vCrawl => 141
  | .trackTtl => 142
  | .ghostLong => 143
  | .budget => 150
  | .winMax => 151
  | .winLen => 152
  | .headway => 153
  | .grantTtl => 154
  | .restTime => 155
  | .resyncTime => 156
  | .blindClear => 157
  | .overstay => 158
  | .unknownLoad => 159
  | .traceMode => 160
  | .traceCh => 161
  | .linkBaud => 170
  | .linkSilent => 171

/-- The parameters that stand alone under their numbers. -/
def Param.single (n : Nat) : Option Param :=
  match n with
  | 1 => some .laneCount
  | 20 => some .scanDiv
  | 22 => some .tempOfs
  | 23 => some .tempGain
  | 24 => some .tempStale
  | 25 => some .refNom
  | 26 => some .refTol
  | 27 => some .refN
  | 30 => some .pulseOn
  | 31 => some .pulseOff
  | 32 => some .pulseMin
  | 33 => some .pulseMax
  | 34 => some .pulseRejoin
  | 41 => some .zeroN
  | 42 => some .zeroInterval
  | 43 => some .zeroOverdue
  | 44 => some .zeroSpread
  | 45 => some .zeroRange
  | 70 => some .loopStable
  | 71 => some .loopStuck
  | 72 => some .chatterN
  | 73 => some .enfEdge
  | 80 => some .vMax
  | 81 => some .vPairMin
  | 82 => some .vNominal
  | 83 => some .splitGap
  | 84 => some .closeGap
  | 85 => some .straddleWin
  | 86 => some .straddleWait
  | 105 => some .agreePm
  | 106 => some .marginA
  | 107 => some .marginB
  | 108 => some .accelPct
  | 109 => some .groupGap
  | 110 => some .vLow
  | 120 => some .gapB1
  | 121 => some .gapB2
  | 122 => some .gapB3
  | 123 => some .heavyThreshold
  | 124 => some .uDivertAxles
  | 127 => some .camPulse
  | 140 => some .fastPct
  | 141 => some .vCrawl
  | 142 => some .trackTtl
  | 143 => some .ghostLong
  | 150 => some .budget
  | 151 => some .winMax
  | 152 => some .winLen
  | 153 => some .headway
  | 154 => some .grantTtl
  | 155 => some .restTime
  | 156 => some .resyncTime
  | 157 => some .blindClear
  | 158 => some .overstay
  | 159 => some .unknownLoad
  | 160 => some .traceMode
  | 161 => some .traceCh
  | 170 => some .linkBaud
  | 171 => some .linkSilent
  | _ => none

/-- The parameter of a number; none where the number names no setting of one value. -/
def Param.ofNumber (n : Nat) : Option Param :=
  Param.single n
    <|> (inRun n 2 3).map .startOpen
    <|> (inRun n 5 3).map .stripSpacing
    <|> (inRun n 8 3).map .signDist
    <|> (inRun n 11 3).map .slipDist
    <|> (inRun n 14 3).map .threshDist
    <|> (inRun n 35 6).map .baseRef
    <|> (inRun n 50 10).map .loopUse
    <|> (inRun n 60 10).map .loopPol
    <|> (inRun n 90 6).map .fch
    <|> (inRun n 96 9).map .tempQ

/-- The bounds of a parameter's range (12, section 12.7). -/
def Param.bounds : Param → Int × Int
  | .laneCount => (1, 3)
  | .startOpen _ => (0, 1)
  | .stripSpacing _ => (1000, 5000)
  | .signDist _ => (20000, 2000000)
  | .slipDist _ => (20000, 3000000)
  | .threshDist _ => (40000, 4000000)
  | .scanDiv => (16, 999)
  | .tempOfs => (-262144, 262143)
  | .tempGain => (-65535, 65535)
  | .tempStale => (10, 3600)
  | .refNom => (-262144, 262136)
  | .refTol => (0, 262143)
  | .refN => (1, 255)
  | .pulseOn => (1, 262143)
  | .pulseOff => (1, 262143)
  | .pulseMin => (1, 64)
  | .pulseMax => (16, 1024)
  | .pulseRejoin => (0, 16)
  | .baseRef _ => (-262144, 262136)
  | .zeroN => (16, 1024)
  | .zeroInterval => (10, 3600)
  | .zeroOverdue => (60, 86400)
  | .zeroSpread => (0, 524280)
  | .zeroRange => (0, 524280)
  | .loopUse _ => (0, 1)
  | .loopPol _ => (0, 1)
  | .loopStable => (1, 500)
  | .loopStuck => (10, 3600)
  | .chatterN => (4, 100)
  | .enfEdge => (0, 3)
  | .vMax => (5000, 40000)
  | .vPairMin => (500, 5000)
  | .vNominal => (500, 40000)
  | .splitGap => (3000, 30000)
  | .closeGap => (100, 10000)
  | .straddleWin => (0, 500)
  | .straddleWait => (100, 3000)
  | .fch _ => (1, 1048575)
  | .tempQ _ => (2048, 8191)
  | .agreePm => (1, 500)
  | .marginA => (0, 500)
  | .marginB => (0, 500)
  | .accelPct => (1, 50)
  | .groupGap => (500, 3000)
  | .vLow => (500, 10000)
  | .gapB1 => (500, 20000)
  | .gapB2 => (500, 20000)
  | .gapB3 => (500, 20000)
  | .heavyThreshold => (1000, 100000)
  | .uDivertAxles => (1, 13)
  | .camPulse => (20, 2000)
  | .fastPct => (0, 100)
  | .vCrawl => (300, 10000)
  | .trackTtl => (30, 3600)
  | .ghostLong => (100, 5000)
  | .budget => (5000, 200000)
  | .winMax => (1, 8)
  | .winLen => (10, 3600)
  | .headway => (0, 600)
  | .grantTtl => (10, 1800)
  | .restTime => (0, 3600)
  | .resyncTime => (10, 3600)
  | .blindClear => (10, 3600)
  | .overstay => (30, 7200)
  | .unknownLoad => (1000, 100000)
  | .traceMode => (0, 2)
  | .traceCh => (0, 63)
  | .linkBaud => (9600, 115200)
  | .linkSilent => (5, 3600)

/-- The permitted link rates (R183). -/
def linkRates : List Int := [9600, 19200, 38400, 57600, 115200]

/-- A value lies in the parameter's range; TEMP_GAIN is not 0, LINK_BAUD is one of its rates. -/
def Param.accepts (p : Param) (v : Int) : Bool :=
  p.bounds.1 ≤ v && v ≤ p.bounds.2 && (p != .tempGain || v != 0) && (p != .linkBaud || linkRates.contains v)

/-- The value of a parameter; an unset F_ch is shown as 0 (R177). -/
def Param.get (st : Settings) : Param → Int
  | .laneCount => Int.ofNat st.site.laneCount
  | .startOpen i => codeOf [true, false] st.site.startOpen[i]
  | .stripSpacing i => Int.ofNat st.site.stripSpacing[i]
  | .signDist i => Int.ofNat st.site.signDist[i]
  | .slipDist i => Int.ofNat st.site.slipDist[i]
  | .threshDist i => Int.ofNat st.site.threshDist[i]
  | .scanDiv => Int.ofNat st.conv.scanDiv
  | .tempOfs => st.conv.tempOfs
  | .tempGain => st.conv.tempGain
  | .tempStale => Int.ofNat st.conv.tempStale
  | .refNom => st.conv.refNom
  | .refTol => Int.ofNat st.conv.refTol
  | .refN => Int.ofNat st.conv.refN
  | .pulseOn => Int.ofNat st.det.pulseOn
  | .pulseOff => Int.ofNat st.det.pulseOff
  | .pulseMin => Int.ofNat st.det.pulseMin
  | .pulseMax => Int.ofNat st.det.pulseMax
  | .pulseRejoin => Int.ofNat st.det.pulseRejoin
  | .baseRef i => st.zero.baseRef[i]
  | .zeroN => Int.ofNat st.zero.zeroN
  | .zeroInterval => Int.ofNat st.zero.zeroInterval
  | .zeroOverdue => Int.ofNat st.zero.zeroOverdue
  | .zeroSpread => Int.ofNat st.zero.zeroSpread
  | .zeroRange => Int.ofNat st.zero.zeroRange
  | .loopUse i => codeOf [true, false] st.loop.loopUsed[i]
  | .loopPol i => codeOf [LoopPol.occHigh, .occLow] st.loop.loopPol[i]
  | .loopStable => Int.ofNat st.loop.loopStable
  | .loopStuck => Int.ofNat st.loop.loopStuck
  | .chatterN => Int.ofNat st.loop.chatterN
  | .enfEdge => codeOf [EnfEdge.off, .rise, .fall, .both] st.loop.enfEdge
  | .vMax => Int.ofNat st.asm.vMax
  | .vPairMin => Int.ofNat st.asm.vPairMin
  | .vNominal => Int.ofNat st.asm.vNominal
  | .splitGap => Int.ofNat st.asm.splitGap
  | .closeGap => Int.ofNat st.asm.closeGap
  | .straddleWin => Int.ofNat st.asm.straddleWin
  | .straddleWait => Int.ofNat st.asm.straddleWait
  | .fch i => Int.ofNat (st.weigh.fch[i].getD 0)
  | .tempQ i => Int.ofNat st.weigh.tempQ[i]
  | .agreePm => Int.ofNat st.weigh.agreePm
  | .marginA => Int.ofNat st.weigh.marginA
  | .marginB => Int.ofNat st.weigh.marginB
  | .accelPct => Int.ofNat st.weigh.accelPct
  | .groupGap => Int.ofNat st.weigh.groupGap
  | .vLow => Int.ofNat st.weigh.vLow
  | .gapB1 => Int.ofNat st.dec.gapB1
  | .gapB2 => Int.ofNat st.dec.gapB2
  | .gapB3 => Int.ofNat st.dec.gapB3
  | .heavyThreshold => Int.ofNat st.dec.heavyThreshold
  | .uDivertAxles => Int.ofNat st.dec.uDivertAxles
  | .camPulse => Int.ofNat st.dec.camPulse
  | .fastPct => Int.ofNat st.track.fastPct
  | .vCrawl => Int.ofNat st.track.vCrawl
  | .trackTtl => Int.ofNat st.track.trackTtl
  | .ghostLong => Int.ofNat st.track.ghostLong
  | .budget => Int.ofNat st.deck.budget
  | .winMax => Int.ofNat st.deck.winMax
  | .winLen => Int.ofNat st.deck.winLen
  | .headway => Int.ofNat st.deck.headway
  | .grantTtl => Int.ofNat st.deck.grantTtl
  | .restTime => Int.ofNat st.deck.restTime
  | .resyncTime => Int.ofNat st.deck.resyncTime
  | .blindClear => Int.ofNat st.deck.blindClear
  | .overstay => Int.ofNat st.deck.overstay
  | .unknownLoad => Int.ofNat st.deck.unknownLoad
  | .traceMode => codeOf [TraceMode.off, .running, .holdOnDivert] st.link.traceMode
  | .traceCh => Int.ofNat (maskOfSet st.link.traceCh)
  | .linkBaud => Int.ofNat st.link.linkBaud
  | .linkSilent => Int.ofNat st.link.linkSilent

/-- The settings with a parameter's value replaced. -/
def Param.set (st : Settings) (v : Int) : Param → Settings
  | .laneCount => { st with site.laneCount := v.toNat }
  | .startOpen i => { st with site.startOpen := put st.site.startOpen i (v == 0) }
  | .stripSpacing i => { st with site.stripSpacing := put st.site.stripSpacing i v.toNat }
  | .signDist i => { st with site.signDist := put st.site.signDist i v.toNat }
  | .slipDist i => { st with site.slipDist := put st.site.slipDist i v.toNat }
  | .threshDist i => { st with site.threshDist := put st.site.threshDist i v.toNat }
  | .scanDiv => { st with conv.scanDiv := v.toNat }
  | .tempOfs => { st with conv.tempOfs := v }
  | .tempGain => { st with conv.tempGain := v }
  | .tempStale => { st with conv.tempStale := v.toNat }
  | .refNom => { st with conv.refNom := v }
  | .refTol => { st with conv.refTol := v.toNat }
  | .refN => { st with conv.refN := v.toNat }
  | .pulseOn => { st with det.pulseOn := v.toNat }
  | .pulseOff => { st with det.pulseOff := v.toNat }
  | .pulseMin => { st with det.pulseMin := v.toNat }
  | .pulseMax => { st with det.pulseMax := v.toNat }
  | .pulseRejoin => { st with det.pulseRejoin := v.toNat }
  | .baseRef i => { st with zero.baseRef := put st.zero.baseRef i v }
  | .zeroN => { st with zero.zeroN := v.toNat }
  | .zeroInterval => { st with zero.zeroInterval := v.toNat }
  | .zeroOverdue => { st with zero.zeroOverdue := v.toNat }
  | .zeroSpread => { st with zero.zeroSpread := v.toNat }
  | .zeroRange => { st with zero.zeroRange := v.toNat }
  | .loopUse i => { st with loop.loopUsed := put st.loop.loopUsed i (v == 0) }
  | .loopPol i => { st with loop.loopPol := put st.loop.loopPol i (nameOf .occHigh [.occHigh, .occLow] v) }
  | .loopStable => { st with loop.loopStable := v.toNat }
  | .loopStuck => { st with loop.loopStuck := v.toNat }
  | .chatterN => { st with loop.chatterN := v.toNat }
  | .enfEdge => { st with loop.enfEdge := nameOf .off [.off, .rise, .fall, .both] v }
  | .vMax => { st with asm.vMax := v.toNat }
  | .vPairMin => { st with asm.vPairMin := v.toNat }
  | .vNominal => { st with asm.vNominal := v.toNat }
  | .splitGap => { st with asm.splitGap := v.toNat }
  | .closeGap => { st with asm.closeGap := v.toNat }
  | .straddleWin => { st with asm.straddleWin := v.toNat }
  | .straddleWait => { st with asm.straddleWait := v.toNat }
  | .fch i => { st with weigh.fch := put st.weigh.fch i (some v.toNat) }
  | .tempQ i => { st with weigh.tempQ := put st.weigh.tempQ i v.toNat }
  | .agreePm => { st with weigh.agreePm := v.toNat }
  | .marginA => { st with weigh.marginA := v.toNat }
  | .marginB => { st with weigh.marginB := v.toNat }
  | .accelPct => { st with weigh.accelPct := v.toNat }
  | .groupGap => { st with weigh.groupGap := v.toNat }
  | .vLow => { st with weigh.vLow := v.toNat }
  | .gapB1 => { st with dec.gapB1 := v.toNat }
  | .gapB2 => { st with dec.gapB2 := v.toNat }
  | .gapB3 => { st with dec.gapB3 := v.toNat }
  | .heavyThreshold => { st with dec.heavyThreshold := v.toNat }
  | .uDivertAxles => { st with dec.uDivertAxles := v.toNat }
  | .camPulse => { st with dec.camPulse := v.toNat }
  | .fastPct => { st with track.fastPct := v.toNat }
  | .vCrawl => { st with track.vCrawl := v.toNat }
  | .trackTtl => { st with track.trackTtl := v.toNat }
  | .ghostLong => { st with track.ghostLong := v.toNat }
  | .budget => { st with deck.budget := v.toNat }
  | .winMax => { st with deck.winMax := v.toNat }
  | .winLen => { st with deck.winLen := v.toNat }
  | .headway => { st with deck.headway := v.toNat }
  | .grantTtl => { st with deck.grantTtl := v.toNat }
  | .restTime => { st with deck.restTime := v.toNat }
  | .resyncTime => { st with deck.resyncTime := v.toNat }
  | .blindClear => { st with deck.blindClear := v.toNat }
  | .overstay => { st with deck.overstay := v.toNat }
  | .unknownLoad => { st with deck.unknownLoad := v.toNat }
  | .traceMode => { st with link.traceMode := nameOf .off [.off, .running, .holdOnDivert] v }
  | .traceCh => { st with link.traceCh := setOfMask v.toNat }
  | .linkBaud => { st with link.linkBaud := v.toNat }
  | .linkSilent => { st with link.linkSilent := v.toNat }

/-! ### Tables -/

/-- The numbers of the three tables (12, section 12.4). -/
def scanListNo : Nat := 21
def classTableNo : Nat := 125
def limitRowsNo : Nat := 126

/-- The values of a scan-list entry, of a class entry and of a limit row, in the order of their fields. -/
def ScanEntry.values (e : ScanEntry) : List Int := [e.channel.val, e.gain.val, e.every, if e.endMark then 1 else 0].map Int.ofNat
def ClassEntry.values (e : ClassEntry) : List Int :=
  ([if e.valid then 1 else 0, e.axMin, e.axMax] ++ e.pattern.toList ++ e.mask.toList ++
    [e.row.val, if e.heavy then 1 else 0]).map Int.ofNat
def LimitRow.values (r : LimitRow) : List Int := [r.gross, r.single, r.tandem, r.tridem].map Int.ofNat

/-- Every value of a set of settings, in ascending parameter number, a table being given entry by entry (log entry 8). -/
def Settings.values (st : Settings) : List Int :=
  (List.range 172).flatMap fun n =>
    if n = scanListNo then st.conv.scanList.toList.flatMap ScanEntry.values
    else if n = classTableNo then st.dec.classTable.toList.flatMap ClassEntry.values
    else if n = limitRowsNo then st.dec.limitRows.toList.flatMap LimitRow.values
    else ((Param.ofNumber n).map (Param.get st)).toList

end Sys2Proof.Machine
end

