-- ==== Sys2Proof/Machine/Flags.lean ====
section
/-! DEFINITION. Flags and derived outputs: the record's flag and reason sets, the condition index of each kind (Table 10-1),
the lane modes (R162), the deck signal (R148), the lane sign aspects (R105), the retained generation (R180), and `settle`, which
forms them at the end of every command. -/

namespace Sys2Proof.Machine

/-! ### Sets of flags and reasons -/

/-- The union of two reason sets (R72). -/
def Reasons.union (a b : Reasons) : Reasons :=
  ⟨a.gross || b.gross, a.axle || b.axle, a.tandem || b.tandem, a.tridem || b.tridem, a.unweighed || b.unweighed,
   a.truncated || b.truncated, a.queueFull || b.queueFull⟩

/-- The union of two flag sets (R72, R84). -/
def RecFlags.union (a b : RecFlags) : RecFlags :=
  ⟨a.lowSpeed || b.lowSpeed, a.disagree || b.disagree, a.orphan || b.orphan, a.accel || b.accel,
   a.tempStale || b.tempStale, a.zeroOverdue || b.zeroOverdue, a.straddleMerged || b.straddleMerged,
   a.straddleSuspect || b.straddleSuspect, a.saturated || b.saturated, a.late || b.late, a.unadmitted || b.unadmitted⟩

/-! ### Condition kinds and their indexes (Table 10-1) -/

/-- The kinds in the order of Table 10-1. -/
inductive Kind where
  | stripDisagree | stripSilent | pulseStuck | zeroOverdue | zeroRange | tempLost | convLink | refCheck | loopStuck
  | loopChatter | laneIntrusion | tableFull | deckOverstay | noncompliance | deckDesync | storeFault | linkSilent
deriving DecidableEq, Repr

/-- How a kind is graded (Table 10-1). -/
inductive Family where
  | sampled | counted | held
deriving DecidableEq, Repr

def disagreeIx (l : Lane) : CondIx := ⟨l.val, by omega⟩
def silentIx (c : Chan) : CondIx := ⟨3 + c.val, by omega⟩
def stuckIx (c : Chan) : CondIx := ⟨9 + c.val, by omega⟩
def overdueIx (c : Chan) : CondIx := ⟨15 + c.val, by omega⟩
def rangeIx (c : Chan) : CondIx := ⟨21 + c.val, by omega⟩
def tempLostIx : CondIx := 27
def convLinkIx : CondIx := 28
def refCheckIx : CondIx := 29
def loopStuckIx (l : Loop) : CondIx := ⟨30 + l.val, by omega⟩
def chatterIx (l : Loop) : CondIx := ⟨40 + l.val, by omega⟩
def intrusionIx (l : Lane) : CondIx := ⟨50 + l.val, by omega⟩
def tableFullIx (l : Lane) : CondIx := ⟨53 + l.val, by omega⟩
def overstayIx (l : Lane) : CondIx := ⟨56 + l.val, by omega⟩
def noncomplianceIx (l : Lane) : CondIx := ⟨59 + l.val, by omega⟩
def desyncIx : CondIx := 62
def storeFaultIx : CondIx := 63
def linkSilentIx : CondIx := 64

/-- The kind and the instance number of an index: lane, channel or loop, 0 for a device kind (Table 12-9). -/
def kindOf (i : CondIx) : Kind × Nat :=
  let n := i.val
  if n < 3 then (.stripDisagree, n)
  else if n < 9 then (.stripSilent, n - 3)
  else if n < 15 then (.pulseStuck, n - 9)
  else if n < 21 then (.zeroOverdue, n - 15)
  else if n < 27 then (.zeroRange, n - 21)
  else if n = 27 then (.tempLost, 0)
  else if n = 28 then (.convLink, 0)
  else if n = 29 then (.refCheck, 0)
  else if n < 40 then (.loopStuck, n - 30)
  else if n < 50 then (.loopChatter, n - 40)
  else if n < 53 then (.laneIntrusion, n - 50)
  else if n < 56 then (.tableFull, n - 53)
  else if n < 59 then (.deckOverstay, n - 56)
  else if n < 62 then (.noncompliance, n - 59)
  else if n = 62 then (.deckDesync, 0)
  else if n = 63 then (.storeFault, 0)
  else (.linkSilent, 0)

/-- The number of a kind, 0 to 16 (Table 12-9). -/
def Kind.number : Kind → Fin 17
  | .stripDisagree => 0 | .stripSilent => 1 | .pulseStuck => 2 | .zeroOverdue => 3 | .zeroRange => 4 | .tempLost => 5
  | .convLink => 6 | .refCheck => 7 | .loopStuck => 8 | .loopChatter => 9 | .laneIntrusion => 10 | .tableFull => 11
  | .deckOverstay => 12 | .noncompliance => 13 | .deckDesync => 14 | .storeFault => 15 | .linkSilent => 16

/-- Table 10-1, column Family. -/
def Kind.family : Kind → Family
  | .stripDisagree => .sampled
  | .stripSilent | .pulseStuck | .zeroRange | .convLink | .refCheck | .laneIntrusion | .deckDesync | .storeFault => .counted
  | .zeroOverdue | .tempLost | .loopStuck | .loopChatter | .tableFull | .deckOverstay | .noncompliance | .linkSilent => .held

/-- Table 10-1, column Latching. -/
def Kind.latching : Kind → Bool
  | .stripSilent | .pulseStuck | .zeroRange | .refCheck | .storeFault => true
  | .stripDisagree | .zeroOverdue | .tempLost | .convLink | .loopStuck | .loopChatter | .laneIntrusion | .tableFull
  | .deckOverstay | .noncompliance | .deckDesync | .linkSilent => false

/-! ### Lane modes (R162) -/

/-- An entry of the table is in FAULT. -/
def inFault (s : State) (i : CondIx) : Bool := s.cmn.conds[i].st == .fault

/-- An entry in FAULT covers the lane with a BLANKET effect (R162). -/
def blanketFault (s : State) (l : Lane) : Bool :=
  [silentIx (s1Chan l), silentIx (s2Chan l), stuckIx (s1Chan l), stuckIx (s2Chan l), rangeIx (s1Chan l),
   rangeIx (s2Chan l), tableFullIx l, convLinkIx, refCheckIx].any (inFault s)

/-- An entry in FAULT covers the lane with a DEGRADED effect (R162). -/
def degradedFault (s : State) (l : Lane) : Bool :=
  [disagreeIx l, overdueIx (s1Chan l), overdueIx (s2Chan l)].any (inFault s)

/-- The mode of a lane as R162 gives it. -/
def laneModeOf (s : State) (l : Lane) : LaneMode :=
  if !lanePresent s.sst.live l || s.cmn.closedMark[l] then .closed
  else if s.cmn.safeFlag || blanketFault s l then .blanket
  else if degradedFault s l then .degraded
  else .normal

/-- The lane modes are formed afresh (R162). -/
def formModes (s : State) : State := { s with cmn.laneMode := Vector.ofFn (laneModeOf s) }

/-! ### Deck signal and lane signs -/

/-- The deck signal by the deck state (R148). -/
def signalOf (s : State) : Signal :=
  let served : Signal := if !s.dkc.grants.isEmpty || s.dkc.queue.isEmpty then .go else .heavyWait
  match s.dkc.st with
  | .openDeck => served
  | .blind => if s.dkc.overload then .allStop else served
  | .resting => .heavyWait
  | .resync | .isolated | .overloaded | .closed => .allStop

/-- The deck-signal output is formed afresh. -/
def formSignal (s : State) : State := { s with dkc.signal := signalOf s }

/-- The lane's approach list holds a record whose decision is DIVERT. -/
def divertAhead (s : State) (l : Lane) : Bool :=
  s.rtb.approach[l].any fun id => (findRec s id).any (·.decision == some .divert)

/-- The aspect of a lane's sign (R105); an absent lane shows BLANK (R2). -/
def aspectOf (s : State) (l : Lane) : Aspect :=
  if !lanePresent s.sst.live l then .blank
  else if laneModeOf s l == .blanket then .divert
  else if s.dcu.force[l].isSome then .divert
  else if divertAhead s l then .divert
  else if signalOf s == .heavyWait || signalOf s == .allStop then .hold
  else .blank

/-- The lane-sign outputs are formed afresh. -/
def formSigns (s : State) : State := { s with dcu.aspect := Vector.ofFn (aspectOf s) }

/-! ### The retained generation (R180) -/

/-- A record of the generation is ASSEMBLING or PENDING. -/
def recordNeeds (gen : Nat) (r : VRecord) : Bool :=
  r.gen == gen && (r.st == .assembling || r.st == .pending)

/-- An unrecorded vehicle of the generation is open or sealed in the lane. -/
def lasNeeds (gen : Nat) (a : LasState) : Bool :=
  a.openVeh.any (fun v => v.owner == .unrecorded && v.gen == gen) ||
    a.sealed.any (fun v => v.owner == .unrecorded && v.gen == gen)

/-- The retained generation is still needed. -/
def retainNeeded (s : State) (gen : Nat) : Bool :=
  s.rtb.pool.any (recordNeeds gen) || s.las.toList.any (lasNeeds gen)

/-- The retained generation is dropped once no record and no unrecorded vehicle of it remains. -/
def dropRetained (s : State) : State :=
  match s.sst.retained with
  | some (g, _) => if retainNeeded s g then s else { s with sst.retained := none }
  | none => s

/-- What is formed at the end of every command: lane modes, deck signal, lane signs, and the drop of a retained generation
that nothing needs. -/
def settle (s : State) : State := dropRetained (formSigns (formSignal (formModes s)))

/-- A command's outcome: the next state, settled. -/
def done (s : State) : Host.Outcome State Fault Refusal := .next (settle s)

/-- A command whose occasion does not exist in this state changes nothing (log entry 3). -/
def idle (s : State) : Host.Outcome State Fault Refusal := .next s

/-- A command that takes effect only on its occasion. -/
def when' (due : Bool) (s t : State) : Host.Outcome State Fault Refusal := if due then done t else idle s

end Sys2Proof.Machine
end

