-- ==== Sys2Proof/Machine/Conditions.lean ====
section
/-! DEFINITION. The Condition Monitor (chapter 10): causes, fault causes and clear notices, their grading, the CONDITION report,
and the monitor's own timer commands. -/

namespace Sys2Proof.Machine

/-! ### Entries -/

/-- Whether the mask selects a change of state for a report (R160). -/
def maskSelects (m : MaskValue) (prev new : CondState) : Bool :=
  match new with
  | .alert => m == .alert || m == .both
  | .fault => m == .fault || m == .both
  | .recovering => m == .fault || m == .both
  | .clear => if prev == .alert then m == .alert || m == .both else m == .fault || m == .both

/-- The CONDITION report of an entry as it stands, after a change from prev (R160). -/
def conditionReport (ix : CondIx) (prev : CondState) (s : State) : Report :=
  let e := s.cmn.conds[ix]
  .condition ⟨ix, e.st, prev, e.count, e.first, e.last, s.now⟩

/-- The report mask of an entry's kind. -/
def maskOf (ix : CondIx) (s : State) : MaskValue := s.cmn.mask[(kindOf ix).1.number]

/-- A change of an entry's state: the changed flag is set, the lane modes are formed afresh, and a CONDITION report is placed
where the mask selects the change (R153, R160, R162). -/
def setCond (ix : CondIx) (new : CondState) (s : State) : State :=
  let prev := s.cmn.conds[ix].st
  if prev == new then s
  else
    let mark : CondEntry → CondEntry := fun e =>
      { e with st := new, changed := true, watch := if new == .recovering then some s.now else none, lapsed := false }
    let s1 := formModes { s with cmn.conds := change s.cmn.conds ix mark }
    if maskSelects (maskOf ix s) prev new then placeReport (conditionReport ix prev s1) s1 else s1

/-- The persistence count and the times of an entry at a cause or fault cause that carries time t (R153). -/
def countCause (t : Time) (e : CondEntry) : CondEntry :=
  if e.st == .clear then { e with count := 1, first := some t, last := some t, lapsed := false }
  else { e with count := min (e.count + 1) Config.countCap, last := some t, lapsed := false }

/-- Where a cause moves an entry (R154, R155, R158, R159). -/
def afterCause : CondState → CondState
  | .clear => .alert
  | .alert => .alert
  | .fault => .fault
  | .recovering => .fault

/-- A cause for an entry, carrying time t. -/
def giveCause (ix : CondIx) (t : Time) (s : State) : State :=
  setCond ix (afterCause s.cmn.conds[ix].st) { s with cmn.conds := change s.cmn.conds ix (countCause t) }

/-- A fault cause for an entry, carrying time t. -/
def giveFault (ix : CondIx) (t : Time) (s : State) : State :=
  setCond ix .fault { s with cmn.conds := change s.cmn.conds ix (countCause t) }

/-- A cause that is a fault cause where the giving block's own run says so. -/
def giveGraded (ix : CondIx) (isFault : Bool) (t : Time) (s : State) : State :=
  if isFault then giveFault ix t s else giveCause ix t s

/-- A clear notice: ALERT or FAULT returns to CLEAR (R154). -/
def giveClear (ix : CondIx) (s : State) : State :=
  match s.cmn.conds[ix].st with
  | .alert | .fault => setCond ix .clear s
  | .clear | .recovering => s

/-! ### Kinds with a rule of their own -/

/-- A CONV_LINK cause of a missing sample, stamped with its scan-tick time (R12, R156). -/
def convLinkCause (t : Time) (s : State) : State :=
  let times := addTime 16 t s.cmn.convTimes
  giveGraded convLinkIx (recentRun 16 Config.convLinkSpan t times) t { s with cmn.convTimes := times }

/-- A DECK_DESYNC cause of a spurious exit (R157). -/
def desyncCause (s : State) : State :=
  let t := s.now
  let times := addTime 3 t s.cmn.desyncTimes
  giveGraded desyncIx (recentRun 3 Config.desyncSpan t times) t { s with cmn.desyncTimes := times }

/-- The DECK_DESYNC clear notice of a completed RESYNC, which empties the time list too (R157). -/
def desyncClear (s : State) : State := { giveClear desyncIx s with cmn.desyncTimes := [] }

/-- A NONCOMPLIANCE cause for a lane naming a record (R154). -/
def noncomplianceCause (l : Lane) (id : Nat) (s : State) : State :=
  giveCause (noncomplianceIx l) s.now
    { s with cmn.nonIds := change s.cmn.nonIds l fun ids => if ids.contains id then ids else ids ++ [id] }

/-- A NONCOMPLIANCE clear notice for a lane naming a record: CLEAR when it leaves no id in the lane's set (R154). -/
def noncomplianceClear (l : Lane) (id : Nat) (s : State) : State :=
  if s.cmn.nonIds[l].contains id then
    let rest := s.cmn.nonIds[l].filter (· != id)
    let s1 := { s with cmn.nonIds := put s.cmn.nonIds l rest }
    if rest.isEmpty then giveClear (noncomplianceIx l) s1 else s1
  else s

/-- One agreement sample for a lane, true when the strips agree (R158). -/
def agreementSample (l : Lane) (agree : Bool) (s : State) : State :=
  let win := keepNewest 16 (s.cmn.windows[l] ++ [agree])
  let s1 := { s with cmn.windows := put s.cmn.windows l win }
  let dis := win.countP (!·)
  if dis ≤ 2 then giveClear (disagreeIx l) s1
  else if agree then s1
  else giveGraded (disagreeIx l) (6 ≤ dis) s.now s1

/-- The lane an entry belongs to by its lane, channel or loop; none for a device kind and for the D loop (Table 10-1). -/
def entryLane (ix : CondIx) : Option Lane :=
  let n := ix.val
  if h : n < 3 then some ⟨n, h⟩
  else if n < 27 then some ⟨(n - 3) % 6 / 2, by omega⟩
  else if n < 30 then none
  else if n < 50 then loopLane ⟨(n - 30) % 10, by omega⟩
  else if n < 62 then some ⟨(n - 50) % 3, by omega⟩
  else none

/-- An entry is not that of an absent lane; one that is stays as it stands until the next start (R153). -/
def entryPresent (s : State) (ix : CondIx) : Bool := (entryLane ix).all (lanePresent s.sst.live)

/-- The free count given at a change of the number of FREE slots: 4 or more clears TABLE_FULL in every present lane (R112, R154,
R153), in ascending lane, an order the spec leaves open (log entry 52). -/
def freeNotice (s : State) : State :=
  if Config.tableFullClear ≤ freeSlots s then
    (allLanes.filter (lanePresent s.sst.live)).foldl
      (fun s l => if inFault s (tableFullIx l) then giveClear (tableFullIx l) s else s) s
  else s

/-- A TEMP_LOST cause; the time of the cause that moved the entry to ALERT is kept (R154). -/
def tempLostCause (s : State) : State :=
  if s.cmn.conds[tempLostIx].st == .clear then giveCause tempLostIx s.now { s with cmn.tempLostTime := some s.now }
  else giveCause tempLostIx s.now s

/-- The notice that the temperature is fresh again (R24, R154). -/
def tempLostClear (s : State) : State := giveClear tempLostIx { s with cmn.tempLostTime := none }

/-! ### Counters (R165) -/

/-- One of a lane's counters raised by 1. -/
def countLane (l : Lane) (f : LaneCounters → LaneCounters) (s : State) : State :=
  { s with cmn.lanes := change s.cmn.lanes l f }

/-! ### Timer commands of the Condition Monitor -/

/-- The decay of a counted condition in ALERT (R155). -/
def decayOf (ix : CondIx) : Nat :=
  if (kindOf ix).1 == .laneIntrusion then Config.intrusionDecay else Config.alertDecay

/-- The decay has passed since the last time of a counted entry in ALERT, now or before and latched (R155, R8). -/
def decayPassed (now : Time) (ix : CondIx) (e : CondEntry) : Bool :=
  (kindOf ix).1.family == .counted && e.st == .alert && e.last.any fun t => e.lapsed || passed now t (decayOf ix)

/-- RECOVER_WATCH has passed since the watch time of an entry in RECOVERING, now or before and latched (R159, R8). -/
def watchPassed (now : Time) (e : CondEntry) : Bool :=
  e.st == .recovering && e.watch.any fun t => e.lapsed || passed now t Config.recoverWatch

/-- An entry with the latch of its elapsed test at the present time. The test of an absent lane's entry latches too: the entry stands as it
is, and the outcome is taken when its lane is present again (R8, R153; log entry 51). -/
def latchEntry (now : Time) (ix : CondIx) (e : CondEntry) : CondEntry :=
  { e with lapsed := e.lapsed || decayPassed now ix e || watchPassed now e }

/-- The decay of an entry has passed since its last time, its lane being present (R155, R153). -/
def alertDecayDue (ix : CondIx) (s : State) : Bool := entryPresent s ix && decayPassed s.now ix s.cmn.conds[ix]

/-- ALERT_DECAY: the entry returns from ALERT to CLEAR (R155). -/
def execAlertDecay (ix : CondIx) (s : State) : Host.Outcome State Fault Refusal :=
  when' (alertDecayDue ix s) s (setCond ix .clear s)

/-- 10 s have passed since the last missing sample with CONV_LINK in FAULT (R156). -/
def convLinkClearDue (s : State) : Bool :=
  inFault s convLinkIx && s.cmn.conds[convLinkIx].last.any fun t => passed s.now t Config.convLinkQuiet

/-- CONV_LINK_CLEAR: the condition returns to CLEAR and its time list is emptied (R156). -/
def execConvLinkClear (s : State) : Host.Outcome State Fault Refusal :=
  when' (convLinkClearDue s) s { setCond convLinkIx .clear s with cmn.convTimes := [] }

/-- TEMP_STALE has passed since the TEMP_LOST alert, the entry still in ALERT (R154). -/
def tempLostFaultDue (s : State) : Bool :=
  s.cmn.conds[tempLostIx].st == .alert &&
    s.cmn.tempLostTime.any fun t => passed s.now t (secs s.csq.inForce.tempStale)

/-- TEMP_LOST_FAULT: the Condition Monitor's own fault cause (R154). -/
def execTempLostFault (s : State) : Host.Outcome State Fault Refusal :=
  when' (tempLostFaultDue s) s (giveFault tempLostIx s.now s)

/-- RECOVER_WATCH has passed since the watch time of a RECOVERING entry, its lane being present (R159, R153; log entry 51). -/
def recoverWatchDue (ix : CondIx) (s : State) : Bool := entryPresent s ix && watchPassed s.now s.cmn.conds[ix]

/-- RECOVER_WATCH_END: the entry returns to CLEAR (R159). -/
def execRecoverWatchEnd (ix : CondIx) (s : State) : Host.Outcome State Fault Refusal :=
  when' (recoverWatchDue ix s) s (setCond ix .clear s)

end Sys2Proof.Machine
end

