-- ==== Sys2Proof/Machine/Records.lean ====
section
/-! DEFINITION. The Record Table (chapter 8): opening and closing of records, the approach lists, the history ring, and the
VEHICLE and DISPOSITION reports. -/

namespace Sys2Proof.Machine

/-! ### Opening (R112, R113) -/

/-- The id after the next record id; at the wrap the history ring is emptied (R113). -/
def advanceId (s : State) : State :=
  if s.rtb.nextId = Config.lastId then { s with rtb.nextId := 1, rtb.history := [] }
  else { s with rtb.nextId := s.rtb.nextId + 1 }

/-- An axle entry opened by an S1 hit: its speed unset, its source PAIRED, awaiting the pair (R63). -/
def openAxle (start : Time) (area : Nat) : Axle :=
  { s1Start := start, s1Area := area, s2Area := none, speed := none, source := .paired, w1 := none, w2 := none, load := none,
    spacing := none, group := none }

/-- A record as R63 fills it at a vehicle's first S1 hit. -/
def freshRecord (id : Nat) (lane : Lane) (gen : Nat) (start : Time) (area : Nat) : VRecord where
  id := id
  lane := lane
  weighTime := start
  gen := gen
  st := .assembling
  speed := none
  axles := [openAxle start area]
  gross := none
  upper := none
  quality := none
  cls := none
  decision := none
  decTime := none
  reasons := Reasons.empty
  flags := RecFlags.empty
  windows := none
  admission := .none
  deckLane := none
  reading := none
  outlived := false

/-- A FREE record is given to a Lane Assembler, with its id; none when no slot is FREE (R112). -/
def openRecord (lane : Lane) (start : Time) (area : Nat) (s : State) : Option (Nat × State) :=
  if freeSlots s = 0 then none
  else
    let id := s.rtb.nextId
    let r := freshRecord id lane s.sst.liveGen start area
    some (id, freeNotice (advanceId { s with rtb.pool := s.rtb.pool ++ [r] }))

/-! ### Approach lists (R115) -/

/-- The weigh time of a record id, for the order of an approach list. -/
def weighTimeOf (s : State) (id : Nat) : Time := ((findRec s id).map (·.weighTime)).getD 0

/-- A decided record enters the approach list of its lane in ascending weigh time (R115). -/
def enterApproach (lane : Lane) (id : Nat) (s : State) : State :=
  { s with rtb.approach := change s.rtb.approach lane (insertByTime (weighTimeOf s) id) }

/-- A record leaves whatever approach list holds it (R115). -/
def leaveApproach (id : Nat) (s : State) : State :=
  { s with rtb.approach := mapVec (fun ids => ids.filter (· != id)) s.rtb.approach }

/-! ### Closing (R116, R117, R127) -/

/-- The history summary of a record (Table 8-5). A record closed before its completed close has no speed yet, and Table 8-5 gives the speed
no absence: its value is free (log entry 53). -/
def summaryOf (r : VRecord) (d : Disposition) (now : Time) : Summary where
  id := r.id
  lane := r.lane
  gen := r.gen
  weighTime := r.weighTime
  decTime := r.decTime
  closeTime := now
  disposition := d
  decision := r.decision
  cls := r.cls
  quality := r.quality
  axleCount := r.axles.length
  speed := r.speed.getD (Config.unsetSpeed r.id).val
  gross := r.gross
  upper := r.upper
  reasons := r.reasons
  flags := r.flags
  admission := r.admission
  deckLane := r.deckLane

/-- A summary inserted at its place by id (R117). -/
def insertById (x : Summary) : List Summary → List Summary
  | [] => [x]
  | y :: ys => if x.id < y.id then x :: y :: ys else y :: insertById x ys

/-- The ring after a close: at most 64 summaries, the lowest id removed from 65 (R117). -/
def insertHistory (x : Summary) (ring : List Summary) : List Summary :=
  keepNewest Config.historyCap (insertById x ring)

/-- The DISPOSITION report of a summary (R127). -/
def dispositionReport (x : Summary) : Report :=
  .disposition ⟨x.id, x.lane, x.disposition, x.closeTime, x.decision, x.deckLane, x.admission⟩

/-- The record leaves every pending list that holds it. -/
def leavePending (id : Nat) (s : State) : State :=
  { s with las := mapVec (fun a => { a with pendingList := a.pendingList.filter (·.id != id) }) s.las }

/-- A close (R116): the record leaves the place that holds it, its summary enters the history ring, a DISPOSITION report is
placed, and its slot is freed. An id that names no record of the pool closes nothing. -/
def closeRecord (id : Nat) (d : Disposition) (s : State) : State :=
  match findRec s id with
  | none => s
  | some r =>
    let x := summaryOf r d s.now
    let s1 := leavePending id (leaveApproach id s)
    let s2 := placeReport (dispositionReport x) { s1 with rtb.history := insertHistory x s1.rtb.history }
    freeNotice { s2 with rtb.pool := s2.rtb.pool.filter (·.id != id) }

/-! ### The VEHICLE report (R126) -/

/-- What a VEHICLE report gives of an axle. -/
def axleReport (a : Axle) : AxleReport := ⟨a.load.getD 0, a.source, a.spacing, a.group.getD 0⟩

/-- The VEHICLE report of a decided record as it stands (R126). -/
def vehicleReport (r : VRecord) : Report :=
  .vehicle
    { id := r.id, lane := r.lane, gen := r.gen, weighTime := r.weighTime, decTime := r.decTime.getD 0, speed := r.speed.getD 0,
      quality := r.quality.getD .u, cls := r.cls.getD 255, decision := r.decision.getD .passLight, reasons := r.reasons,
      flags := r.flags, admission := r.admission, gross := r.gross.getD 0, upper := r.upper.getD 0,
      windows := r.windows.getD ⟨0, 0, 0, 0⟩, axles := r.axles.map axleReport }

end Sys2Proof.Machine
end

