-- ==== Sys2Proof/Machine/Deck.lean ====
section
/-! DEFINITION. The Deck Controller (chapter 9): the account, the arbiter, entries, exits and flushes, the deck states, and its
timer commands. -/

namespace Sys2Proof.Machine

/-! ### Conditions (R142) -/

/-- The blind condition: an E or X loop of a present lane whose mode is not CLOSED is out of service (R142, R50). -/
def blindNow (s : State) : Bool :=
  allLanes.any fun l => laneModeOf s l != .closed && (!inService s (eLoop l) || !inService s (xLoop l))

/-- An E or X loop of the lane is out of service. -/
def laneLoopOut (s : State) (l : Lane) : Bool := !inService s (eLoop l) || !inService s (xLoop l)

/-- The list-full latch as the lists now make it: set by a list of 32, cleared when every list holds 28 or fewer (R142). -/
def latchOf (s : State) : Bool :=
  if s.dkc.lists.toList.any (fun es => Config.deckListCap ≤ es.length) then true
  else if s.dkc.lists.toList.all (fun es => es.length ≤ Config.deckListLow) then false
  else s.dkc.listFull

/-- The list-full latch and the overload condition are formed afresh (R142). -/
def formOverload (s : State) : State :=
  let full := latchOf s
  { s with dkc.listFull := full, dkc.overload := s.sst.live.deck.budget < s.dkc.onDeck || full }

/-- A noncompliant entry is on the deck. -/
def noncompliantOnDeck (s : State) : Bool := s.dkc.lists.toList.any fun es => es.any (·.noncompliant)

/-! ### The arbiter (R133, R134) -/

/-- The headway test on the last grant time, latched (R133, R8). -/
def headwayPassed (s : State) : Bool :=
  s.dkc.lastGrant.all fun g => g.headwayOk || passed s.now g.time (secs s.sst.live.deck.headway)

/-- The blind-spacing test on the last grant time, latched (R133, R8). -/
def blindPassed (s : State) : Bool :=
  s.dkc.lastGrant.all fun g => g.blindOk || passed s.now g.time (secs s.sst.live.deck.blindClear)

/-- The deck state lets the arbiter grant (R133). -/
def stateGrants (s : State) : Bool :=
  s.dkc.st == .openDeck || (s.dkc.st == .blind && !s.dkc.overload && blindPassed s)

/-- The tests of R133 for a head of the given upper gross. -/
def mayGrant (upper : Nat) (s : State) : Bool :=
  stateGrants s && s.dkc.committed + s.dkc.onDeck + upper ≤ s.sst.live.deck.budget &&
    s.dkc.grantTimes.length < s.sst.live.deck.winMax && headwayPassed s

/-- A grant to the head of the queue (R133). -/
def grantHead (id upper : Nat) (s : State) : State :=
  let g : Grant := ⟨id, s.now, upper, after s.now (secs s.sst.live.deck.grantTtl)⟩
  let last : LastGrant := ⟨s.now, s.sst.live.deck.headway = 0, s.sst.live.deck.blindClear = 0⟩
  changeRec id (fun r => { r with admission := .granted })
    { s with
      dkc.queue := s.dkc.queue.tail
      dkc.grants := s.dkc.grants ++ [g]
      dkc.grantTimes := s.dkc.grantTimes ++ [s.now]
      dkc.lastGrant := some last
      dkc.committed := s.dkc.committed + upper
      cmn.grants := s.cmn.grants + 1 }

/-- The upper gross of the record at the head of the queue. -/
def headUpper (s : State) : Option (Nat × Nat) :=
  s.dkc.queue.head?.bind fun id => (findRec s id).bind fun r => r.upper.map fun u => (id, u)

/-- The arbiter examines the head, and after a grant the new head at once, at most n times (R133, R134). -/
def arbitrateUpTo : Nat → State → State
  | 0, s => s
  | n + 1, s =>
    match headUpper s with
    | some (id, upper) => if mayGrant upper s then arbitrateUpTo n (grantHead id upper s) else s
    | none => s

/-- The arbiter's examination at an event (R134). -/
def arbitrate (s : State) : State := arbitrateUpTo s.dkc.queue.length s

/-- An outstanding grant ends: its reserved load leaves the committed load, its time stays in the list (R135). -/
def endGrant (id : Nat) (s : State) : State :=
  match s.dkc.grants.find? (·.id == id) with
  | none => s
  | some g =>
    { s with dkc.grants := s.dkc.grants.eraseP (·.id == id), dkc.committed := s.dkc.committed - g.load }

/-- A record leaves the admission queue. -/
def leaveQueue (id : Nat) (s : State) : State := { s with dkc.queue := s.dkc.queue.filter (· != id) }

/-! ### Entries leaving the deck (R139 to R142) -/

/-- The load an entry puts on the deck: that of a HEAVY entry (R131). -/
def heavyLoad (e : DeckEntry) : Nat := if e.kind == .heavy then e.load else 0

/-- The on-deck load of a list of entries. -/
def listLoad (es : List DeckEntry) : Nat := (es.map heavyLoad).sum

/-- What follows an entry's leaving of lane l's list: its load is released, its record is closed, and a noncompliant entry
gives its clear notice (R139, R141, R142, R154). -/
def releaseEntry (l : Lane) (d : Disposition) (e : DeckEntry) (s : State) : State :=
  let s1 := { s with dkc.onDeck := s.dkc.onDeck - heavyLoad e }
  match e.recId with
  | none => s1
  | some id =>
    let s2 := closeRecord id d s1
    if e.noncompliant then noncomplianceClear l id s2 else s2

/-- A flush of a list from its head, with the overstay clear notice of its lane (R142). -/
def flushLane (s : State) (l : Lane) : State :=
  let es := s.dkc.lists[l]
  let s1 := { s with dkc.lists := put s.dkc.lists l [], dkc.overstayGiven := put s.dkc.overstayGiven l false }
  giveClear (overstayIx l) (es.foldl (fun s e => releaseEntry l .flushed e s) s1)

/-- The flush of each lane whose E or X loop is out of service (R142). -/
def flushOut (s : State) : State := (allLanes.filter (laneLoopOut s)).foldl flushLane s

/-- DECK_OVERSTAY has passed since an entry's time, latched (R140, R8). -/
def overstays (s : State) (e : DeckEntry) : Bool :=
  e.aged || passed s.now e.entryTime (secs s.sst.live.deck.overstay)

/-- An entry has become the head of lane l's list: its cause, once, where it is already older than DECK_OVERSTAY (R140). -/
def watchHead (l : Lane) (s : State) : State :=
  if !s.dkc.overstayGiven[l] && s.dkc.lists[l].head?.any (overstays s) then
    giveCause (overstayIx l) s.now { s with dkc.overstayGiven := put s.dkc.overstayGiven l true }
  else s

/-- The head of lane l's list has changed or the list has emptied: the clear notice where the lane has given the cause, and the
cause of a new head that is already older (R140). -/
def headChanged (l : Lane) (s : State) : State :=
  watchHead l (if s.dkc.overstayGiven[l] then
    giveClear (overstayIx l) { s with dkc.overstayGiven := put s.dkc.overstayGiven l false } else s)

/-! ### Changes of deck state (R143 to R148) -/

/-- The DECK report of a change from prev, as the account stands (R148). -/
def deckReport (prev : Option DeckSt) (cause : DeckCause) (s : State) : Report :=
  .deck ⟨s.dkc.st, prev, cause, signalOf s, s.dkc.onDeck, s.dkc.committed, s.dkc.queue.length, s.now⟩

/-- The deck takes a state: where it may grant there the arbiter examines the head, and a DECK report is placed (R134, R148;
log entry 14: the report is formed after the examination, as Table 9-6 shows it). -/
def changeDeck (new : DeckSt) (cause : DeckCause) (s : State) : State :=
  let s1 := arbitrate { s with dkc.st := new }
  placeReport (deckReport (some s.dkc.st) cause s1) s1

/-- Every outstanding grant is cancelled, in grant order, its record QUEUED again at the front of the queue (R143). -/
def cancelGrants (s : State) : State :=
  let ids := s.dkc.grants.map (·.id)
  let s1 := ids.foldl (fun s id => changeRec id (fun r => { r with admission := .queued }) s) s
  { s1 with dkc.queue := ids ++ s1.dkc.queue, dkc.grants := [], dkc.committed := 0 }

/-- An entry to RESYNC with all its steps (R143). The DECK report is placed, and its loads and queue length taken, after the flush and the
cancellation of the grants, an order the spec leaves open (log entry 58). -/
def enterResync (cause : DeckCause) (s : State) : State :=
  let s1 := cancelGrants (allLanes.foldl flushLane s)
  let s2 := formOverload
    { s1 with dkc.onDeck := 0, dkc.resyncOwed := false,
              dkc.timer := some (after s1.now (secs s1.sst.live.deck.resyncTime)) }
  changeDeck .resync cause s2

/-- An entry to BLIND, with the flush of R142 at the same event and no state timer (R146; log entry 15). The DECK report is placed, and its
loads taken, after the flush, an order the spec leaves open (log entry 62). -/
def enterBlind (cause : DeckCause) (s : State) : State :=
  changeDeck .blind cause (formOverload { flushOut s with dkc.timer := none })

/-- What the deck goes to at the end of RESTING (R145). -/
def endResting (s : State) : State :=
  let s1 := formOverload { s with dkc.timer := none }
  if s1.dkc.blind then enterBlind .restEnd s1
  else if s1.dkc.resyncOwed then enterResync .restEnd s1
  else if s1.dkc.overload then changeDeck .overloaded .restEnd s1
  else changeDeck .openDeck .restEnd s1

/-- ISOLATED goes to RESTING; a REST_TIME of 0 ends RESTING at its entry (R145). -/
def endIsolation (s : State) : State :=
  let rest := s.sst.live.deck.restTime
  let s1 := changeDeck .resting .isolationEnd { s with dkc.timer := some (after s.now (secs rest)) }
  if rest = 0 then endResting s1 else s1

/-- What the deck goes to at the end of RESYNC (R143). -/
def endResync (s : State) : State :=
  let s1 := formOverload (desyncClear { s with dkc.timer := none })
  if noncompliantOnDeck s1 then changeDeck .isolated .resyncEnd s1
  else if s1.dkc.blind then enterBlind .resyncEnd s1
  else if s1.dkc.overload then changeDeck .overloaded .resyncEnd s1
  else changeDeck .openDeck .resyncEnd s1

/-- After a change of the account: the overload condition and the moves it makes, the end of an isolation, and the arbiter's
examination (R134, R142, R144, R145). -/
def deckReview (s : State) : State :=
  let s1 := formOverload s
  match s1.dkc.st with
  | .openDeck => if s1.dkc.overload then changeDeck .overloaded .overload s1 else arbitrate s1
  | .overloaded => if s1.dkc.overload then s1 else changeDeck .openDeck .overloadEnd s1
  | .isolated => if noncompliantOnDeck s1 then s1 else endIsolation s1
  | .blind => arbitrate s1
  | .resync | .resting | .closed => s1

/-- The blind condition has just become true (R142, R143, R144, R146). -/
def blindBegins (s : State) : State :=
  match s.dkc.st with
  | .openDeck | .overloaded | .resync => enterBlind .blindBegin s
  | .isolated | .resting => deckReview (flushOut { s with dkc.resyncOwed := true })
  | .blind | .closed => deckReview (flushOut s)

/-- The blind condition is formed afresh; `further` says that a further loop has just gone out of service (R142, R146). -/
def reviewBlind (further : Bool) (s : State) : State :=
  let s1 := { s with dkc.blind := blindNow s }
  if s1.dkc.blind then
    if !s.dkc.blind then blindBegins s1
    else if further then deckReview (flushOut s1)
    else s1
  else if s.dkc.blind && s.dkc.st == .blind then enterResync .blindEnd s1
  else s1

/-- An E or X loop of lane l has gone out of service: a loop that the blind condition reads, unless the lane is CLOSED, where it has no effect
on the deck (Table 4-3, R142; log entry 70). -/
def deckLoopLost (l : Lane) (s : State) : State := if laneModeOf s l = .closed then s else reviewBlind true s

/-- The Condition Monitor's notice that DECK_DESYNC has entered FAULT (R143, R149). -/
def desyncNotice (s : State) : State :=
  match s.dkc.st with
  | .openDeck | .isolated | .resting | .overloaded | .blind => enterResync .desyncFault s
  | .resync | .closed => s

/-- A spurious exit's DECK_DESYNC cause, with the notice where it makes the condition a fault (R139, R157). The CONDITION report of the cause is
placed before the reports that the notice brings, an order the spec leaves open (log entry 71). -/
def spuriousExit (s : State) : State :=
  let s1 := desyncCause s
  if !inFault s desyncIx && inFault s1 desyncIx then desyncNotice s1 else s1

/-- A list overflow, after the refused record has been closed (R138). -/
def listOverflow (s : State) : State :=
  let s1 := giveFault desyncIx s.now s
  if s1.dkc.st == .closed then s1 else enterResync .listOverflow s1

/-! ### Offers, withdrawals, entries and exits -/

/-- An offer of a PASS_HEAVY record: taken while the queue holds fewer than 16, and the head examined (R132, R134). -/
def offer (id : Nat) (s : State) : Bool × State :=
  if s.dkc.queue.length < Config.queueCap then
    (true, deckReview (changeRec id (fun r => { r with admission := .queued })
      { s with dkc.queue := s.dkc.queue ++ [id] }))
  else (false, s)

/-- A withdrawal: a QUEUED record leaves the queue, a GRANTED record's grant ends; the admission stays for the summary (R120,
R135). -/
def withdraw (r : VRecord) (s : State) : State :=
  match r.admission with
  | .queued => deckReview (leaveQueue r.id s)
  | .granted => deckReview (endGrant r.id s)
  | .none | .expired | .unadmitted | .used => s

/-- Lane l's list holds 32 entries. -/
def listIsFull (s : State) (l : Lane) : Bool := Config.deckListCap ≤ s.dkc.lists[l].length

/-- An entry is appended at the tail of lane l's list, its load added (R131). -/
def appendEntry (l : Lane) (e : DeckEntry) (s : State) : State :=
  { s with dkc.lists := change s.dkc.lists l (· ++ [e]), dkc.onDeck := s.dkc.onDeck + heavyLoad e }

/-- An entry of the deck: appended, and in an empty list at once the head, whose overstay cause it gives where its arrival, backdated to its
first edge (R46), is already that old (R140). The place of that cause before the entry's other notices is the model's choice (log entry
64). -/
def enterDeck (l : Lane) (e : DeckEntry) (s : State) : State :=
  let s1 := appendEntry l e s
  if s.dkc.lists[l].isEmpty then watchHead l s1 else s1

/-- A LIGHT entry, a PENDING ghost, and a HEAVY entry of a record (R136, R137). -/
def lightEntry (t : Time) : DeckEntry := ⟨.light, none, t, 0, false, false, false, false, false⟩
def ghostEntry (t : Time) : DeckEntry := ⟨.pending, none, t, 0, false, true, false, false, false⟩
def heavyEntry (id : Nat) (t : Time) (load : Nat) (admitted noncompliant : Bool) : DeckEntry :=
  ⟨.heavy, some id, t, load, admitted, false, noncompliant, false, false⟩

/-- The deck's unadmitted counter is raised (R136, R137, R165). -/
def countUnadmitted (s : State) : State := { s with cmn.unadmitted := s.cmn.unadmitted + 1 }

/-- A noncompliant entry isolates the deck (R145, R142); in ISOLATED, RESYNC and CLOSED the state is kept. -/
def isolate (s : State) : State :=
  match s.dkc.st with
  | .openDeck | .overloaded | .resting => changeDeck .isolated .noncompliantEntry { s with dkc.timer := none }
  | .blind => changeDeck .isolated .noncompliantEntry { s with dkc.resyncOwed := true }
  | .isolated | .resync | .closed => s

/-- The first element that satisfies p, changed by f; none where no element does. -/
def changeFirst {α : Type} (p : α → Bool) (f : α → α) : List α → Option (List α)
  | [] => none
  | x :: xs => if p x then some (f x :: xs) else (changeFirst p f xs).map (x :: ·)

/-- The latest PENDING ghost of a list, changed by f (R137). -/
def changeLatestGhost (f : DeckEntry → DeckEntry) (es : List DeckEntry) : Option (List DeckEntry) :=
  (changeFirst (fun e => e.kind == .pending && e.ghost) f es.reverse).map List.reverse

/-- The verdict on lane l's open ghost: HEAVY with UNKNOWN_LOAD, unadmitted, or LIGHT; disregarded where the list holds no
PENDING ghost (R137). -/
def ghostVerdict (l : Lane) (isHeavy : Bool) (s : State) : State :=
  if isHeavy then
    let load := s.sst.live.deck.unknownLoad
    match changeLatestGhost (fun e => { e with kind := .heavy, load := load }) s.dkc.lists[l] with
    | none => s
    | some es =>
      deckReview (countUnadmitted { s with dkc.lists := put s.dkc.lists l es, dkc.onDeck := s.dkc.onDeck + load })
  else
    match changeLatestGhost (fun e => { e with kind := .light }) s.dkc.lists[l] with
    | none => s
    | some es => { s with dkc.lists := put s.dkc.lists l es }

/-- How a record is closed when its entry leaves at the exit (R139). -/
def exitDisposition (e : DeckEntry) : Disposition := if e.noncompliant then .noncompliantCleared else .cleared

/-- The head of lane l's list is removed, its record closed as given (R139, R141). R140 and R142 give no place of the clear notices' CONDITION
reports among the others: the model places the DISPOSITION of the close, then the NONCOMPLIANCE clear notice, then the DECK_OVERSTAY clear
notice (log entry 57). -/
def removeHead (l : Lane) (d : DeckEntry → Disposition) (s : State) : State :=
  match s.dkc.lists[l] with
  | [] => s
  | e :: es =>
    deckReview (headChanged l (releaseEntry l (d e) e { s with dkc.lists := put s.dkc.lists l es }))

/-- An X_L ARRIVE (R139). -/
def exitArrive (l : Lane) (s : State) : State :=
  match s.dkc.lists[l] with
  | [] => if s.dkc.st == .resync || laneLoopOut s l then s else spuriousExit s
  | _ :: _ => removeHead l exitDisposition s

/-! ### Timer commands of the Deck Controller -/

/-- HEADWAY has passed since the last grant time, not yet latched. -/
def headwayDue (s : State) : Bool :=
  s.dkc.lastGrant.any fun g => !g.headwayOk && passed s.now g.time (secs s.sst.live.deck.headway)

/-- HEADWAY_ELAPSED: the test is latched and the arbiter examines the head (R134, R8). -/
def execHeadwayElapsed (s : State) : Host.Outcome State Fault Refusal :=
  when' (headwayDue s) s
    (deckReview { s with dkc.lastGrant := s.dkc.lastGrant.map fun g => { g with headwayOk := true } })

/-- BLIND_CLEAR has passed since the last grant time, not yet latched. -/
def blindClearDue (s : State) : Bool :=
  s.dkc.lastGrant.any fun g => !g.blindOk && passed s.now g.time (secs s.sst.live.deck.blindClear)

/-- BLIND_CLEAR_ELAPSED: the test is latched and the arbiter examines the head (R134, R8). -/
def execBlindClearElapsed (s : State) : Host.Outcome State Fault Refusal :=
  when' (blindClearDue s) s
    (deckReview { s with dkc.lastGrant := s.dkc.lastGrant.map fun g => { g with blindOk := true } })

/-- WIN_LEN has passed since the oldest grant time. -/
def grantTimeDue (s : State) : Bool :=
  s.dkc.grantTimes.head?.any fun t => passed s.now t (secs s.sst.live.deck.winLen)

/-- GRANT_TIME_EXPIRY: the oldest grant time leaves the list and the head is examined (R134). -/
def execGrantTimeExpiry (s : State) : Host.Outcome State Fault Refusal :=
  when' (grantTimeDue s) s (deckReview { s with dkc.grantTimes := s.dkc.grantTimes.tail })

/-- The expiry time of the record's outstanding grant is reached. -/
def grantExpiryDue (id : Nat) (s : State) : Bool :=
  (s.dkc.grants.find? (·.id == id)).any fun g => reached s.now g.expiry

/-- GRANT_EXPIRY: the grant ends, the record becomes EXPIRED, and the head is examined (R135, R134). -/
def execGrantExpiry (id : Nat) (s : State) : Host.Outcome State Fault Refusal :=
  when' (grantExpiryDue id s) s
    (deckReview (changeRec id (fun r => { r with admission := .expired }) (endGrant id s)))

/-- An entry of lane l's list has reached DECK_OVERSTAY and is not latched. -/
def overstayDue (l : Lane) (s : State) : Bool :=
  s.dkc.lists[l].any fun e => !e.aged && overstays s e

/-- The overstay latches of lane l's list are taken, and the head's cause is given once (R140, R8). -/
def latchOverstay (l : Lane) (s : State) : State :=
  let es := s.dkc.lists[l].map fun e => { e with aged := overstays s e }
  let s1 := { s with dkc.lists := put s.dkc.lists l es }
  if !s.dkc.overstayGiven[l] && es.head?.any (·.aged) then
    giveCause (overstayIx l) s.now { s1 with dkc.overstayGiven := put s.dkc.overstayGiven l true }
  else s1

/-- OVERSTAY_EXPIRY (R140). -/
def execOverstayExpiry (l : Lane) (s : State) : Host.Outcome State Fault Refusal :=
  when' (overstayDue l s) s (latchOverstay l s)

/-- The RESYNC timer is reached. -/
def resyncEndDue (s : State) : Bool := s.dkc.st == .resync && s.dkc.timer.any (reached s.now)

/-- RESYNC_END (R143). -/
def execResyncEnd (s : State) : Host.Outcome State Fault Refusal := when' (resyncEndDue s) s (endResync s)

/-- The RESTING timer is reached. -/
def restEndDue (s : State) : Bool := s.dkc.st == .resting && s.dkc.timer.any (reached s.now)

/-- REST_END (R145). -/
def execRestEnd (s : State) : Host.Outcome State Fault Refusal := when' (restEndDue s) s (endResting s)

end Sys2Proof.Machine
end

