-- ==== Sys2Proof/Machine/Trace.lean ====
section
/-! DEFINITION. The Trace Store (chapter 11): the ring of pulse records, the joining of vehicle ids, and the hold. -/

namespace Sys2Proof.Machine

/-- The words of a stored record (Table 11-3). -/
def recordWords (r : TraceRecord) : Nat := Config.traceHeader + r.samples.length

/-- The words a ring uses. -/
def ringWords (ring : List TraceRecord) : Nat := (ring.map recordWords).sum

/-- The oldest records removed, whole, until `need` words are free (R167). -/
def makeRoom (need : Nat) : List TraceRecord → List TraceRecord
  | [] => []
  | r :: rs => if ringWords (r :: rs) + need ≤ Config.traceWords then r :: rs else makeRoom need rs

/-- The record index after one given, returning from the last to 1 (R167). -/
def nextTraceIndex (n : Nat) : Nat := if n = Config.lastId then 1 else n + 1

/-- The pending id notice of a channel matches a start time (R168). -/
def noticeFor (s : State) (c : Chan) (start : Time) : Option Nat :=
  match s.trs.notice[c] with
  | some (t, id) => if t == start then some id else none
  | none => none

/-- A pulse record handed by a Strip Channel Unit is stored, or discarded by mode, hold state or channel (R167, R168). It
stands at the newest end also where its index has returned to 1: the older records stay, in the order of their storing, which R167, giving
both this end and ascending indexes, leaves open (log entry 67). -/
def storePulse (c : Chan) (start : Time) (aborted : Bool) (span : List Sample) (s : State) : State :=
  let st := s.sst.live.link
  if st.traceMode == .off || s.trs.held.isSome || !st.traceCh[c] then s
  else
    let joined := noticeFor s c start
    let r : TraceRecord :=
      { index := s.trs.nextIndex, chan := c, start := start, vehicle := joined.getD 0, aborted := aborted,
        missing := span.any (·.2), samples := span.map (·.1) }
    { s with
      trs.ring := makeRoom (recordWords r) s.trs.ring ++ [r]
      trs.nextIndex := nextTraceIndex s.trs.nextIndex
      trs.notice := if joined.isSome then put s.trs.notice c none else s.trs.notice }

/-- The ring with the id joined to the newest stored record of the channel, given newest first; none where that record has
another start time or an id already (R168). -/
def joinNewest (c : Chan) (start : Time) (id : Nat) : List TraceRecord → Option (List TraceRecord)
  | [] => none
  | r :: rs =>
    if r.chan == c then
      if r.start == start && r.vehicle == 0 then some ({ r with vehicle := id } :: rs) else none
    else (joinNewest c start id rs).map (r :: ·)

/-- An id notice of a Lane Assembler (R168). -/
def idNotice (c : Chan) (start : Time) (id : Nat) (s : State) : State :=
  match joinNewest c start id s.trs.ring.reverse with
  | some rs => { s with trs.ring := rs.reverse }
  | none => { s with trs.notice := put s.trs.notice c (some (start, id)) }

/-- The index of the newest stored record, 0 when the ring is empty. -/
def newestIndex (s : State) : Nat := (s.trs.ring.getLast?.map (·.index)).getD 0

/-- A divert notice of the Decision Unit (R169). -/
def divertNotice (id : Nat) (s : State) : State :=
  if s.sst.live.link.traceMode == .holdOnDivert && s.trs.held.isNone then
    let s1 := { s with trs.held := some id }
    placeReport (.traceHeld id s1.now (newestIndex s1)) s1
  else s

end Sys2Proof.Machine
end

