-- ==== Sys2Proof/Machine/Weight.lean ====
section
/-! DEFINITION. The Weight Unit (chapter 6): temperature factor, strip and axle loads, agreement, speeds, spacings, groups, gross,
quality and upper estimates. All but `weigh` are pure functions of a record, its close readings and its settings. -/

namespace Sys2Proof.Machine

/-! ### Close readings (R75) -/

/-- The temperature reading: T while the held temperature is fresh, else no value (R75, R23, R24). -/
def temperatureReading (s : State) : Option Int :=
  if s.csq.temp.stale then none else s.csq.temp.value.map (·.1)

/-- A strip channel is overdue for zeroing (R37). -/
def isOverdue (s : State) (c : Chan) : Bool := s.zsc.chans[c].grade != .fresh

/-- The close readings of a record of lane l (R75). -/
def closeReading (s : State) (l : Lane) : CloseReading :=
  ⟨temperatureReading s, isOverdue s (s1Chan l), isOverdue s (s2Chan l), laneModeOf s l⟩

/-! ### Temperature and channel factors (R77, R78) -/

/-- TEMP_Q of point i. -/
def tempQ (st : Settings) (i : Nat) : Int := Int.ofNat (st.weigh.tempQ.toList.getD i 4096)

/-- The temperature factor Cf (Table 6-2). -/
def tempFactor (st : Settings) (reading : Option Int) : Nat :=
  match reading with
  | none => 4096
  | some t =>
    if t < -200 then (tempQ st 0).toNat
    else if 600 ≤ t then (tempQ st 8).toNat
    else
      let i := ((t + 200) / 100).toNat
      let ti : Int := -200 + 100 * i
      (tempQ st i + Int.fdiv ((tempQ st (i + 1) - tempQ st i) * (t - ti)) 100).toNat

/-- The effective channel factor, none where F_ch is unset (R78). -/
def effFactor (st : Settings) (cf : Nat) (c : Chan) : Option Nat :=
  st.weigh.fch[c].map fun f => min (max (f * cf / 4096) 1) Config.factorMax

/-! ### Strip loads and axle loads (R79, R80) -/

/-- A strip load before its clamp (R79). -/
def rawLoad (area v feff : Nat) : Nat := area * v * feff / 68719476736

/-- A strip load: absent without an area, a factor, or a speed (R79). -/
def stripLoad (area : Option Nat) (v : Nat) (feff : Option Nat) : Option Nat :=
  match area, feff with
  | some a, some f => if v = 0 then none else some (min (rawLoad a v f) Config.axleMax)
  | _, _ => none

/-- A strip load that the clamp reduces (R79). -/
def stripSaturates (area : Option Nat) (v : Nat) (feff : Option Nat) : Bool :=
  match area, feff with
  | some a, some f => v != 0 && Config.axleMax < rawLoad a v f
  | _, _ => false

/-- The difference of two naturals. -/
def absDiff (a b : Nat) : Nat := max a b - min a b

/-- The agreement test of Table 6-3. -/
def stripsAgree (agreePm w1 w2 : Nat) : Bool := absDiff w1 w2 * 1000 ≤ agreePm * max w1 w2

/-- An axle's load from its strip loads (Table 6-3). -/
def axleLoad (agreePm : Nat) (w1 w2 : Option Nat) : Nat :=
  match w1, w2 with
  | some a, some b => if stripsAgree agreePm a b then (a + b) / 2 else max a b
  | some a, none => a
  | none, _ => 0

/-- The agreement sample of an axle: none where a strip load is absent (R81). -/
def axleSample (agreePm : Nat) (a : Axle) : Option Bool :=
  match a.w1, a.w2 with
  | some x, some y => some (stripsAgree agreePm x y)
  | _, _ => none

/-- An axle entry with W1, W2 and load formed (R79, R80). -/
def weighAxle (st : Settings) (f1 f2 : Option Nat) (a : Axle) : Axle :=
  let v := a.speed.getD 0
  let w1 := stripLoad (some a.s1Area) v f1
  let w2 := stripLoad a.s2Area v f2
  { a with w1 := w1, w2 := w2, load := some (axleLoad st.weigh.agreePm w1 w2) }

/-- An axle one of whose strip loads the clamp reduces. -/
def axleSaturates (f1 f2 : Option Nat) (a : Axle) : Bool :=
  let v := a.speed.getD 0
  stripSaturates (some a.s1Area) v f1 || stripSaturates a.s2Area v f2

/-- The paired speeds of a record in axle order. -/
def pairedSpeeds (axles : List Axle) : List Nat :=
  axles.filterMap fun a => if a.source == .paired then a.speed else none

/-- The ACCEL test (R83). -/
def accelerates (st : Settings) (axles : List Axle) : Bool :=
  match pairedSpeeds axles with
  | v :: w :: rest =>
    let last := (w :: rest).getLastD w
    st.weigh.accelPct * v < absDiff last v * 100
  | _ => false

/-- The LOW_SPEED test (R82). -/
def lowSpeed (st : Settings) (axles : List Axle) : Bool :=
  axles.any fun a => 1 ≤ a.speed.getD 0 && a.speed.getD 0 < st.weigh.vLow

/-- The record weighed to its axle loads under its own readings, channels and settings, with its flags (R77 to R83). -/
def weighToAxles (st : Settings) (reading : CloseReading) (r : VRecord) : VRecord :=
  let cf := tempFactor st reading.temp
  let f1 := effFactor st cf (s1Chan r.lane)
  let f2 := effFactor st cf (s2Chan r.lane)
  let axles := r.axles.map (weighAxle st f1 f2)
  { r with
    axles := axles
    flags := { r.flags with
      tempStale := r.flags.tempStale || reading.temp.isNone
      saturated := r.flags.saturated || r.axles.any (axleSaturates f1 f2)
      disagree := r.flags.disagree || axles.any fun a => axleSample st.weigh.agreePm a == some false
      lowSpeed := r.flags.lowSpeed || lowSpeed st axles
      accel := r.flags.accel || accelerates st axles } }

/-- The agreement samples of a weighed record in ascending axle number (R81). -/
def agreementSamples (st : Settings) (r : VRecord) : List Bool := r.axles.filterMap (axleSample st.weigh.agreePm)

/-! ### Spacings and groups (R85, R86) -/

/-- Spacings from axle 2 on, given the axle before (R85). -/
def spaceFrom (prev : Axle) : List Axle → List Axle
  | [] => []
  | a :: as =>
    { a with spacing := some (travelDistance (ticksFrom prev.s1Start a.s1Start) (a.speed.getD 0)) } :: spaceFrom a as

/-- The axles with their spacings; axle 1 has none (R85). -/
def spaceAxles : List Axle → List Axle
  | [] => []
  | a :: as => { a with spacing := none } :: spaceFrom a as

/-- Group numbers from axle 2 on: the present group and how many axles it holds; a new group begins at a spacing above
GROUP_GAP, and after every third axle of a run (R86). -/
def groupFrom (gap group size : Nat) : List Axle → List Axle
  | [] => []
  | a :: as =>
    if a.spacing.any (· ≤ gap) && size < 3 then { a with group := some group } :: groupFrom gap group (size + 1) as
    else { a with group := some (group + 1) } :: groupFrom gap (group + 1) 1 as

/-- The axles with their group numbers, from 1 (R86). -/
def groupAxles (gap : Nat) : List Axle → List Axle
  | [] => []
  | a :: as => { a with group := some 1 } :: groupFrom gap 1 1 as

/-- The loads of the axles of group g, in order. -/
def groupLoads (axles : List Axle) (g : Nat) : List Nat :=
  (axles.filter fun a => a.group == some g).map fun a => a.load.getD 0

/-- The load of a group (R87). -/
def groupLoad (axles : List Axle) (g : Nat) : Nat := (groupLoads axles g).sum

/-- The number of axles of a group. -/
def groupSize (axles : List Axle) (g : Nat) : Nat := (groupLoads axles g).length

/-- The group numbers of a record. -/
def groupNumbers (axles : List Axle) : List Nat := (axles.filterMap (·.group)).dedup

/-- The gross: the sum of all axle loads (R87). -/
def grossOf (axles : List Axle) : Nat := (axles.map fun a => a.load.getD 0).sum

/-! ### Quality and upper estimates (R88 to R91) -/

/-- A flag that brings a record to quality B (R89). -/
def doubtFlag (f : RecFlags) : Bool :=
  f.lowSpeed || f.disagree || f.orphan || f.accel || f.tempStale || f.straddleMerged || f.straddleSuspect

/-- Either channel was overdue in the close readings (R89). -/
def readOverdue (c : CloseReading) : Bool := c.overdue1 || c.overdue2

/-- The quality grade (R88, R89). -/
def qualityOf (c : CloseReading) (r : VRecord) : Quality :=
  if !(r.axles.any fun a => a.source == .paired) || r.reasons.truncated || c.mode == .blanket then .u
  else if doubtFlag r.flags || readOverdue c || c.mode == .degraded then .b
  else .a

/-- The margin of a quality (R91). -/
def marginOf (st : Settings) (q : Quality) : Nat := if q == .a then st.weigh.marginA else st.weigh.marginB

/-- The upper estimate of a load (R91). -/
def upperOf (m x : Nat) : Nat := x + x * m / 1000

/-- The stages after the axle loads: spacings, groups, gross, quality with the flag ZERO_OVERDUE, upper gross (R85 to R91).
ZERO_OVERDUE is set where the zero grade brings the record to B (R89), also where another ground does so beside it (log entry 69). -/
def finishWeighing (st : Settings) (c : CloseReading) (r : VRecord) : VRecord :=
  let axles := groupAxles st.weigh.groupGap (spaceAxles r.axles)
  let r1 := { r with axles := axles }
  let q := qualityOf c r1
  let gross := grossOf axles
  { r1 with
    gross := some gross
    quality := some q
    upper := some (upperOf (marginOf st q) gross)
    flags := { r.flags with zeroOverdue := r.flags.zeroOverdue || (q == .b && readOverdue c) } }

/-! ### Merging (R72, R84) -/

/-- The worse of two lane modes: BLANKET, then DEGRADED, then NORMAL (R84). -/
def worseMode (a b : LaneMode) : LaneMode :=
  if a == .blanket || b == .blanket then .blanket
  else if a == .degraded || b == .degraded then .degraded
  else .normal

/-- The close readings of two partners joined for the later stages (R84). -/
def joinReadings (a b : CloseReading) : CloseReading :=
  ⟨a.temp, readOverdue a || readOverdue b, readOverdue a || readOverdue b, worseMode a.mode b.mode⟩

/-- The axle entries of the lane partner with the loads of both (R72, R84). -/
def mergeAxles (lanePartner other : List Axle) : List Axle :=
  List.zipWith (fun a b => { a with load := some (min (a.load.getD 0 + b.load.getD 0) Config.axleMax) })
    lanePartner other

/-- The summed load of an axle is clamped (R72). -/
def mergeSaturates (xs ys : List Axle) : Bool :=
  (List.zipWith (fun a b => decide (Config.axleMax < a.load.getD 0 + b.load.getD 0)) xs ys).any id

/-- The surviving record of a merge, from the two partners weighed to their axle loads (R72, R84): the survivor's id and
generation, the lane partner's lane, weigh time, speed and axle entries, the summed loads, the union of flags and reasons. -/
def mergedRecord (survivor other : VRecord) : VRecord :=
  let gs := grossOf survivor.axles
  let go := grossOf other.axles
  let survivorLeads := go < gs || (gs == go && survivor.lane.val < other.lane.val)
  let lead := if survivorLeads then survivor else other
  let follow := if survivorLeads then other else survivor
  { survivor with
    lane := lead.lane
    weighTime := lead.weighTime
    outlived := lead.outlived
    speed := lead.speed
    axles := mergeAxles lead.axles follow.axles
    flags := { survivor.flags.union other.flags with
      straddleMerged := true
      saturated := survivor.flags.saturated || other.flags.saturated || mergeSaturates lead.axles follow.axles }
    reasons := survivor.reasons.union other.reasons }

end Sys2Proof.Machine
end

