-- ==== Sys2Proof/Machine/Decision.lean ====
section
/-! DEFINITION. The Decision Unit (chapter 7) with the windows and the expiry of the Route Tracker (R118, R124): classification,
limits, the decision and its hand-offs, camera pulses, sign forces and the enforcement snapshot. -/

namespace Sys2Proof.Machine

/-! ### Classes (R96 to R98) -/

/-- The gap code of a spacing (R96). -/
def gapCode (st : Settings) (s : Nat) : Nat :=
  if s < st.dec.gapB1 then 0 else if s < st.dec.gapB2 then 1 else if s < st.dec.gapB3 then 2 else 3

/-- The gap codes at gap positions 1 to 8; a position with no spacing is coded 0 (R96). -/
def gapCodes (st : Settings) (axles : List Axle) : List Nat :=
  (List.range 8).map fun j => ((axles[j + 1]?.bind (·.spacing)).map (gapCode st)).getD 0

/-- Whether a gap code is accepted under a mask and a pattern code (R97). -/
def gapAccepted (mask pattern code : Nat) : Bool :=
  match mask with
  | 0 => true
  | 1 => code % 2 == pattern % 2
  | 2 => code / 2 == pattern / 2
  | _ => code == pattern

/-- A valid entry matches a record of n axles with these gap codes (R97). -/
def classMatches (e : ClassEntry) (n : Nat) (codes : List Nat) : Bool :=
  e.valid && e.axMin ≤ n && n ≤ e.axMax &&
    ((e.mask.toList.zip (e.pattern.toList.zip codes)).all fun (m, p, c) => gapAccepted m p c)

/-- The class of a record, its limit row and heavy flag (R98). -/
def classOf (st : Settings) (r : VRecord) : Nat × Fin 8 × Bool :=
  if r.speed.getD 0 = 0 then (255, 0, true)
  else
    let codes := gapCodes st r.axles
    match st.dec.classTable.toList.findIdx? fun e => classMatches e r.axles.length codes with
    | some j => match st.dec.classTable.toList[j]? with
      | some e => (j, e.row, e.heavy)
      | none => (255, 0, true)
    | none => (255, 0, true)

/-! ### Limits and the decision (R99 to R101) -/

/-- An upper group load of a group of the given size exceeds a limit (R99). -/
def groupExceeds (m : Nat) (axles : List Axle) (size limit : Nat) : Bool :=
  (groupNumbers axles).any fun g => groupSize axles g == size && limit < upperOf m (groupLoad axles g)

/-- The reasons of the limits exceeded (R99). -/
def limitReasons (st : Settings) (row : Fin 8) (r : VRecord) : Reasons :=
  let lim := st.dec.limitRows[row]
  let m := marginOf st (r.quality.getD .u)
  { Reasons.empty with
    gross := lim.gross < r.upper.getD 0
    axle := groupExceeds m r.axles 1 lim.single
    tandem := groupExceeds m r.axles 2 lim.tandem
    tridem := groupExceeds m r.axles 3 lim.tridem }

/-- The decision of a weighed record before any offer, with the reasons it then has (R99 to R101). -/
def decideOf (st : Settings) (row : Fin 8) (heavy : Bool) (r : VRecord) : Decision × Reasons :=
  match r.quality with
  | some .u | none =>
    if r.reasons.truncated then (.divert, r.reasons)
    else if st.dec.uDivertAxles ≤ r.axles.length then (.divert, { r.reasons with unweighed := true })
    else (.passLight, { r.reasons with unweighed := true })
  | some .a | some .b =>
    let lim := limitReasons st row r
    let reasons := r.reasons.union lim
    if lim.gross || lim.axle || lim.tandem || lim.tridem then (.divert, reasons)
    else if heavy || st.dec.heavyThreshold ≤ r.upper.getD 0 then (.passHeavy, reasons)
    else (.passLight, reasons)

/-! ### Windows and LATE (R103, R118) -/

/-- The record's speed, or V_NOMINAL where it is 0 (R10). -/
def trackingSpeed (live : Settings) (r : VRecord) : Nat := if r.speed.getD 0 = 0 then live.asm.vNominal else r.speed.getD 0

/-- The expected time at the sign (R103). -/
def expectedAtSign (live : Settings) (r : VRecord) : Time :=
  after r.weighTime (travelFloor live.site.signDist[r.lane] (trackingSpeed live r))

/-- The windows of a decided record (Table 8-7), under the live settings. -/
def windowsOf (live : Settings) (r : VRecord) : Windows :=
  let vf := fastSpeed live.asm.vMax live.track.fastPct (trackingSpeed live r)
  { slipFrom := after r.weighTime (travelFloor live.site.slipDist[r.lane] vf)
    slipTo := after r.weighTime (travelCeil live.site.slipDist[r.lane] live.track.vCrawl)
    threshFrom := after r.weighTime (travelFloor live.site.threshDist[r.lane] vf)
    threshTo := after r.weighTime (secs live.track.trackTtl) }

/-! ### Expiry (R124) -/

/-- Expiry of a DECIDED record: it is withdrawn from the deck where R120 requires it, and closed LOST, or DIVERT_ASSUMED for a
DIVERT record while the D loop is out of service (R124). -/
def expireRecord (id : Nat) (s : State) : State :=
  match findRec s id with
  | none => s
  | some r =>
    let d : Disposition :=
      if r.decision == some .divert && !inService s dLoop then .divertAssumed else .lost
    closeRecord id d (withdraw r s)

/-- The record is DECIDED and its expiry time is reached. -/
def recordExpiryDue (id : Nat) (s : State) : Bool :=
  (findRec s id).any fun r => r.st == .decided && r.windows.any fun w => reached s.now w.threshTo

/-- RECORD_EXPIRY (R124). -/
def execRecordExpiry (id : Nat) (s : State) : Host.Outcome State Fault Refusal :=
  when' (recordExpiryDue id s) s (expireRecord id s)

/-! ### Hand-offs of a decision (R95, R107, R108) -/

/-- A DIVERT decision starts or restarts the lane's camera pulse; the camera of an absent lane is not pulsed (R107, R2). -/
def startCamera (l : Lane) (s : State) : State :=
  if lanePresent s.sst.live l then
    { s with dcu.camera := put s.dcu.camera l (some (after s.now (ms s.sst.live.dec.camPulse))) }
  else s

/-- The summary of a decided record for the snapshot (Table 7-7). -/
def snapEntry (r : VRecord) : SnapEntry :=
  { id := r.id, weighTime := r.weighTime, decTime := r.decTime.getD 0, decision := r.decision.getD .passLight,
    reasons := r.reasons, quality := r.quality, cls := r.cls, axleCount := r.axles.length, speed := r.speed.getD 0,
    gross := r.gross, upper := r.upper, late := r.flags.late }

/-- The snapshot entry of the record's lane is replaced while the snapshot is not frozen (R108). -/
def updateSnapshot (r : VRecord) (s : State) : State :=
  if s.dcu.frozen.isSome then s else { s with dcu.snap := put s.dcu.snap r.lane (some (snapEntry r)) }

/-- The counters of a decision (R95, R165). -/
def countDecision (r : VRecord) (s : State) : State :=
  let divert : BitVec 32 := if r.decision == some .divert then 1 else 0
  countLane r.lane (fun c =>
    if r.quality == some .u || r.quality == none then { c with unweighed := c.unweighed + 1, diverted := c.diverted + divert }
    else { c with weighed := c.weighed + 1, diverted := c.diverted + divert }) s

/-- The notices of a DIVERT decision: the divert notice to the Trace Store and the camera pulse (R95). -/
def divertHandOff (r : VRecord) (s : State) : State :=
  if r.decision == some .divert then startCamera r.lane (divertNotice r.id s) else s

/-- The offer of a provisional PASS_HEAVY record, and what the decision becomes: DIVERT with QUEUE_FULL when it is refused
(R102). -/
def offerDecision (id : Nat) (d : Decision) (reasons : Reasons) (s : State) : Decision × Reasons × State :=
  match d with
  | .passHeavy =>
    let (taken, s1) := offer id s
    if taken then (.passHeavy, reasons, s1) else (.divert, { reasons with queueFull := true }, s1)
  | .passLight | .divert => (d, reasons, s)

/-- What the Decision Unit writes into the record (R95), the windows included (R118). -/
def writeDecision (cls : Nat) (d : Decision) (reasons : Reasons) (live : Settings) (now : Time) (r : VRecord) : VRecord :=
  { r with
    cls := some cls
    decision := some d
    reasons := reasons
    decTime := some now
    flags := { r.flags with late := r.flags.late || earlier (expectedAtSign live r) now }
    st := .decided
    windows := some (windowsOf live r)
    reading := none }

/-- Where TRACK_TTL has already passed since the weigh time, latched at its greatest value, the record expires at its decision (R118, R8; log
entry 65). -/
def expireAtDecision (id : Nat) (s : State) : State :=
  match findRec s id with
  | some r => if r.outlived || passed s.now r.weighTime (secs s.sst.live.track.trackTtl) then expireRecord id s else s
  | none => s

/-- The decision of a weighed record with its hand-offs (R95). In the order that R95 gives: classified, decided, offered, judged LATE,
written, handed on; the windows are set before the VEHICLE report is formed, and an expiry taken at the decision follows the placing in the
approach list and the placing of that report. R95 does not order the other hand-offs against one another. Where two of them place reports
the order is the model's choice: VEHICLE before TRACE_HELD, and TRACE_HELD before the DISPOSITION of an expiry at the decision (log entry 56).
The report shows the admission after the examination that the offer brings (log entry 13). -/
def decideRecord (id : Nat) (s : State) : State :=
  match findRec s id with
  | none => s
  | some r =>
    let st := s.settingsOf r.gen
    let (cls, row, heavy) := classOf st r
    let (d0, reasons0) := decideOf st row heavy r
    let (d, reasons, s1) := offerDecision id d0 reasons0 s
    let s2 := leavePending id (changeRec id (writeDecision cls d reasons s1.sst.live s1.now) s1)
    match findRec s2 id with
    | none => s2
    | some r2 =>
      let s3 := enterApproach r2.lane id s2
      let s4 := countDecision r2 (placeReport (vehicleReport r2) s3)
      expireAtDecision id (updateSnapshot r2 (divertHandOff r2 s4))

/-! ### Weighing a record and deciding it (R92) -/

/-- The agreement samples of a weighed record are given for its lane (R81). -/
def giveSamples (l : Lane) (samples : List Bool) (s : State) : State :=
  samples.foldl (fun s b => agreementSample l b s) s

/-- The weighing to the axle loads of a record of the pool, with its agreement samples (R77 to R84). -/
def weighRecord (id : Nat) (s : State) : State :=
  match findRec s id with
  | none => s
  | some r =>
    let st := s.settingsOf r.gen
    let reading := r.reading.getD (closeReading s r.lane)
    let r1 := weighToAxles st reading r
    giveSamples r.lane (agreementSamples st r1) (changeRec id (fun _ => r1) s)

/-- The remaining stages of a record of the pool (R85 to R91). -/
def finishRecord (id : Nat) (s : State) : State :=
  match findRec s id with
  | none => s
  | some r =>
    let reading := r.reading.getD (closeReading s r.lane)
    changeRec id (fun _ => finishWeighing (s.settingsOf r.gen) reading r) s

/-- A record is weighed and decided whole (R92, R95). -/
def weighAndDecide (id : Nat) (s : State) : State := decideRecord id (finishRecord id (weighRecord id s))

/-- A record is decided alone with STRADDLE_SUSPECT (R70, R71). -/
def decideSuspect (id : Nat) (s : State) : State :=
  weighAndDecide id
    (changeRec id (fun r => { r with flags := { r.flags with straddleSuspect := true } }) (leavePending id s))

/-! ### Timer commands of the Decision Unit -/

/-- The end time of the lane's camera pulse is reached. -/
def cameraEndDue (l : Lane) (s : State) : Bool := s.dcu.camera[l].any (reached s.now)

/-- CAMERA_PULSE_END: the end time is removed, the output becomes inactive (R107). -/
def execCameraPulseEnd (l : Lane) (s : State) : Host.Outcome State Fault Refusal :=
  when' (cameraEndDue l s) s { s with dcu.camera := put s.dcu.camera l none }

/-- The force end time of the lane is reached. -/
def forceEndDue (l : Lane) (s : State) : Bool := s.dcu.force[l].any (reached s.now)

/-- SIGN_FORCE_EXPIRY: the force is removed and the aspect is formed afresh (R106). -/
def execSignForceExpiry (l : Lane) (s : State) : Host.Outcome State Fault Refusal :=
  when' (forceEndDue l s) s { s with dcu.force := put s.dcu.force l none }

end Sys2Proof.Machine
end

