-- ==== Sys2Proof/Machine/Assembler.lean ====
section
/-! DEFINITION. The Lane Assemblers (chapter 5): pairing, opening, splitting, sealing and closing of vehicles, the straddle check
and merge, and lane closing. -/

namespace Sys2Proof.Machine

/-- The state of lane l's assembler changed by f. -/
def changeLas (l : Lane) (f : LasState → LasState) (s : State) : State := { s with las := change s.las l f }

/-! ### The pairing window (R9, R58) -/

/-- X of R9 for a lane. -/
def stripSpan (st : Settings) (l : Lane) : Nat := st.site.stripSpacing[l] * 100000

/-- The pairing window of a lane, from Delta-t min to Delta-t max (R9). -/
def dtMin (st : Settings) (l : Lane) : Nat := ceilDiv (stripSpan st l) (max st.asm.vMax 1)
def dtMax (st : Settings) (l : Lane) : Nat := stripSpan st l / max st.asm.vPairMin 1

/-- The pair speed of a pair timing (R9). -/
def pairSpeed (st : Settings) (l : Lane) (dt : Nat) : Nat := stripSpan st l / max dt 1

/-- An S2 hit with start s2 pairs with this entry (R58). -/
def pairs (s : State) (l : Lane) (s2 : Time) (e : FifoEntry) : Bool :=
  let st := s.settingsOf e.gen
  let dt := ticksFrom e.start s2
  dtMin st l ≤ dt && dt ≤ dtMax st l

/-! ### Straddling (R69 to R72) -/

/-- The element that `better` prefers, the first of equals. -/
def pickBy {α : Type} (better : α → α → Bool) : List α → Option α
  | [] => none
  | x :: xs => some (xs.foldl (fun best y => if better y best then y else best) x)

/-- Of two records, a is nearer to time t; a tie goes to the lower lane, and within one lane to the lower id (R70, step 3; for the awaiting
records of step 1 R70 gives the lower lane alone, and the lower id is the model's choice, log entry 48). -/
def nearer (t : Time) (a b : VRecord) : Bool :=
  let da := apart a.weighTime t
  let db := apart b.weighTime t
  da < db || (da == db && (a.lane.val < b.lane.val || (a.lane == b.lane && a.id < b.id)))

/-- The PENDING records that await a record (R70). -/
def awaiting (s : State) (id : Nat) : List VRecord :=
  (s.las.toList.flatMap fun a => a.pendingList.filter (·.awaits == id)).filterMap fun p => findRec s p.id

/-- The straddle candidates of a record (R70, step 3). -/
def straddleCandidates (s : State) (x : VRecord) : List VRecord :=
  let win := ms (s.settingsOf x.gen).asm.straddleWin
  s.rtb.pool.filter fun c =>
    c.st == .assembling && adjacent s.sst.live x.lane c.lane && apart c.weighTime x.weighTime ≤ win

/-- The merge test of an awaiting record y and a closing record x (R72). -/
def mergeTest (s : State) (y x : VRecord) : Bool :=
  let win := ms (s.settingsOf y.gen).asm.straddleWin
  x.axles.length == y.axles.length &&
    (List.zipWith (fun a b => decide (apart a.s1Start b.s1Start ≤ win)) x.axles y.axles).all id

/-- The merge of two partners by id: each is weighed to its axle loads, the lower id survives, the other is closed MERGED, and
the survivor is weighed on and decided (R72, R84). -/
def mergeRecords (yId xId : Nat) (s : State) : State :=
  let survivorId := min yId xId
  let otherId := max yId xId
  let s1 := weighRecord xId (weighRecord yId s)
  match findRec s1 survivorId, findRec s1 otherId with
  | some a, some b =>
    let ra := a.reading.getD (closeReading s1 a.lane)
    let rb := b.reading.getD (closeReading s1 b.lane)
    let m := { mergedRecord a b with reading := some (joinReadings ra rb) }
    let s2 := closeRecord otherId .merged (leavePending survivorId (changeRec survivorId (fun _ => m) s1))
    decideRecord survivorId (finishRecord survivorId s2)
  | _, _ => s1

/-- A merge where the test passes, otherwise both records decided alone with STRADDLE_SUSPECT (R72). -/
def mergeOrPart (y x : VRecord) (s : State) : State :=
  if mergeTest s y x then mergeRecords y.id x.id s
  else decideSuspect x.id (decideSuspect y.id s)

/-- A record becomes PENDING, awaiting a candidate (R70, step 3). -/
def awaitCandidate (x : VRecord) (candidate : Nat) (s : State) : State :=
  changeLas x.lane (fun a => { a with pendingList := a.pendingList ++ [⟨x.id, candidate, s.now⟩] })
    (changeRec x.id (fun r => { r with st := .pending }) s)

/-- The straddle check at the completed close of a recorded vehicle (R70). The others that await it are decided alone after the merge or the
parting (log entry 22), in ascending lane and within a lane in the order of its pending list, which R70 leaves open (log entry 60). -/
def straddleCheck (id : Nat) (s : State) : State :=
  match findRec s id with
  | none => s
  | some x =>
    let waiting := awaiting s id
    match pickBy (nearer x.weighTime) waiting with
    | some y =>
      let others := (waiting.map (·.id)).filter (· != y.id)
      others.foldl (fun s o => decideSuspect o s) (mergeOrPart y x s)
    | none =>
      if x.flags.straddleSuspect || (s.settingsOf x.gen).asm.straddleWin = 0 then weighAndDecide id s
      else match pickBy (nearer x.weighTime) (straddleCandidates s x) with
        | some c => awaitCandidate x c.id s
        | none => weighAndDecide id s

/-! ### Completed closes (R69, R75) -/

/-- The distance of two axle numbers. -/
def axleDistance (i j : Nat) : Nat := absDiff i j

/-- The substitute speed of axle number i: that of the nearest paired axle, the earlier on a tie, or 0 (R69). -/
def substituteSpeed (axles : List Axle) (i : Nat) : Nat :=
  let paired := axles.zipIdx.filter fun p => p.1.source == .paired
  match pickBy (fun a b => decide (axleDistance a.2 i < axleDistance b.2 i)) paired with
  | some p => p.1.speed.getD 0
  | none => 0

/-- The axles with their substitute speeds resolved (R69). -/
def resolveSpeeds (axles : List Axle) : List Axle :=
  axles.zipIdx.map fun p =>
    if p.1.source == .substitute then { p.1 with speed := some (substituteSpeed axles p.2) } else p.1

/-- A record at its completed close: speeds resolved, its speed that of its first paired axle or 0, and its close readings taken
(R69, R75). -/
def closedRecord (s : State) (r : VRecord) : VRecord :=
  { r with
    axles := resolveSpeeds r.axles
    speed := some (((pairedSpeeds r.axles).head?).getD 0)
    reading := some (closeReading s r.lane) }

/-- The close of one sealed vehicle that has no FIFO entry left (R69). -/
def completeClose (s : State) (v : SealedVehicle) : State :=
  match v.owner with
  | .recorded id => straddleCheck id (changeRec id (closedRecord s) s)
  | .unrecorded | .noRecord => s

/-- The FIFO of an assembler holds no entry of the vehicle. -/
def resolved (a : LasState) (v : SealedVehicle) : Bool := !(a.fifo.any (·.veh == v.veh))

/-- The closes of lane l's sealed vehicles with no entry left, in opening order (R69). -/
def completeCloses (l : Lane) (s : State) : State :=
  let a := s.las[l]
  (a.sealed.filter (resolved a)).foldl completeClose
    (changeLas l (fun a => { a with sealed := a.sealed.filter fun v => !resolved a v }) s)

/-- The open vehicle is sealed; one with no record yet has no hit and is discarded (R65, R67). -/
def sealOpen (l : Lane) (s : State) : State :=
  match s.las[l].openVeh with
  | none => s
  | some v =>
    match v.owner with
    | .noRecord => changeLas l (fun a => { a with openVeh := none }) s
    | .unrecorded | .recorded _ =>
      completeCloses l
        (changeLas l (fun a => { a with openVeh := none, sealed := a.sealed ++ [⟨v.veh, v.owner, v.gen⟩] }) s)

/-! ### Orphans and silent runs (R59 to R61) -/

/-- A run raised by 1 and held at 255. -/
def raiseRun (n : Nat) : Nat := min (n + 1) Config.runCap

/-- A STRIP_SILENT cause for a channel of lane l, marked with its run (R59, R61). -/
def silentCause (c : Chan) (run : Nat) (s : State) : State :=
  giveGraded (silentIx c) (Config.silentN ≤ run) s.now s

/-- The axle of a record by its number, changed by f. -/
def changeAxle (id n : Nat) (f : Axle → Axle) (s : State) : State :=
  changeRec id (fun r => { r with axles := r.axles.modify (n - 1) f }) s

/-- What an orphan does to its record (R61). -/
def orphanAxle (e : FifoEntry) (s : State) : State :=
  match e.owner, e.axle with
  | .recorded id, some n =>
    changeRec id (fun r => { r with flags := { r.flags with orphan := true } })
      (changeAxle id n (fun a => { a with s2Area := none, source := .substitute, speed := none }) s)
  | _, _ => s

/-- An entry that has just left the FIFO is an orphan: STRIP_SILENT for the S2 channel, the record flagged, and the closes it
frees completed (R61). The cause comes before the closes, which R61 does not order (log entry 68). -/
def orphan (l : Lane) (e : FifoEntry) (s : State) : State :=
  let run := raiseRun s.las[l].silentS2
  let s1 := silentCause (s2Chan l) run (changeLas l (fun a => { a with silentS2 := run }) s)
  completeCloses l (orphanAxle e s1)

/-- The first FIFO entry that satisfies p is removed as an orphan. -/
def orphanFirst (l : Lane) (p : FifoEntry → Bool) (s : State) : State :=
  match s.las[l].fifo.find? p with
  | none => s
  | some e => orphan l e (changeLas l (fun a => { a with fifo := a.fifo.eraseP p }) s)

/-- Every entry that waits for the S2 detector is removed as an orphan, when the detector has left PULSE or TAIL (R60). -/
def orphanWaiting : Nat → Lane → State → State
  | 0, _, s => s
  | n + 1, l, s => if s.las[l].fifo.any (·.waiting) then orphanWaiting n l (orphanFirst l (·.waiting) s) else s

/-- The lane's S2 detector has left PULSE or TAIL (R60). -/
def s2DetectorLeft (l : Lane) (s : State) : State := orphanWaiting s.las[l].fifo.length l s

/-! ### S1 hits (R57, R63 to R66) -/

/-- A hit handed to an assembler (Table 3-4) with its time of report, the scan-tick time of the sample that ended its TAIL (R31); the
channel gives the lane and the strip. -/
structure Hit where
  start : Time
  area  : Nat
  prev  : Option Time
  taken : Time
deriving DecidableEq, Repr

/-- Room is made in a full pairing FIFO (R57). -/
def makeFifoRoom (l : Lane) (s : State) : State :=
  if Config.fifoCap ≤ s.las[l].fifo.length then orphanFirst l (fun _ => true) s else s

/-- The FIFO entry of an S1 hit, the open vehicle's times, and the id notice to the Trace Store (R57, R63). -/
def enterHit (l : Lane) (h : Hit) (v : OpenVehicle) (axle : Option Nat) (s : State) : State :=
  let id := match v.owner with
    | .recorded id => id
    | .unrecorded | .noRecord => 0
  let e : FifoEntry := ⟨h.start, h.area, v.owner, axle, v.gen, v.veh, false⟩
  idNotice (s1Chan l) h.start id
    (changeLas l (fun a =>
      { a with fifo := a.fifo ++ [e], openVeh := some { v with lastStart := h.start, lastTaken := h.taken } }) s)

/-- The first S1 hit of the open vehicle v: a record is opened, or the vehicle is unrecorded with a TABLE_FULL fault cause (R63,
R66). -/
def firstHit (l : Lane) (h : Hit) (v : OpenVehicle) (s : State) : State :=
  let v1 := { v with firstStart := h.start, gen := s.sst.liveGen }
  match openRecord l h.start h.area s with
  | some (id, s1) => enterHit l h { v1 with owner := .recorded id } (some 1) s1
  | none => enterHit l h { v1 with owner := .unrecorded } none (giveFault (tableFullIx l) s.now s)

/-- A vehicle with no record yet is opened, with the next serial number. -/
def newVehicle (l : Lane) (covered : Bool) (s : State) : OpenVehicle × State :=
  let n := s.las[l].nextVeh
  (⟨n, .noRecord, covered, 0, 0, 0, 0⟩, changeLas l (fun a => { a with nextVeh := n + 1 }) s)

/-- A later S1 hit of the open vehicle: an axle is appended, or a 13th is not recorded and the record is TRUNCATED (R65). -/
def laterHit (l : Lane) (h : Hit) (v : OpenVehicle) (s : State) : State :=
  match v.owner with
  | .recorded id =>
    let n := ((findRec s id).map (·.axles.length)).getD 0
    if n < Config.axleCap then
      enterHit l h v (some (n + 1)) (changeRec id (fun r => { r with axles := r.axles ++ [openAxle h.start h.area] }) s)
    else
      enterHit l h v none (changeRec id (fun r => { r with reasons := { r.reasons with truncated := true } }) s)
  | .unrecorded | .noRecord => enterHit l h v none s

/-- The split test (R64): the gap to the previous hit exceeds the split time at the reference speed. -/
def splits (s : State) (l : Lane) (h : Hit) (v : OpenVehicle) : Bool :=
  let st := s.settingsOf v.gen
  let vref := s.las[l].vref.getD st.asm.vNominal
  travelFloor st.asm.splitGap vref < ticksFrom (h.prev.getD v.lastStart) h.start

/-- A vehicle is opened with the hit as its first S1 hit. -/
def openWith (l : Lane) (covered : Bool) (h : Hit) (s : State) : State :=
  let (v, s1) := newVehicle l covered s
  firstHit l h v s1

/-- An S1 hit (R57, R63). -/
def takeS1 (l : Lane) (h : Hit) (s : State) : State :=
  let s1 := makeFifoRoom l s
  match s1.las[l].openVeh with
  | none => openWith l false h s1
  | some v =>
    match v.owner with
    | .noRecord => firstHit l h v s1
    | .unrecorded | .recorded _ =>
      if splits s1 l h v then openWith l v.loopCovered h (sealOpen l s1) else laterHit l h v s1

/-! ### S2 hits (R58, R59) -/

/-- What a pair does to its record (R58). -/
def pairAxle (e : FifoEntry) (area v : Nat) (s : State) : State :=
  match e.owner, e.axle with
  | .recorded id, some n =>
    changeAxle id n (fun a => { a with s2Area := some area, speed := some v, source := .paired }) s
  | _, _ => s

/-- The id a pulse of an entry belongs to, 0 where there is no record. -/
def entryId (e : FifoEntry) : Nat :=
  match e.owner with
  | .recorded id => id
  | .unrecorded | .noRecord => 0

/-- An S2 hit: paired with the oldest entry in whose window it lies (R58), or spurious (R59). -/
def takeS2 (l : Lane) (h : Hit) (s : State) : State :=
  match s.las[l].fifo.find? (pairs s l h.start) with
  | some e =>
    let v := pairSpeed (s.settingsOf e.gen) l (ticksFrom e.start h.start)
    let s1 := changeLas l (fun a =>
      { a with fifo := a.fifo.eraseP (pairs s l h.start), vref := some v, silentS1 := 0, silentS2 := 0 }) s
    completeCloses l (idNotice (s2Chan l) h.start (entryId e) (pairAxle e h.area v s1))
  | none =>
    let run := raiseRun s.las[l].silentS1
    idNotice (s2Chan l) h.start 0
      (silentCause (s1Chan l) run (changeLas l (fun a => { a with silentS1 := run }) s))

/-! ### Loop events at the assembler (R62, R67, R68) -/

/-- A loop-covered vehicle with no record yet is opened. -/
def openCovered (l : Lane) (s : State) : State :=
  let (v, s1) := newVehicle l true s
  changeLas l (fun a => { a with openVeh := some v }) s1

/-- An ARRIVE of P_L at time t (Table 5-3). -/
def lasArrive (l : Lane) (t : Time) (s : State) : State :=
  match s.las[l].openVeh with
  | none => openCovered l s
  | some v =>
    if !v.loopCovered && !earlier v.firstStart t then
      changeLas l (fun a => { a with openVeh := some { v with loopCovered := true } }) s
    else openCovered l (sealOpen l s)

/-- A DEPART of P_L (R67). -/
def lasDepart (l : Lane) (s : State) : State :=
  if s.las[l].openVeh.any (·.loopCovered) then sealOpen l s else s

/-- P_L has gone out of service: the loop-covered flag of the open vehicle is cleared, and one with no record yet is discarded
(R68). -/
def lasLoopLost (l : Lane) (s : State) : State :=
  changeLas l (fun a =>
    { a with openVeh := match a.openVeh with
        | some v => if v.owner == .noRecord then none else some { v with loopCovered := false }
        | none => none }) s

/-! ### Lane closing (R73) -/

/-- The ids of the records an assembler holds, in the order R73 lists them (R116): open vehicle, sealed vehicles, pending list. -/
def heldIds (a : LasState) : List Nat :=
  let ofOwner : Owner → List Nat := fun o => match o with
    | .recorded id => [id]
    | .unrecorded | .noRecord => []
  (match a.openVeh with | some v => ofOwner v.owner | none => []) ++
    a.sealed.flatMap (fun v => ofOwner v.owner) ++ a.pendingList.map (·.id)

/-- The assembler of a lane whose mode becomes CLOSED holds nothing more: its vehicles are discarded, its FIFO emptied, its reference speed
its pending list and silent runs cleared (R73). -/
def emptyLas (a : LasState) : LasState :=
  { a with fifo := [], openVeh := none, sealed := [], pendingList := [], vref := none, silentS1 := 0, silentS2 := 0 }

/-- The ids of the records held by the assemblers of the lanes given, and the ids that their PENDING records await. -/
def heldIn (s : State) (lanes : List Lane) : List Nat := lanes.flatMap fun l => heldIds s.las[l]
def awaitedIn (s : State) (lanes : List Lane) : List Nat := lanes.flatMap fun l => s.las[l].pendingList.map (·.awaits)

/-- A record is flagged STRADDLE_SUSPECT. -/
def flagSuspect (s : State) (id : Nat) : State :=
  changeRec id (fun r => { r with flags := { r.flags with straddleSuspect := true } }) s

/-- The assemblers of the lanes whose modes become CLOSED at one event, the lower lane first: their records are closed ABANDONED; then the
records of open lanes that were awaited are flagged STRADDLE_SUSPECT, and PENDING records of open lanes that awaited an abandoned record
are decided alone (R73; log entry 38), in ascending lane and within a lane in the order of its pending list, which R73 leaves open (log entry
60). What these lanes held has left pool and pending lists before, so that none of it is flagged or decided. -/
def abandonLanes (lanes : List Lane) (s : State) : State :=
  let ids := heldIn s lanes
  let awaited := awaitedIn s lanes
  let s1 := lanes.foldl (fun s l => changeLas l emptyLas s) s
  let s2 := ids.foldl (fun s id => closeRecord id .abandoned s) s1
  let s3 := awaited.foldl flagSuspect s2
  let left := s3.las.toList.flatMap fun b =>
    (b.pendingList.filter fun p => ids.contains p.awaits).map (·.id)
  left.foldl (fun s id => decideSuspect id s) s3

/-! ### Timer commands of the assemblers -/

/-- An entry's expiry is due (R60). -/
def entryDue (s : State) (l : Lane) (e : FifoEntry) : Bool :=
  !e.waiting && passed s.now e.start (dtMax (s.settingsOf e.gen) l + 1)

/-- An entry of the lane's FIFO is due. -/
def fifoExpiryDue (l : Lane) (s : State) : Bool := s.las[l].fifo.any (entryDue s l)

/-- The lane's S2 detector is in PULSE or TAIL (R60). -/
def s2Busy (s : State) (l : Lane) : Bool :=
  s.scu[s2Chan l].det == .pulse || s.scu[s2Chan l].det == .tail

/-- The oldest due entry waits for the S2 detector (R60). -/
def markWaiting (l : Lane) (s : State) : State :=
  changeLas l (fun a =>
    { a with fifo := (changeFirst (entryDue s l) (fun e => { e with waiting := true }) a.fifo).getD a.fifo }) s

/-- FIFO_ENTRY_EXPIRY: the oldest due entry becomes an orphan, or waits while the S2 detector is in PULSE or TAIL (R60). -/
def execFifoEntryExpiry (l : Lane) (s : State) : Host.Outcome State Fault Refusal :=
  when' (fifoExpiryDue l s) s (if s2Busy s l then markWaiting l s else orphanFirst l (entryDue s l) s)

/-- The open vehicle is closed by gap and CLOSE_GAP has passed since the taking of its latest S1 hit (R68). -/
def closeGapDue (l : Lane) (s : State) : Bool :=
  s.las[l].openVeh.any fun v =>
    v.owner != .noRecord && (!v.loopCovered || !inService s (pLoop l)) &&
      passed s.now v.lastTaken (ms (s.settingsOf v.gen).asm.closeGap)

/-- CLOSE_GAP_EXPIRY: the vehicle is sealed (R68). -/
def execCloseGapExpiry (l : Lane) (s : State) : Host.Outcome State Fault Refusal :=
  when' (closeGapDue l s) s (sealOpen l s)

/-- The pending entry of a record. -/
def pendingEntry (s : State) (id : Nat) : Option PendingRecord :=
  (s.las.toList.flatMap (·.pendingList)).find? (·.id == id)

/-- STRADDLE_WAIT of the record's generation has passed since its wait start (R71). -/
def straddleWaitDue (id : Nat) (s : State) : Bool :=
  (pendingEntry s id).any fun p => (findRec s id).any fun r =>
    passed s.now p.waitStart (ms (s.settingsOf r.gen).asm.straddleWait)

/-- The wait runs out: the record is decided alone, its awaited record is flagged STRADDLE_SUSPECT (R71). -/
def endWait (id : Nat) (s : State) : State :=
  match pendingEntry s id with
  | none => s
  | some p =>
    decideSuspect id (flagSuspect s p.awaits)

/-- STRADDLE_WAIT_EXPIRY (R71). -/
def execStraddleWaitExpiry (id : Nat) (s : State) : Host.Outcome State Fault Refusal :=
  when' (straddleWaitDue id s) s (endWait id s)

end Sys2Proof.Machine
end

