-- ==== Sys2Proof/Machine/Zero.lean ====
section
/-! DEFINITION. The Zero Scheduler (chapter 3, sections 3.3 to 3.5): grading, selection, measurement and its outcomes. -/

namespace Sys2Proof.Machine

/-- The Zero Scheduler's state of channel c changed by f. -/
def changeZero (c : Chan) (f : ZeroChan → ZeroChan) (s : State) : State :=
  { s with zsc.chans := change s.zsc.chans c f }

/-! ### Grading (R37) -/

/-- The age of a channel's last zero in device seconds (R37). -/
def zeroAge (s : State) (c : Chan) : Nat := (s.tbu.seconds - s.zsc.chans[c].lastZero.getD 0).toNat

/-- The channel is due (R37). -/
def zeroDue (s : State) (c : Chan) : Bool :=
  s.zsc.chans[c].lastZero.isNone || s.sst.live.zero.zeroInterval ≤ zeroAge s c

/-- The overdue grade that the age gives (R37). -/
def gradeOf (s : State) (c : Chan) : ZeroGrade :=
  if 2 * s.sst.live.zero.zeroOverdue ≤ zeroAge s c then .failing
  else if s.sst.live.zero.zeroOverdue ≤ zeroAge s c then .overdue
  else .fresh

/-- The notices of a change of grade (R37; log entry 20 for the change from not overdue to failing). -/
def gradeNotices (c : Chan) (old new : ZeroGrade) (s : State) : State :=
  let ix := overdueIx c
  match old, new with
  | .fresh, .overdue => giveCause ix s.now s
  | .fresh, .failing => giveFault ix s.now (giveCause ix s.now s)
  | .overdue, .failing => giveFault ix s.now s
  | .overdue, .fresh | .failing, .fresh => giveClear ix s
  | .failing, .overdue => giveCause ix s.now (giveClear ix s)
  | .fresh, .fresh | .overdue, .overdue | .failing, .failing => s

/-- A channel is graded (R37). -/
def gradeChannel (c : Chan) (s : State) : State :=
  let new := gradeOf s c
  gradeNotices c s.zsc.chans[c].grade new (changeZero c (fun z => { z with due := zeroDue s c, grade := new }) s)

/-- Every channel of a lane whose mode is other than CLOSED is graded, in ascending channel (R37; log entry 44 for the order). -/
def gradeAll (s : State) : State :=
  allChans.foldl (fun s c => if laneModeOf s (chanLane c) == .closed then s else gradeChannel c s) s

/-! ### Selection (R38, R39) -/

/-- The P loop of the lane is free, or is faulted, or is ignored (R38). -/
def presenceFree (s : State) (l : Lane) : Bool :=
  !s.liu.deb[loopInput (pLoop l)].level || !inService s (pLoop l)

/-- A detector is IDLE or OFF (R38). -/
def detectorQuiet (s : State) (c : Chan) : Bool := s.scu[c].det == .idle || s.scu[c].det == .off

/-- The lane is idle for zeroing (R38). -/
def laneIdle (s : State) (l : Lane) : Bool :=
  presenceFree s l && detectorQuiet s (s1Chan l) && detectorQuiet s (s2Chan l) && s.las[l].fifo.isEmpty &&
    !(s.rtb.pool.any fun r => r.lane == l && r.st == .assembling)

/-- Channel c qualifies for a measurement (R39). -/
def qualifies (s : State) (c : Chan) : Bool :=
  let l := chanLane c
  lanePresent s.sst.live l &&
    (s.zsc.chans[c].requested || (s.zsc.chans[c].due && laneModeOf s l != .closed)) &&
    scansChan s.csq.inForce.scanList c && laneIdle s l

/-- The channel n places after c, with wraparound from 5 to 0. -/
def chanAfter (c : Chan) (n : Nat) : Chan := Fin.ofNat 6 (c.val + n)

/-- The first channel from the pointer on that qualifies (R39). -/
def selectChannel (s : State) : Option Chan :=
  ((List.range 6).map (chanAfter s.zsc.pointer)).find? (qualifies s)

/-- A measurement of channel c begins with the settings then live (R39, R43). -/
def beginMeasurement (c : Chan) (s : State) : State :=
  let z := s.sst.live.zero
  { s with zsc.meas := some ⟨c, 0, 0, 0, 0, z.zeroN, z.zeroSpread, z.zeroRange, z.baseRef[c]⟩ }

/-- The selection at a scan tick with no measurement in progress (R39). -/
def selectMeasurement (s : State) : State :=
  match selectChannel s with
  | some c => beginMeasurement c s
  | none => s

/-! ### Abandoning (R41) -/

/-- The measurement in progress is abandoned: the pointer is set to its channel and nothing else is changed (R41). -/
def abandonZero (s : State) : State :=
  match s.zsc.meas with
  | some m => { s with zsc.pointer := m.chan, zsc.meas := none }
  | none => s

/-- A measurement in lane l is abandoned (Table 3-10). -/
def abandonLaneZero (l : Lane) (s : State) : State :=
  if s.zsc.meas.any (chanLane ·.chan == l) then abandonZero s else s

/-- The Zero Scheduler's part in a scan tick: a measurement whose channel the list no longer holds is abandoned, and with none in
progress a channel is selected; after an abandonment the next selection is at the next scan tick (R39, R41). -/
def zeroScanTick (s : State) : State :=
  match s.zsc.meas with
  | some m => if scansChan s.csq.inForce.scanList m.chan then s else abandonZero s
  | none => selectMeasurement s

/-! ### Samples and the end of a measurement (R41, R42) -/

/-- A measurement with one more sample (R41). -/
def addZeroSample (norm : Int) (m : Measurement) : Measurement :=
  { m with
    count := m.count + 1
    sum := m.sum + norm
    least := if m.count = 0 then norm else min m.least norm
    greatest := if m.count = 0 then norm else max m.greatest norm }

/-- The mean and the spread of a measurement (R42). -/
def zeroMean (m : Measurement) : Int := Int.fdiv m.sum (Int.ofNat m.zeroN)
def zeroSpan (m : Measurement) : Int := m.greatest - m.least

/-- The measurement ends: the requested flag is cleared and the pointer moves past the channel (R42). -/
def clearMeasurement (m : Measurement) (s : State) : State :=
  { changeZero m.chan (fun z => { z with requested := false }) s with
    zsc.pointer := chanAfter m.chan 1, zsc.meas := none }

/-- A rejection as out of range (Table 3-11). -/
def rejectRange (c : Chan) (s : State) : State :=
  let run := min (s.zsc.chans[c].rangeRun + 1) Config.runCap
  giveGraded (rangeIx c) (Config.runFault ≤ run) s.now (changeZero c (fun z => { z with rangeRun := run }) s)

/-- An acceptance (Table 3-11); the change of the last-zero time grades the channel where its lane is not CLOSED (R37). -/
def acceptZero (c : Chan) (mean : Int) (s : State) : State :=
  let s1 := changeZero c (fun z => { z with baseline := mean, lastZero := some s.tbu.seconds, rangeRun := 0 }) s
  if laneModeOf s1 (chanLane c) == .closed then s1 else gradeChannel c s1

/-- The end of a measurement with its last sample (R42). -/
def endMeasurement (m : Measurement) (s : State) : State :=
  let s1 := clearMeasurement m s
  if Int.ofNat m.spread < zeroSpan m then s1
  else if Int.ofNat m.range < |zeroMean m - m.baseRef| then rejectRange m.chan s1
  else acceptZero m.chan (zeroMean m) s1

/-- A sample of channel c handed to the Zero Scheduler (R41). -/
def zeroSample (c : Chan) (norm : Int) (missing : Bool) (s : State) : State :=
  match s.zsc.meas with
  | none => s
  | some m =>
    if m.chan != c then s
    else if missing then abandonZero s
    else
      let m1 := addZeroSample norm m
      if m1.zeroN ≤ m1.count then endMeasurement m1 s else { s with zsc.meas := some m1 }

/-! ### Lane mode changes (R37, R41) -/

/-- Grading of a channel stops when its lane is CLOSED, with a clear notice where it is overdue (R37; log entry 27). -/
def stopGrading (c : Chan) (s : State) : State :=
  let s1 := changeZero c (fun z => { z with grade := .fresh }) s
  if s.zsc.chans[c].grade != .fresh then giveClear (overdueIx c) s1 else s1

/-- Lane l has become CLOSED (R37, R41); S1's channel is taken before S2's (log entry 44). -/
def zeroLaneClosed (l : Lane) (s : State) : State :=
  stopGrading (s2Chan l) (stopGrading (s1Chan l) (abandonLaneZero l s))

/-- Lane l has left CLOSED: its grading resumes at once (R37, R41), S1's channel before S2's (log entry 44). -/
def zeroLaneOpened (l : Lane) (s : State) : State :=
  gradeChannel (s2Chan l) (gradeChannel (s1Chan l) (abandonLaneZero l s))

/-! ### DEVICE_SECONDS_ADVANCE -/

/-- A further 100,000 ticks have been counted (R6). -/
def secondDue (s : State) : Bool := Config.ticksPerS ≤ s.tbu.secTicks

/-- Device seconds advance by one (R6). -/
def advanceSecond (s : State) : State :=
  { s with tbu.seconds := s.tbu.seconds + 1, tbu.secTicks := s.tbu.secTicks - Config.ticksPerS }

/-- DEVICE_SECONDS_ADVANCE: device seconds advance and the channels are graded (R6, R37). -/
def execDeviceSecondsAdvance (s : State) : Host.Outcome State Fault Refusal :=
  when' (secondDue s) s (gradeAll (advanceSecond s))

end Sys2Proof.Machine
end

