-- ==== Sys2Proof/Machine/Strip.lean ====
section
/-! DEFINITION. The Strip Channel Units (chapter 3, section 3.1): the detector's states, hits, noise and stuck pulses, and the
detector OFF. -/

namespace Sys2Proof.Machine

/-- The Strip Channel Unit of channel c changed by f. -/
def changeScu (c : Chan) (f : ScuState → ScuState) (s : State) : State := { s with scu := change s.scu c f }

/-- The capped excess (R27). -/
def cappedExcess (e : Int) : Int := min e Config.excessCap

/-- The pulse accumulators cleared. -/
def clearPulse (u : ScuState) : ScuState :=
  { u with start := 0, count := 0, area := 0, peak := 0, missing := 0, tailSamples := 0, tailBuf := [], span := [] }

/-- An entry to IDLE, which takes the detector settings of the live generation (R34). -/
def enterIdle (live : DetSettings) (u : ScuState) : ScuState := { clearPulse u with det := .idle, cfg := live }

/-- A pulse begins with its first included sample (R28). -/
def beginPulse (t : Time) (e norm : Int) (missing : Bool) (u : ScuState) : ScuState :=
  { u with
    det := .pulse, start := t, count := 1, area := (cappedExcess e).toNat, peak := (cappedExcess e).toNat,
    missing := if missing then 1 else 0, tailSamples := 0, tailBuf := [], span := [(norm, missing)] }

/-- A further included sample (R29). -/
def includeSample (e norm : Int) (missing : Bool) (u : ScuState) : ScuState :=
  { u with
    count := u.count + 1
    area := u.area + (cappedExcess e).toNat
    peak := max u.peak (cappedExcess e).toNat
    missing := u.missing + (if missing then 1 else 0)
    span := u.span ++ [(norm, missing)] }

/-- A sample held in the tail buffer (R29, R30). -/
def tailSample (norm : Int) (missing : Bool) (u : ScuState) : ScuState :=
  { u with det := .tail, tailSamples := u.tailSamples + 1, tailBuf := u.tailBuf ++ [(norm, missing)] }

/-- A sample that rejoins the pulse (R30). -/
def rejoinSample (e norm : Int) (missing : Bool) (u : ScuState) : ScuState :=
  let held := u.tailBuf ++ [(norm, missing)]
  { u with
    det := .pulse
    count := u.count + u.tailSamples + 1
    area := u.area + (cappedExcess e).toNat
    peak := max u.peak (cappedExcess e).toNat
    missing := u.missing + held.countP (·.2)
    span := u.span ++ held
    tailSamples := 0
    tailBuf := [] }

/-- The strip channel is its lane's S2 channel. -/
def isS2 (c : Chan) : Bool := c.val % 2 == 1

/-- The detector of channel c has left PULSE or TAIL: the lane's assembler takes what waits for it (R60). -/
def pulseOver (c : Chan) (s : State) : State := if isS2 c then s2DetectorLeft (chanLane c) s else s

/-- The hit is handed to the lane's assembler (R31). -/
def handHit (c : Chan) (h : Hit) (s : State) : State :=
  if isS2 c then takeS2 (chanLane c) h s else takeS1 (chanLane c) h s

/-- A hit (R31), reported at the scan-tick time t: the captures move, the stuck run becomes 0, the pulse record and the hit are handed on
(log entry 12). -/
def reportHit (c : Chan) (t : Time) (u : ScuState) (s : State) : State :=
  let s1 := changeScu c (fun v =>
    { enterIdle s.sst.live.det v with prev := v.cur, cur := some u.start, stuckRun := 0 }) s
  pulseOver c (handHit c ⟨u.start, u.area, u.cur, t⟩ (storePulse c u.start false u.span s1))

/-- A TAIL has ended without a rejoin at the sample of time t: a hit, or noise (R31). -/
def endTail (c : Chan) (t : Time) (s : State) : State :=
  let u := s.scu[c]
  if u.count < u.cfg.pulseMin then pulseOver c (changeScu c (enterIdle s.sst.live.det) s)
  else reportHit c t u s

/-- The pulse is stuck (R32): an ABORTED record of its first PULSE_MAX values and a PULSE_STUCK cause, and then what waited for the detector
at the lane's assembler (R60; the order of the two is log entry 41). -/
def stickPulse (c : Chan) (s : State) : State :=
  let u := s.scu[c]
  let run := min (u.stuckRun + 1) Config.runCap
  let s1 := changeScu c (fun v => { v with det := .stuck, stuckRun := run }) s
  let s2 := storePulse c u.start true (u.span.take u.cfg.pulseMax) s1
  pulseOver c (giveGraded (stuckIx c) (Config.runFault ≤ run) s2.now s2)

/-- After an included sample: stuck when the count has reached PULSE_MAX (R29, R30). -/
def judgeCount (c : Chan) (s : State) : State :=
  if s.scu[c].cfg.pulseMax ≤ s.scu[c].count then stickPulse c s else s

/-- After a sample held in TAIL: the TAIL ends when its samples have reached PULSE_REJOIN + 1 (R29, R30). -/
def judgeTail (c : Chan) (t : Time) (s : State) : State :=
  if s.scu[c].cfg.pulseRejoin + 1 ≤ s.scu[c].tailSamples then endTail c t s else s

/-- A sample of channel c at time t handed to its Strip Channel Unit (R27 to R32). -/
def detectorSample (c : Chan) (t : Time) (norm : Int) (missing : Bool) (s : State) : State :=
  let u := s.scu[c]
  let e := norm - s.zsc.chans[c].baseline
  match u.det with
  | .off => s
  | .idle =>
    if Int.ofNat u.cfg.pulseOn ≤ e then
      abandonLaneZero (chanLane c) (changeScu c (beginPulse t e norm missing) s)
    else s
  | .pulse =>
    if Int.ofNat u.cfg.pulseOff ≤ e then judgeCount c (changeScu c (includeSample e norm missing) s)
    else judgeTail c t (changeScu c (tailSample norm missing) s)
  | .tail =>
    if Int.ofNat u.cfg.pulseOn ≤ e then judgeCount c (changeScu c (rejoinSample e norm missing) s)
    else judgeTail c t (changeScu c (tailSample norm missing) s)
  | .stuck => if Int.ofNat u.cfg.pulseOff ≤ e then s else changeScu c (enterIdle s.sst.live.det) s

/-- Entry to OFF (R33): a pulse in PULSE or TAIL is aborted with its span recorded; the accumulators, captures and stuck run are
cleared. -/
def detectorOff (c : Chan) (s : State) : State :=
  let u := s.scu[c]
  let s1 := changeScu c (fun v => { clearPulse v with det := .off, cur := none, prev := none, stuckRun := 0 }) s
  match u.det with
  | .pulse | .tail => pulseOver c (storePulse c u.start true u.span s1)
  | .off | .idle | .stuck => s1

/-- Leaving OFF for IDLE (R33, R34). -/
def detectorOn (c : Chan) (s : State) : State :=
  if s.scu[c].det == .off then changeScu c (enterIdle s.sst.live.det) s else s

end Sys2Proof.Machine
end

