-- ==== Sys2Proof/Machine/Convert.lean ====
section
/-! DEFINITION. The Converter Sequencer (chapter 2): scan ticks, passes, conversions, single conversions, temperature and the
reference check. -/

namespace Sys2Proof.Machine

/-! ### Scan ticks (R13 to R16) -/

/-- The due entries of a pass: used entries whose EVERY divides the scan number (R15). -/
def dueEntries (list : Vector ScanEntry 16) (number : BitVec 32) : List ScanEntry :=
  (usedEntries list).filter fun e => number.toNat % max e.every 1 == 0

/-- A scan tick is to be made and the pass before has taken all its slots. -/
def scanTickDue (s : State) : Bool := s.tbu.scanDue && s.csq.slots.isEmpty

/-- A scan tick: the newest committed converter settings come into force, the divider is loaded with their SCAN_DIV, the scan
number advances, and the pass over the list begins; a pending single conversion is armed (R13 to R16, R22). -/
def beginPass (s : State) : State :=
  let conv := s.sst.live.conv
  { s with
    tbu.divider := conv.scanDiv
    tbu.scanDue := false
    csq.inForce := conv
    csq.nextNumber := s.csq.nextNumber + 1
    csq.passTime := s.now
    csq.slotIx := 0
    csq.slots := dueEntries conv.scanList s.csq.nextNumber
    csq.single := s.csq.single.map fun p => { p with armed := true } }

/-- SCAN_TICK (R13, R39). -/
def execScanTick (s : State) : Host.Outcome State Fault Refusal :=
  when' (scanTickDue s) s (zeroScanTick (beginPass s))

/-! ### Answers (R12, R19) -/

/-- The answer to a request for a channel and gain code is a good sample (R12). -/
def goodSample (channel : Fin 8) (gain : Fin 4) (a : ConvAnswer) : Bool :=
  a.channel == channel.val && a.gain == gain.val && a.check == ~~~a.raw

/-- The norm value of a raw sample at a gain code (R19). -/
def normOf (gain : Fin 4) (raw : BitVec 16) : Int := raw.toInt * Int.ofNat (8 / 2 ^ gain.val)

/-- The norm value of a good answer; none for a missing sample (R12, R19). -/
def judge (channel : Fin 8) (gain : Fin 4) (ans : Option ConvAnswer) : Option Int :=
  ans.bind fun a => if goodSample channel gain a then some (normOf gain a.raw) else none

/-! ### Temperature (R23, R24) -/

/-- The temperature in tenths of a degree, clamped (R23). -/
def temperatureOf (conv : ConvSettings) (norm : Int) : Int :=
  max (-400) (min 800 (Int.fdiv ((norm - conv.tempOfs) * conv.tempGain) 65536))

/-- A reading of channel 6: the temperature becomes fresh, with the notice where it was stale (R23, R24). -/
def takeTemperature (norm : Int) (s : State) : State :=
  let s1 := { s with csq.temp := ⟨some (temperatureOf s.csq.inForce norm, s.csq.passTime), false⟩ }
  if s.csq.temp.stale then tempLostClear s1 else s1

/-- The time from which staleness is counted: that of the temperature, or device time 0 of the last start (R24). -/
def staleFrom (s : State) : Time := (s.csq.temp.value.map (·.2)).getD 0

/-- TEMP_STALE has passed and the temperature is not stale yet (R24). -/
def tempStaleDue (s : State) : Bool :=
  !s.csq.temp.stale && passed s.now (staleFrom s) (secs s.csq.inForce.tempStale)

/-- TEMP_STALE_EXPIRY (R24). -/
def execTempStaleExpiry (s : State) : Host.Outcome State Fault Refusal :=
  when' (tempStaleDue s) s (tempLostCause { s with csq.temp.stale := true })

/-! ### Reference check (R25) -/

/-- A reading of channel 7 (R25). -/
def checkReference (norm : Int) (s : State) : State :=
  let conv := s.csq.inForce
  if |norm - conv.refNom| ≤ Int.ofNat conv.refTol then { s with csq.refFails := 0 }
  else
    let fails := min (s.csq.refFails + 1) conv.refN
    giveGraded refCheckIx (conv.refN ≤ fails) s.now { s with csq.refFails := fails }

/-! ### Conversion slots (R15, R19, R20) -/

/-- A sample of a strip channel goes to its Strip Channel Unit, then to the Zero Scheduler (R19, R41). -/
def stripSample (c : Chan) (norm : Int) (missing : Bool) (s : State) : State :=
  zeroSample c norm missing (detectorSample c s.csq.passTime norm missing s)

/-- A sample is routed to its receivers (R19, R20). -/
def routeSample (channel : Fin 8) (norm : Int) (missing : Bool) (s : State) : State :=
  if h : channel.val < 6 then stripSample ⟨channel.val, h⟩ norm missing s
  else if missing then s
  else if channel.val = 6 then takeTemperature norm s
  else checkReference norm s

/-- A sample of a scan-list entry is taken: a good one becomes the held value; a missing one substitutes it and gives a CONV_LINK
cause stamped with the scan tick's time (R12, R19, R20), before it is handed on (log entry 39). -/
def takeSample (e : ScanEntry) (norm : Option Int) (s : State) : State :=
  match norm with
  | some v => routeSample e.channel v false { s with csq.held := put s.csq.held e.channel v }
  | none => routeSample e.channel s.csq.held[e.channel] true (convLinkCause s.csq.passTime s)

/-- The slot of the next due entry has begun. -/
def slotDue (s : State) : Bool := !s.csq.slots.isEmpty && s.csq.slotIx ≤ ticksFrom s.csq.passTime s.now

/-- The slot begun has not ended: a conversion takes one tick (02, section 2.1). -/
def slotOpen (s : State) : Bool := ticksFrom s.csq.passTime s.now ≤ s.csq.slotIx

/-- The answer that counts for the slot begun: one that comes once the slot has ended is discarded (R12; log entry 21). -/
def answerInSlot (ans : Option ConvAnswer) (s : State) : Option ConvAnswer := if slotOpen s then ans else none

/-- The slot of the first entry of the pass not yet taken ends with the converter's answer, or with none. -/
def takeSlot (ans : Option ConvAnswer) (s : State) : State :=
  match s.csq.slots with
  | [] => s
  | e :: rest =>
    takeSample e (judge e.channel e.gain (answerInSlot ans s))
      { s with csq.slots := rest, csq.slotIx := s.csq.slotIx + 1 }

/-- CONVERSION_SLOT (R15). -/
def execConversionSlot (ans : Option ConvAnswer) (s : State) : Host.Outcome State Fault Refusal :=
  when' (slotDue s) s (takeSlot ans s)

/-! ### Single conversions (R22) -/

/-- The spare slot has begun and holds a pending single conversion of a pass begun after its request (R22). -/
def singleDue (s : State) : Bool :=
  s.csq.slots.isEmpty && s.csq.single.any (·.armed) && s.csq.slotIx ≤ ticksFrom s.csq.passTime s.now

/-- The CONVERSION report of a single conversion (R22). -/
def singleReport (p : SingleConv) (ans : Option ConvAnswer) (t : Time) : Report :=
  .conversion ⟨p.chan, p.gain, t, ans.bind fun a =>
    if goodSample p.chan p.gain a then some (a.raw.toInt, normOf p.gain a.raw) else none⟩

/-- The single conversion ends: it is no longer pending, the report is placed, and then a missing sample gives its cause (R22, R12; the order
of the two is log entry 40). -/
def takeSingle (ans : Option ConvAnswer) (s : State) : State :=
  match s.csq.single with
  | none => s
  | some p =>
    let ans := answerInSlot ans s
    let s1 := placeReport (singleReport p ans s.csq.passTime)
      { s with csq.single := none, csq.slotIx := s.csq.slotIx + 1 }
    if (judge p.chan p.gain ans).isNone then convLinkCause s1.csq.passTime s1 else s1

/-- SINGLE_CONVERSION (R22). -/
def execSingleConversion (ans : Option ConvAnswer) (s : State) : Host.Outcome State Fault Refusal :=
  when' (singleDue s) s (takeSingle ans s)

end Sys2Proof.Machine
end

