-- ==== Sys2Proof/Machine/Track.lean ====
section
/-! DEFINITION. The Route Tracker (chapter 8, sections 8.5 and 8.6) with the Deck Controller's part of threshold arrivals (R136 to
R138): slip matches, threshold matches, ghosts and their verdicts. -/

namespace Sys2Proof.Machine

/-! ### Search (R119, R121) -/

/-- The decided records of lane l's approach list, in its order. -/
def approachRecords (s : State) (l : Lane) : List VRecord := s.rtb.approach[l].filterMap (findRec s)

/-- The age of a record's weigh time. -/
def recordAge (s : State) (r : VRecord) : Nat := ticksFrom r.weighTime s.now

/-- Record a comes before b in a search: the older, then the lower lane, then the lower id (R119, R121). -/
def olderThan (s : State) (a b : VRecord) : Bool :=
  recordAge s b < recordAge s a ||
    (recordAge s a == recordAge s b && (a.lane.val < b.lane.val || (a.lane == b.lane && a.id < b.id)))

/-- The record that comes first of a list. -/
def oldestRecord (s : State) : List VRecord → Option VRecord
  | [] => none
  | r :: rs => some (rs.foldl (fun best x => if olderThan s x best then x else best) r)

/-- The slip window of a record contains t (R119). -/
def slipHolds (t : Time) (r : VRecord) : Bool := r.windows.any fun w => inWindow t w.slipFrom w.slipTo

/-- The threshold window of a record contains t (R121). -/
def thresholdHolds (t : Time) (r : VRecord) : Bool := r.windows.any fun w => inWindow t w.threshFrom w.threshTo

/-- The record that a D ARRIVE at time t takes: the oldest DIVERT candidate, otherwise the oldest candidate (R119). -/
def slipTaken (s : State) (t : Time) : Option VRecord :=
  let candidates := (allLanes.flatMap (approachRecords s)).filter (slipHolds t)
  match oldestRecord s (candidates.filter (·.decision == some .divert)) with
  | some r => some r
  | none => oldestRecord s candidates

/-- The record that an E_L ARRIVE at time t matches: the oldest of lane L's list, failing that of the adjacent lanes (R121). -/
def thresholdTaken (s : State) (l : Lane) (t : Time) : Option VRecord :=
  match oldestRecord s ((approachRecords s l).filter (thresholdHolds t)) with
  | some r => some r
  | none =>
    oldestRecord s
      (((allLanes.filter (adjacent s.sst.live l)).flatMap (approachRecords s)).filter (thresholdHolds t))

/-! ### The slip loop (R119, R120) -/

/-- A D ARRIVE at time t. -/
def slipArrive (t : Time) (s : State) : State :=
  match slipTaken s t with
  | none => s
  | some r =>
    if r.decision == some .divert then closeRecord r.id .diverted s
    else closeRecord r.id .exited (withdraw r s)

/-! ### Matched arrivals (R122, R136, R138) -/

/-- A record becomes ON_DECK in deck lane l with the admission given (R122, R136). -/
def boardRecord (l : Lane) (admission : Admission) (r : VRecord) : VRecord :=
  { r with st := .onDeck, deckLane := some l, admission := admission,
           flags := { r.flags with unadmitted := r.flags.unadmitted || admission == .unadmitted } }

/-- A record leaves its approach list for lane l's deck order list as a HEAVY entry (R122, R136). -/
def boardHeavy (l : Lane) (t : Time) (r : VRecord) (load : Nat) (admitted noncompliant : Bool) (s : State) : State :=
  let adm : Admission := if admitted then .used else .unadmitted
  enterDeck l (heavyEntry r.id t load admitted noncompliant)
    (changeRec r.id (boardRecord l adm) (leaveApproach r.id s))

/-- The reserved load of a record's grant. -/
def reservedLoad (s : State) (r : VRecord) : Nat :=
  ((s.dkc.grants.find? (·.id == r.id)).map (·.load)).getD (r.upper.getD 0)

/-- The load of a DIVERT record on the deck (R136). -/
def divertLoad (s : State) (r : VRecord) : Nat :=
  if r.quality == some .a || r.quality == some .b then r.upper.getD 0 else s.sst.live.deck.unknownLoad

/-- The entry of a PASS_LIGHT record, which then closes ENTERED (R122, R136). Where the entry fills the list the DECK report of OVERLOADED is
placed before the DISPOSITION of the close, an order the spec leaves open (log entry 61). -/
def enterLight (l : Lane) (t : Time) (r : VRecord) (s : State) : State :=
  closeRecord r.id .entered (deckReview (enterDeck l (lightEntry t) s))

/-- The entry of a PASS_HEAVY record by its admission (R136). -/
def enterHeavy (l : Lane) (t : Time) (r : VRecord) (s : State) : State :=
  match r.admission with
  | .granted => deckReview (boardHeavy l t r (reservedLoad s r) true false (endGrant r.id s))
  | .none | .queued | .expired | .unadmitted | .used =>
    deckReview (countUnadmitted (boardHeavy l t r (r.upper.getD 0) false false (leaveQueue r.id s)))

/-- The entry of a DIVERT record: noncompliant, with its cause, its counters and the isolation (R122, R136, R145). -/
def enterDivert (l : Lane) (t : Time) (r : VRecord) (s : State) : State :=
  let s1 := countUnadmitted (boardHeavy l t r (divertLoad s r) false true s)
  let s2 := countLane r.lane (fun c => { c with noncompliant := c.noncompliant + 1 }) (noncomplianceCause l r.id s1)
  deckReview (isolate s2)

/-- A refused record: its grant ends or it leaves the queue, it is closed, and the list has overflowed (R138, R122). -/
def refuseArrival (l : Lane) (r : VRecord) (s : State) : State :=
  let s1 := match r.admission with
    | .granted => endGrant r.id s
    | .queued => leaveQueue r.id s
    | .none | .expired | .unadmitted | .used => s
  let d : Disposition := if r.decision == some .passLight then .entered else .flushed
  listOverflow (closeRecord r.id d (changeRec r.id (fun x => { x with deckLane := some l }) s1))

/-- A matched arrival in deck lane l (R122, R136, R138). -/
def matchedArrival (l : Lane) (t : Time) (r : VRecord) (s : State) : State :=
  if listIsFull s l then refuseArrival l r s
  else
    let s1 := changeRec r.id (fun x => { x with deckLane := some l }) s
    match r.decision with
    | some .divert => enterDivert l t r s1
    | some .passHeavy => enterHeavy l t r s1
    | some .passLight | none => enterLight l t r s1

/-! ### Unmatched arrivals and ghosts (R123, R137) -/

/-- An unmatched arrival: a PENDING ghost, its mark and its count, or an overflow (R123, R137, R138). -/
def unmatchedArrival (l : Lane) (t : Time) (s : State) : State :=
  if listIsFull s l then listOverflow s
  else
    let s1 := enterDeck l (ghostEntry t) s
    deckReview { s1 with rtk.ghost := put s1.rtk.ghost l true, cmn.ghosts := s1.cmn.ghosts + 1 }

/-- An E_L ARRIVE at time t (R121). -/
def thresholdArrive (l : Lane) (t : Time) (s : State) : State :=
  match thresholdTaken s l t with
  | some r => matchedArrival l t r s
  | none => unmatchedArrival l t s

/-- The verdict on lane l's open ghost, which clears the mark (R123). -/
def settleGhost (l : Lane) (isHeavy : Bool) (s : State) : State :=
  ghostVerdict l isHeavy { s with rtk.ghost := put s.rtk.ghost l false }

/-- An E_L DEPART handed on, with its occupancy in ticks (R123). -/
def thresholdDepart (l : Lane) (occupancy : Nat) (s : State) : State :=
  if s.rtk.ghost[l] then settleGhost l (ms s.sst.live.track.ghostLong ≤ occupancy) s else s

/-- The part of R123 and R137 that follows E_L's passing out of service: the HEAVY verdict on an open ghost and the flush reach the
same entry, in the order the free value gives (log entry 10). In a CLOSED lane there is the verdict alone (Table 4-3; log entry 70). -/
def thresholdLost (l : Lane) (s : State) : State :=
  if !s.rtk.ghost[l] then deckLoopLost l s
  else if laneModeOf s l = .closed then settleGhost l true s
  else if Config.verdictFirst s.freeIndex then deckLoopLost l (settleGhost l true (useFree s))
  else settleGhost l true (deckLoopLost l (useFree s))

end Sys2Proof.Machine
end

