-- ==== Sys2Proof/Machine/Loops.lean ====
section
/-! DEFINITION. The Loop Input Unit (chapter 4): raw edges, debounce, ARRIVE and DEPART, the stuck and chatter watches, service
changes, FREEZE events and the access level. -/

namespace Sys2Proof.Machine

/-- The debounce of an input, and the loop state of a loop, changed by f. -/
def changeDeb (i : Input) (f : Debounce → Debounce) (s : State) : State := { s with liu.deb := change s.liu.deb i f }
def changeLoop (l : Loop) (f : LoopState → LoopState) (s : State) : State := { s with liu.loops := change s.liu.loops l f }

/-- The loop of an input, none for ENF and MK. -/
def inputLoop (i : Input) : Option Loop := if h : i.val < 10 then some ⟨i.val, h⟩ else none

/-- The interpreted level of an input under the settings given: a loop's occupied, ENF's high, MK's active (R45). -/
def levelUnder (st : Settings) (i : Input) (pin : Bool) : Bool :=
  match inputLoop i with
  | some l => interpret st.loop.loopPol[l] pin
  | none => pin

/-- The interpreted raw level of an input (R45). -/
def rawLevel (s : State) (i : Input) : Bool := levelUnder s.sst.live i s.liu.pins[i]

/-- An input is in use: every input but an out-of-use loop (R45). -/
def inputInUse (st : Settings) (i : Input) : Bool :=
  match inputLoop i with
  | some l => loopInUse st l
  | none => true

/-- LOOP_STABLE in ticks. -/
def loopStable (s : State) : Nat := ms s.sst.live.loop.loopStable

/-! ### Service changes (R50) -/

/-- A loop has gone out of service (R50, Table 4-3). -/
def serviceLost (l : Loop) (s : State) : State :=
  let s1 := changeLoop l (fun x => { x with announced := false }) s
  match loopRole l with
  | .presence k => lasLoopLost k s1
  | .threshold k => thresholdLost k s1
  | .deckExit k => deckLoopLost k s1
  | .slip => s1

/-- A loop has returned to service (R50). -/
def serviceGained (l : Loop) (s : State) : State :=
  match loopRole l with
  | .threshold _ | .deckExit _ => reviewBlind false s
  | .presence _ | .slip => s

/-- The notices of a change of service, given whether the loop was in service before. -/
def serviceChange (l : Loop) (was : Bool) (s : State) : State :=
  if was && !inService s l then serviceLost l s
  else if !was && inService s l then serviceGained l s
  else s

/-! ### RAW_EDGE (R45, R46, R49) -/

/-- The debounce of an input at a raw edge at time t to a level (R46). -/
def debounceEdge (t : Time) (level : Bool) (d : Debounce) : Debounce :=
  { d with
    lastEdge := t
    cand := match d.cand with
      | some c => some c
      | none => if level == d.level then none else some ⟨level, t⟩ }

/-- A detection (R49): an episode begins with a cause, or runs on, with its fault cause once from 10 s after its start; the change of service
follows the fault cause (log entry 45). -/
def chatterDetection (l : Loop) (s : State) : State :=
  match s.liu.loops[l].chatter with
  | none => giveCause (chatterIx l) s.now (changeLoop l (fun x => { x with chatter := some ⟨s.now, s.now, false⟩ }) s)
  | some ep =>
    let isFault := !ep.faultGiven && passed s.now ep.start Config.chatterFault
    let was := inService s l
    let s1 := changeLoop l (fun x =>
      { x with chatter := some ⟨ep.start, s.now, ep.faultGiven || isFault⟩ }) s
    if isFault then serviceChange l was (giveFault (chatterIx l) s.now s1) else s1

/-- The chatter watch of a loop at a raw edge: the edge joins the loop's list, and is a detection where the list then holds CHATTER_N
edges of less than 1 s (R49; log entry 49). -/
def chatterEdge (l : Loop) (s : State) : State :=
  let n := s.sst.live.loop.chatterN
  let edges := addTime n s.now s.liu.loops[l].edges
  let s1 := changeLoop l (fun x => { x with edges := edges }) s
  if recentRun n Config.chatterSpan s.now edges then chatterDetection l s1 else s1

/-- A raw edge of an input in use. -/
def takeEdge (i : Input) (s : State) : State :=
  let s1 := changeDeb i (debounceEdge s.now (rawLevel s i)) s
  match inputLoop i with
  | some l => chatterEdge l s1
  | none => s1

/-- The observed level of an input changes (R45). -/
def observe (i : Input) (level : Bool) (s : State) : State :=
  let s1 := { s with liu.pins := put s.liu.pins i level }
  if inputInUse s.sst.live i then takeEdge i s1 else s1

/-- The observed level differs from the level given. -/
def edgeDue (i : Input) (level : Bool) (s : State) : Bool := s.liu.pins[i] != level

/-- RAW_EDGE: an observed change of level (R45, R46, R49). -/
def execRawEdge (i : Input) (level : Bool) (s : State) : Host.Outcome State Fault Refusal :=
  when' (edgeDue i level s) s (observe i level s)

/-! ### ARRIVE and DEPART (R47, R51) -/

/-- A P_L ARRIVE in service (Table 4-2, R51). -/
def presenceArrive (l : Lane) (t : Time) (s : State) : State :=
  if laneModeOf s l == .closed then giveCause (intrusionIx l) s.now (abandonLaneZero l s)
  else abandonLaneZero l (lasArrive l t (changeLoop (pLoop l) (fun x => { x with announced := true }) s))

/-- An ARRIVE is handed to its receivers (Table 4-2). -/
def handArrive (l : Loop) (t : Time) (s : State) : State :=
  let marked := changeLoop l (fun x => { x with announced := true }) s
  match loopRole l with
  | .presence k => presenceArrive k t s
  | .threshold k => thresholdArrive k t marked
  | .deckExit k => exitArrive k marked
  | .slip => slipArrive t marked

/-- A free-to-occupied change of a loop with event time t (R47). -/
def loopArrive (l : Loop) (t : Time) (s : State) : State :=
  let s1 := changeLoop l (fun x => { x with occStart := t }) s
  if inService s1 l then handArrive l t s1 else s1

/-- A DEPART is handed to its receivers (Table 4-2). -/
def handDepart (l : Loop) (occupancy : Nat) (s : State) : State :=
  match loopRole l with
  | .presence k => if laneModeOf s k == .closed then s else lasDepart k s
  | .threshold k => thresholdDepart k occupancy s
  | .deckExit _ | .slip => s

/-- The stuck grade ends with its clear notice, and then the loop may return to service (R48, R50; log entry 45). -/
def endStuck (l : Loop) (s : State) : State :=
  let was := inService s l
  if s.liu.loops[l].stuck == .none then s
  else
    serviceChange l was
      (giveClear (loopStuckIx l) (changeLoop l (fun x => { x with stuck := .none }) s))

/-- An occupied-to-free change of a loop with event time t: the DEPART is handed on, then the stuck grade ends (R47, R48; log entry 46). -/
def loopDepart (l : Loop) (t : Time) (s : State) : State :=
  let x := s.liu.loops[l]
  let s1 := changeLoop l (fun x => { x with announced := false }) s
  endStuck l (if x.announced then handDepart l (ticksFrom x.occStart t) s1 else s1)

/-! ### ENF and MK (R52, R53) -/

/-- ENF_EDGE selects the change (R52). -/
def enfSelects (e : EnfEdge) (level : Bool) : Bool :=
  match e with
  | .off => false
  | .rise => level
  | .fall => !level
  | .both => true

/-- A FREEZE carrying time t (R109). -/
def takeFreeze (t : Time) (s : State) : State :=
  if s.dcu.frozen.isSome then s else { s with dcu.frozen := some t }

/-- The device mode outside a setup (R164). -/
def restMode (s : State) : DeviceMode := if s.cmn.safeFlag then .safe else .normal

/-- The working copy is dropped and the device mode returns to NORMAL, or to SAFE under the safe flag (R164, R177). -/
def dropWorking (s : State) : State := { s with sst.working := none, cmn.mode := restMode s }

/-- An accepted change of MK: leaving MAINTAIN in SETUP with no store write in progress abandons the working copy (R53, R177). -/
def keyChange (level : Bool) (s : State) : State :=
  if !level && s.cmn.mode == .setup && !s.sst.storeBusy then dropWorking s else s

/-! ### CANDIDATE_ACCEPTED and CANDIDATE_CANCELLED (R46) -/

/-- LOOP_STABLE has passed since the latest raw edge of an input with a candidate. -/
def stableDue (i : Input) (s : State) : Bool := passed s.now s.liu.deb[i].lastEdge (loopStable s)

/-- The candidate of an input is accepted (R46). -/
def acceptDue (i : Input) (s : State) : Bool :=
  inputInUse s.sst.live i && s.liu.deb[i].cand.any (fun c => rawLevel s i == c.level) && stableDue i s

/-- The candidate of an input is cancelled (R46). -/
def cancelDue (i : Input) (s : State) : Bool :=
  inputInUse s.sst.live i && s.liu.deb[i].cand.isSome && rawLevel s i == s.liu.deb[i].level && stableDue i s

/-- The event of an accepted change of an input to a level, with event time t (R47, R52, R53). -/
def debouncedEvent (i : Input) (level : Bool) (t : Time) (s : State) : State :=
  match inputLoop i with
  | some l => if level then loopArrive l t s else loopDepart l t s
  | none =>
    if i == mkInput then keyChange level s
    else if enfSelects s.sst.live.loop.enfEdge level then takeFreeze t s
    else s

/-- The candidate becomes the debounced level, and its event is taken (R46). -/
def acceptCandidate (i : Input) (s : State) : State :=
  match s.liu.deb[i].cand with
  | none => s
  | some c => debouncedEvent i c.level c.firstEdge (changeDeb i (fun d => { d with level := c.level, cand := none }) s)

/-- CANDIDATE_ACCEPTED (R46). -/
def execCandidateAccepted (i : Input) (s : State) : Host.Outcome State Fault Refusal :=
  when' (acceptDue i s) s (acceptCandidate i s)

/-- CANDIDATE_CANCELLED: the candidate is removed and no event is taken (R46). -/
def execCandidateCancelled (i : Input) (s : State) : Host.Outcome State Fault Refusal :=
  when' (cancelDue i s) s (changeDeb i (fun d => { d with cand := none }) s)

/-! ### The stuck watch (R48) -/

/-- A number of LOOP_STUCK times has passed since the occupancy start of an occupied loop in use. -/
def occupiedFor (l : Loop) (n : Nat) (s : State) : Bool :=
  loopInUse s.sst.live l && s.liu.deb[loopInput l].level &&
    passed s.now s.liu.loops[l].occStart (n * secs s.sst.live.loop.loopStuck)

def stuckAlertDue (l : Loop) (s : State) : Bool := s.liu.loops[l].stuck == .none && occupiedFor l 1 s
def stuckFaultDue (l : Loop) (s : State) : Bool := s.liu.loops[l].stuck != .faulted && occupiedFor l 2 s

/-- LOOP_STUCK_ALERT (R48). -/
def execLoopStuckAlert (l : Loop) (s : State) : Host.Outcome State Fault Refusal :=
  when' (stuckAlertDue l s) s
    (giveCause (loopStuckIx l) s.now (changeLoop l (fun x => { x with stuck := .alerted }) s))

/-- LOOP_STUCK_FAULT: the fault cause, and then the loop goes out of service (R48, R50; log entry 45). -/
def execLoopStuckFault (l : Loop) (s : State) : Host.Outcome State Fault Refusal :=
  when' (stuckFaultDue l s) s
    (serviceChange l (inService s l)
      (giveFault (loopStuckIx l) s.now (changeLoop l (fun x => { x with stuck := .faulted }) s)))

/-! ### The end of chatter (R49) -/

/-- 30 s have passed since the last detection of the episode. -/
def chatterQuietDue (l : Loop) (s : State) : Bool :=
  loopInUse s.sst.live l && s.liu.loops[l].chatter.any fun ep => passed s.now ep.lastDet Config.chatterQuiet

/-- The chatter state returns to QUIET with its clear notice, and then the loop may return to service (R49, R50; log entry 45). -/
def endChatter (l : Loop) (s : State) : State :=
  serviceChange l (inService s l)
    (giveClear (chatterIx l) (changeLoop l (fun x => { x with chatter := none, edges := [] }) s))

/-- CHATTER_QUIET (R49). -/
def execChatterQuiet (l : Loop) (s : State) : Host.Outcome State Fault Refusal :=
  when' (chatterQuietDue l s) s (endChatter l s)

end Sys2Proof.Machine
end

