-- ==== Sys2Proof/Machine/Lanes.lean ====
section
/-! DEFINITION. What follows when a lane's mode becomes CLOSED or leaves CLOSED (R162, R163, R33, R37, R51, R73, R142). -/

namespace Sys2Proof.Machine

/-- The strips of a lane whose mode has become CLOSED, after its assembler has abandoned its records (R73; log entry 11): the detectors go
OFF, S1 before S2 (R33; log entry 42), and zeroing of the lane stops (R37, R41). -/
def shutLane (l : Lane) (s : State) : State :=
  zeroLaneClosed l (detectorOff (s2Chan l) (detectorOff (s1Chan l) s))

/-- The lane's own blocks when its mode leaves CLOSED: the detectors go to IDLE (R33), grading resumes (R37), and an occupancy of
P_L in progress is not announced (R73). -/
def reviveLane (l : Lane) (s : State) : State :=
  changeLoop (pLoop l) (fun x => { x with announced := false })
    (zeroLaneOpened l (detectorOn (s2Chan l) (detectorOn (s1Chan l) s)))

/-- A lane's closed mark is set: its mode becomes CLOSED and the blind condition is formed afresh (R163, R142). R162 does not order the blocks'
parts: the assembler, the strips, the zeroing, and last the deck, is the model's order (log entry 11). -/
def closeLane (l : Lane) (s : State) : State :=
  reviewBlind false (shutLane l (abandonLanes [l] (formModes { s with cmn.closedMark := put s.cmn.closedMark l true })))

/-- A lane's closed mark is cleared: its mode leaves CLOSED and the blind condition is formed afresh (R163, R50, R142), after the strips and the
grading of the lane by the model's order (log entry 11). -/
def openLane (l : Lane) (s : State) : State :=
  reviewBlind false (reviveLane l (formModes { s with cmn.closedMark := put s.cmn.closedMark l false }))

end Sys2Proof.Machine
end

