-- ==== Sys2Proof/Machine/Wire.lean ====
section
/-! DEFINITION. The bytes of the cabinet link (chapter 12): byte order, the CRC of Table 12-1, frames, the fields of request
payloads, and the layouts of STATUS, IDENT, VEHICLE, CONDITION and of refusals. -/

namespace Sys2Proof.Machine

/-! ### Fields of a payload (12, section 12.2) -/

/-- The byte at an offset of a payload. -/
def byteAt (p : List Byte) (i : Nat) : Nat := (p.getD i 0).toNat

/-- The two-byte and four-byte fields at an offset, high byte first (0, section 0.7.5). -/
def u16At (p : List Byte) (i : Nat) : Nat := byteAt p i * 256 + byteAt p (i + 1)
def u32At (p : List Byte) (i : Nat) : Nat := u16At p i * 65536 + u16At p (i + 2)

/-- The signed setting value at an offset. -/
def s32At (p : List Byte) (i : Nat) : Int := (BitVec.ofNat 32 (u32At p i)).toInt

/-- The lane a byte names, none outside 0 to 2. -/
def laneAt (p : List Byte) (i : Nat) : Option Lane := if h : byteAt p i < 3 then some ⟨byteAt p i, h⟩ else none

/-- Values as bytes, high byte first. -/
def b8 (n : Nat) : List Byte := [BitVec.ofNat 8 n]
def b16 (n : Nat) : List Byte := b8 (n / 256) ++ b8 n
def b32 (n : Nat) : List Byte := b16 (n / 65536) ++ b16 n

/-! ### The CRC (12, section 12.1) -/

/-- One bit of the CRC register: the polynomial x^16 + x^12 + x^5 + 1 is taken where a 1 leaves at the top. -/
def crcBit (r : BitVec 16) : BitVec 16 := if r.msb then (r <<< 1) ^^^ 0x1021#16 else r <<< 1

/-- Eight bits. -/
def crcBits : Nat → BitVec 16 → BitVec 16
  | 0, r => r
  | n + 1, r => crcBits n (crcBit r)

/-- One byte, most-significant bit first. -/
def crcByte (r : BitVec 16) (b : Byte) : BitVec 16 := crcBits 8 (r ^^^ (b.zeroExtend 16 <<< 8))

/-- CRC-16 over a list of bytes, from 0xFFFF, without final inversion. -/
def crc16 (bs : List Byte) : BitVec 16 := bs.foldl crcByte 0xFFFF#16

/-! ### Frames (Table 12-1) -/

/-- The sync byte. -/
def syncByte : Byte := 0x7E

/-- The bytes of a frame. -/
def frameBytes (type tag : Byte) (payload : List Byte) : List Byte :=
  let body := b8 (payload.length + 2) ++ [type, tag] ++ payload
  syncByte :: body ++ b16 (crc16 body).toNat

/-- LEN lies in 2 to 252 (R173). -/
def goodLen (len : Byte) : Bool := 2 ≤ len.toNat && len.toNat ≤ 252

/-- The CRC check of a complete candidate: LEN, and the LEN + 2 bytes that follow it (R173). -/
def crcHolds (len : Byte) (more : List Byte) : Bool :=
  crc16 (len :: more.take len.toNat) == BitVec.ofNat 16 (u16At more len.toNat)

/-- The request a complete candidate carries. -/
def requestOf (len : Byte) (more : List Byte) : Request :=
  ⟨more.getD 0 0, more.getD 1 0, (more.take len.toNat).drop 2⟩

/-- The frames of a run of bytes and the bytes kept as an incomplete candidate (R173): bytes are dropped up to a sync byte; a LEN
out of range or a failed check drops the sync byte and examines the rest again; `wait` says whether an incomplete candidate is
kept, or abandoned too. The first argument bounds the search and is at least the number of bytes. -/
def hunt (wait : Bool) : Nat → List Byte → List Request × List Byte
  | 0, _ => ([], [])
  | _ + 1, [] => ([], [])
  | n + 1, b :: rest =>
    if b != syncByte then hunt wait n rest
    else match rest with
      | [] => ([], if wait then [b] else [])
      | len :: more =>
        if !goodLen len then hunt wait n rest
        else if more.length < len.toNat + 2 then
          if wait then ([], b :: rest) else hunt wait n rest
        else if crcHolds len more then
          let (rs, kept) := hunt wait n (more.drop (len.toNat + 2))
          (requestOf len more :: rs, kept)
        else hunt wait n rest

/-- The frames of a run of bytes, an incomplete candidate being kept, or abandoned. -/
def takeFrames (wait : Bool) (bs : List Byte) : List Request × List Byte := hunt wait (bs.length + 1) bs

/-! ### Codes -/

/-- Table 12-2. -/
def StatusCode.number : StatusCode → Nat
  | .ok => 0 | .unknownType => 1 | .badLength => 2 | .badValue => 3 | .access => 4 | .busy => 5 | .state => 6 | .notFound => 7

/-- A flag as bit n. -/
def bit (b : Bool) (n : Nat) : Nat := if b then 2 ^ n else 0

/-- Codes of Tables 12-5, 12-8 and 12-9. -/
def deviceModeNo : DeviceMode → Nat
  | .normal => 0 | .setup => 1 | .safe => 2
def deckNo : DeckSt → Nat
  | .resync => 0 | .openDeck => 1 | .isolated => 2 | .resting => 3 | .overloaded => 4 | .blind => 5 | .closed => 6
def signalNo : Signal → Nat
  | .go => 0 | .heavyWait => 1 | .allStop => 2
def laneModeNo : LaneMode → Nat
  | .normal => 0 | .degraded => 1 | .blanket => 2 | .closed => 3
def qualityNo : Quality → Nat
  | .a => 0 | .b => 1 | .u => 2
def decisionNo : Decision → Nat
  | .passLight => 0 | .passHeavy => 1 | .divert => 2
def admissionNo : Admission → Nat
  | .none => 0 | .queued => 1 | .granted => 2 | .expired => 3 | .unadmitted => 4 | .used => 5
def condStateNo : CondState → Nat
  | .clear => 0 | .alert => 1 | .fault => 2 | .recovering => 3
def sourceNo : SpeedSource → Nat
  | .paired => 0 | .substitute => 1
def reasonsNo (r : Reasons) : Nat :=
  bit r.gross 0 + bit r.axle 1 + bit r.tandem 2 + bit r.tridem 3 + bit r.unweighed 4 + bit r.truncated 5 + bit r.queueFull 6
def flagsNo (f : RecFlags) : Nat :=
  bit f.lowSpeed 0 + bit f.disagree 1 + bit f.orphan 2 + bit f.accel 3 + bit f.tempStale 4 + bit f.zeroOverdue 5 +
    bit f.straddleMerged 6 + bit f.straddleSuspect 7 + bit f.saturated 8 + bit f.late 9 + bit f.unadmitted 10

/-! ### Answers with a stated layout -/

/-- The STATUS answer payload (Table 12-5). -/
def statusPayload (b : StatusBody) : List Byte :=
  b8 0 ++ b8 (deviceModeNo b.mode) ++
    b8 (bit b.safeFlag 0 + bit b.maintain 1 + bit b.lastWarm 2 + bit b.coldInd 3 + bit b.noticeLoss 4 +
        bit b.overrun 5 + bit b.storeBusy 6) ++
    b8 (deckNo b.deck) ++ b8 (signalNo b.signal) ++ b8 b.queueLen ++ b8 b.grantTimes ++
    b.laneMode.toList.flatMap (fun m => b8 (laneModeNo m)) ++
    b32 b.gen ++ b32 b.time.toNat ++ b32 b.seconds.toNat ++ b32 b.onDeck ++ b32 b.committed ++
    b.lanes.toList.flatMap (fun c =>
      b32 c.weighed.toNat ++ b32 c.diverted.toNat ++ b32 c.noncompliant.toNat ++ b32 c.unweighed.toNat) ++
    b32 b.grants.toNat ++ b32 b.unadmitted.toNat ++ b32 b.ghosts.toNat

/-- The bytes of the samples of a TRACE_READ answer, three for each, high byte first (R171; 0, section 0.7.5). -/
def sampleBytes (xs : List TraceSample) : List Byte := xs.flatMap fun x => b8 (x.toNat / 65536) ++ b16 x.toNat

/-- A text of 16 bytes padded with spaces (R176). -/
def textBytes (t : String) : List Byte :=
  let bs := t.toList.map fun c => BitVec.ofNat 8 c.toNat
  bs ++ List.replicate (16 - bs.length) (BitVec.ofNat 8 32)

/-- The IDENT answer payload (R176). -/
def identPayload (gen : Nat) (checksum : BitVec 16) : List Byte :=
  b8 0 ++ textBytes "Akebran" ++ textBytes "Cedrow 3150" ++ b8 1 ++ b8 0 ++ b32 gen ++ b16 checksum.toNat

/-- An answer's payload where the spec states its layout (of a TRACE_READ answer it states that of the samples alone, `sampleBytes`): refusals, OK with no contents, BAD_VALUE of a commit, STATUS, IDENT, and a
setting value (log entry 7). -/
def answerPayload (a : Answer) : Option (List Byte) :=
  match a.body with
  | .empty => some (b8 a.code.number)
  | .badSetting param entry => some (b8 a.code.number ++ b16 param ++ b8 entry)
  | .status b => some (statusPayload b)
  | .ident gen checksum => some (identPayload gen checksum)
  | .param v => some (b8 0 ++ b32 (BitVec.ofInt 32 v).toNat)
  | .conditions _ _ | .masks _ | .record _ _ | .records _ | .history _ | .deck _ _ | .queue _ _ | .grants _ _ _ _
  | .snapshot _ _ _ _ | .scanEntry _ | .classEntry _ | .limitRow _ | .trace _ _ => none

/-! ### Reports with a stated layout -/

/-- The spacing field of an axle: 65,535 for axle 1, and at most 65,534 otherwise (Table 12-8). -/
def spacingField (s : Option Nat) : Nat :=
  match s with
  | none => 65535
  | some d => min d 65534

/-- The VEHICLE report payload (Table 12-8). -/
def vehiclePayload (r : VehicleReport) : List Byte :=
  b32 r.id ++ b8 r.lane.val ++ b32 r.gen ++ b32 r.weighTime.toNat ++ b32 r.decTime.toNat ++ b16 r.speed ++
    b8 (qualityNo r.quality) ++ b8 r.cls ++ b8 (decisionNo r.decision) ++ b8 (reasonsNo r.reasons) ++
    b16 (flagsNo r.flags) ++ b8 (admissionNo r.admission) ++ b32 r.gross ++ b32 r.upper ++
    b32 r.windows.slipFrom.toNat ++ b32 r.windows.slipTo.toNat ++ b32 r.windows.threshFrom.toNat ++
    b32 r.windows.threshTo.toNat ++ b8 r.axles.length ++
    r.axles.flatMap fun a => b16 a.load ++ b8 (sourceNo a.source) ++ b16 (spacingField a.spacing) ++ b8 a.group

/-- A time field of a condition, 0 when the count is 0 (Table 12-9). -/
def condTime (count : Nat) (t : Option Time) : Nat := if count = 0 then 0 else (t.getD 0).toNat

/-- The CONDITION report payload (Table 12-9). -/
def conditionPayload (r : ConditionReport) : List Byte :=
  b8 r.ix.val ++ b8 (kindOf r.ix).1.number.val ++ b8 (kindOf r.ix).2 ++ b8 (condStateNo r.new) ++
    b8 (condStateNo r.prev) ++ b16 r.count ++ b32 (condTime r.count r.first) ++ b32 (condTime r.count r.last) ++
    b32 r.now.toNat

/-- The code of a report (Table 12-4). -/
def reportCode : Report → Byte
  | .vehicle _ => 0x60
  | .disposition _ => 0x61
  | .condition _ => 0x62
  | .deck _ => 0x63
  | .conversion _ => 0x64
  | .traceHeld _ _ _ => 0x65
  | .start _ _ _ _ => 0x66

/-- A report's payload where the spec states its layout (log entry 7). -/
def reportPayload : Report → Option (List Byte)
  | .vehicle r => some (vehiclePayload r)
  | .condition r => some (conditionPayload r)
  | .disposition _ | .deck _ | .conversion _ | .traceHeld _ _ _ | .start _ _ _ _ => none

/-- The bytes of a frame in transmission, where its payload has a stated layout; a report carries TAG 0 (Table 12-1). -/
def txBytes : TxFrame → Option (List Byte)
  | .answer a => (answerPayload a).map (frameBytes a.type a.tag)
  | .report r => (reportPayload r).map (frameBytes (reportCode r) 0)

end Sys2Proof.Machine
end

