-- ==== Sys2Proof/Machine/Link.lean ====
section
/-! DEFINITION. The Link Interface (chapter 12, sections 12.1 to 12.3): receiver, request queue, transmitter, and the order in which
a request is judged. -/

namespace Sys2Proof.Machine

/-! ### The receiver (R173) -/

/-- A valid frame: its time is kept, LINK_SILENT is cleared where it was given, and it is queued, or discarded with REQUEST_OVERRUN
when the queue holds 4 (R173, R174). -/
def acceptFrame (s : State) (r : Request) : State :=
  let s1 := if s.lki.silentGiven then giveClear linkSilentIx { s with lki.silentGiven := false } else s
  let s2 := { s1 with lki.lastValid := s1.now }
  if Config.requestCap ≤ s2.lki.requests.length then { s2 with lki.requestOverrun := true }
  else { s2 with lki.requests := s2.lki.requests ++ [r] }

/-- A run of bytes is examined: its valid frames are accepted in order, and an incomplete candidate is kept or abandoned. -/
def examine (wait : Bool) (bytes : List Byte) (s : State) : State :=
  let (frames, kept) := takeFrames wait bytes
  frames.foldl acceptFrame { s with lki.rx := kept }

/-- More than 2,000 ticks have passed since the latest byte of an incomplete candidate (R173). -/
def gapDue (s : State) : Bool := !s.lki.rx.isEmpty && Config.frameGap < ticksFrom s.lki.rxLast s.now

/-- The candidate is abandoned and the bytes already taken are examined again; every further incomplete candidate among them is
abandoned by the same gap (R173; log entry 18). -/
def abandonFrame (s : State) : State := examine false s.lki.rx s

/-- Bytes that arrive now, in order (R173; log entry 29). -/
def receive (bytes : List Byte) (s : State) : State :=
  let s1 := if gapDue s then abandonFrame s else s
  examine true (s1.lki.rx ++ bytes) { s1 with lki.rxLast := s1.now }

/-- FRAME_RECEIVED: the bytes that complete a candidate frame (R173). -/
def execFrameReceived (bytes : List Byte) (s : State) : Host.Outcome State Fault Refusal := done (receive bytes s)

/-- LEN_OUT_OF_RANGE: bytes among which a LEN outside 2 to 252 abandons a frame (R173). -/
def execLenOutOfRange (bytes : List Byte) (s : State) : Host.Outcome State Fault Refusal := done (receive bytes s)

/-- FRAME_GAP_TIMEOUT (R173). -/
def execFrameGapTimeout (s : State) : Host.Outcome State Fault Refusal := when' (gapDue s) s (abandonFrame s)

/-- LINK_SILENT has passed since the latest valid frame, not yet latched (R173). -/
def linkSilentDue (s : State) : Bool :=
  !s.lki.silentGiven && passed s.now s.lki.lastValid (secs s.sst.live.link.linkSilent)

/-- LINK_SILENT_EXPIRY (R173). -/
def execLinkSilentExpiry (s : State) : Host.Outcome State Fault Refusal :=
  when' (linkSilentDue s) s (giveCause linkSilentIx s.now { s with lki.silentGiven := true })

/-! ### The transmitter (R175) -/

/-- The type of an answer to RESTART. -/
def restartAnswer : Byte := 0xD0

/-- A frame in transmission is the OK answer to a RESTART (R182). -/
def isRestartOk (f : TxFrame) : Bool :=
  match f with
  | .answer a => a.type == restartAnswer && a.code == .ok
  | .report _ => false

/-- A frame is being sent. -/
def sending (s : State) : Bool := s.lki.tx.isSome

/-- The transmitter finishes its frame and chooses the next; after a RESTART's OK answer a warm start is due (R175, R182). -/
def finishFrame (s : State) : State :=
  kick { s with lki.tx := none, lki.warmDue := s.lki.warmDue || s.lki.tx.any isRestartOk }

/-- FRAME_SENT (R175). -/
def execFrameSent (s : State) : Host.Outcome State Fault Refusal := when' (sending s) s (finishFrame s)

/-! ### Taking a request (R174) -/

/-- The request codes of Table 12-3. -/
def requestCodes : List Nat :=
  [0x01, 0x02, 0x03, 0x04, 0x05, 0x10, 0x11, 0x12, 0x13, 0x14, 0x15, 0x20, 0x21, 0x22, 0x23, 0x24, 0x25, 0x30, 0x31, 0x32,
   0x33, 0x34, 0x35, 0x36, 0x40, 0x41, 0x42, 0x43, 0x50, 0x51]

/-- The head of the request queue, unless 4 formed answers wait behind a held answer (R174, R175). -/
def nextRequest (s : State) : Option Request :=
  if s.lki.heldCommit.isSome && Config.behindCap ≤ s.lki.behind.length then none else s.lki.requests.head?

/-- The next request is of the code given. -/
def requestDue (code : Nat) (s : State) : Bool := (nextRequest s).any (·.type.toNat == code)

/-- The next request's TYPE names no request code (R174, step 1). -/
def unknownDue (s : State) : Bool := (nextRequest s).any fun r => !requestCodes.contains r.type.toNat

/-- The head is removed from the request queue. -/
def dropRequest (s : State) : State := { s with lki.requests := s.lki.requests.tail }

/-- A request is judged (R174): its length, its level, then the owning block's rule. -/
def judgeRequest (fits : List Byte → Bool) (maintainOnly : Bool) (rule : Request → State → State) (r : Request) (s : State) : State :=
  if !fits r.payload then refuse r .badLength s
  else if maintainOnly && !maintain s then refuse r .access s
  else rule r s

/-- The next request is taken and judged (R174). -/
def takeRequest (fits : List Byte → Bool) (maintainOnly : Bool) (rule : Request → State → State) (s : State) : State :=
  match nextRequest s with
  | none => s
  | some r => judgeRequest fits maintainOnly rule r (dropRequest s)

/-- A request command: it acts when the next request is of its code (log entry 4). -/
def serve (code : Nat) (fits : List Byte → Bool) (maintainOnly : Bool) (rule : Request → State → State) (s : State) :
    Host.Outcome State Fault Refusal :=
  when' (requestDue code s) s (takeRequest fits maintainOnly rule s)

/-- The payload has one of the lengths given (Table 12-10). -/
def lengthIn (ns : List Nat) (p : List Byte) : Bool := ns.contains p.length

/-- UNKNOWN_TYPE (R174, step 1). -/
def execUnknownType (s : State) : Host.Outcome State Fault Refusal :=
  when' (unknownDue s) s (match nextRequest s with
    | none => s
    | some r => refuse r .unknownType (dropRequest s))

/-! ### STATUS and IDENT (R176) -/

/-- The contents of a STATUS answer as they stand (Table 12-5). -/
def statusBody (s : State) : StatusBody where
  mode := s.cmn.mode
  safeFlag := s.cmn.safeFlag
  maintain := maintain s
  lastWarm := s.lki.lastWarm
  coldInd := s.lki.coldInd
  noticeLoss := s.lki.noticeLoss
  overrun := s.lki.requestOverrun
  storeBusy := s.sst.storeBusy
  deck := s.dkc.st
  signal := s.dkc.signal
  queueLen := s.dkc.queue.length
  grantTimes := s.dkc.grantTimes.length
  laneMode := s.cmn.laneMode
  gen := s.sst.liveGen
  time := s.now
  seconds := s.tbu.seconds
  onDeck := s.dkc.onDeck
  committed := s.dkc.committed
  lanes := s.cmn.lanes
  grants := s.cmn.grants
  unadmitted := s.cmn.unadmitted
  ghosts := s.cmn.ghosts

/-- The STATUS answer, after which NOTICE_LOSS and REQUEST_OVERRUN are clear (R176). -/
def answerStatus (r : Request) (s : State) : State :=
  let s1 := reply r .ok (.status (statusBody s)) s
  { s1 with lki.noticeLoss := false, lki.requestOverrun := false }

/-- STATUS (R176). -/
def execStatus (s : State) : Host.Outcome State Fault Refusal := serve 0x01 (lengthIn [0]) false answerStatus s

/-- The IDENT answer (R176). -/
def answerIdent (r : Request) (s : State) : State := reply r .ok (.ident s.sst.liveGen s.sst.checksum) s

/-- IDENT (R176). -/
def execIdent (s : State) : Host.Outcome State Fault Refusal := serve 0x51 (lengthIn [0]) false answerIdent s

end Sys2Proof.Machine
end

