-- ==== Sys2Proof/Machine/Requests.lean ====
section
/-! DEFINITION. The requests of Table 12-3 but those of the Settings Store: conditions, records, deck, snapshot, lanes, signs,
conversions, zeroing, trace and restart. -/

namespace Sys2Proof.Machine

/-! ### Conditions (R159 to R161) -/

/-- ACTIVE admits an entry that is not CLEAR or whose changed flag is set; ALL admits every entry (R161). -/
def admits (active : Bool) (e : CondEntry) : Bool := !active || e.st != .clear || e.changed

/-- An entry as CONDITIONS gives it: index, state, persistence count, first and last times, changed flag (R161). -/
def condView (i : CondIx) (e : CondEntry) : CondView := ⟨i, e.st, e.count, e.first, e.last, e.changed⟩

/-- At most n admitted entries of the indexes given, in order, and the index after the last entry examined (R161). -/
def scanConds (s : State) (active : Bool) : Nat → List CondIx → List CondView × Nat
  | _, [] => ([], 65)
  | 0, i :: _ => ([], i.val)
  | n + 1, i :: is =>
    if admits active s.cmn.conds[i] then
      let (es, next) := scanConds s active n is
      (condView i s.cmn.conds[i] :: es, next)
    else scanConds s active (n + 1) is

/-- The CONDITIONS answer (R161). -/
def answerConditions (r : Request) (s : State) : State :=
  let first := byteAt r.payload 0
  let selection := byteAt r.payload 1
  if 64 < first || 1 < selection then refuse r .badValue s
  else
    let (es, next) := scanConds s (selection == 1) 12 (allConds.drop first)
    reply r .ok (.conditions es next) s

/-- CONDITIONS (R161). -/
def execConditions (s : State) : Host.Outcome State Fault Refusal := serve 0x02 (lengthIn [2]) false answerConditions s

/-- Every changed flag is cleared, and the cold-start indication with the start flag set (R161, R176). -/
def ackConditions (startFlag : Bool) (s : State) : State :=
  { s with
    cmn.conds := mapVec (fun e => { e with changed := false }) s.cmn.conds
    lki.coldInd := s.lki.coldInd && !startFlag }

/-- The ACK_CONDITIONS answer. -/
def answerAck (r : Request) (s : State) : State :=
  if 1 < byteAt r.payload 0 then refuse r .badValue s
  else accept r (ackConditions (byteAt r.payload 0 == 1) s)

/-- ACK_CONDITIONS (R161). -/
def execAckConditions (s : State) : Host.Outcome State Fault Refusal := serve 0x03 (lengthIn [1]) false answerAck s

/-- A RECOVER (R159). -/
def answerRecover (r : Request) (s : State) : State :=
  if h : byteAt r.payload 0 < 65 then
    let ix : CondIx := ⟨byteAt r.payload 0, h⟩
    if !(kindOf ix).1.latching || s.cmn.conds[ix].st != .fault then refuse r .state s
    else accept r (setCond ix .recovering s)
  else refuse r .badValue s

/-- RECOVER (R159). -/
def execRecover (s : State) : Host.Outcome State Fault Refusal := serve 0x04 (lengthIn [1]) true answerRecover s

/-- The mask value of a code (Table 12-10). -/
def maskOfCode (n : Nat) : Option MaskValue :=
  [MaskValue.never, .alert, .fault, .both][n]?

/-- A REPORT_MASK in its read form, or its set form (R160). -/
def answerMask (r : Request) (s : State) : State :=
  if r.payload.isEmpty then reply r .ok (.masks s.cmn.mask) s
  else if h : byteAt r.payload 0 < 17 then
    match maskOfCode (byteAt r.payload 1) with
    | some m => accept r { s with cmn.mask := put s.cmn.mask ⟨byteAt r.payload 0, h⟩ m }
    | none => refuse r .badValue s
  else refuse r .badValue s

/-- REPORT_MASK (R160). -/
def execReportMask (s : State) : Host.Outcome State Fault Refusal := serve 0x05 (lengthIn [0, 2]) false answerMask s

/-! ### Records and history (R128, R129) -/

/-- A record inserted at its place in descending id. -/
def insertDescending (x : VRecord) : List VRecord → List VRecord
  | [] => [x]
  | y :: ys => if y.id < x.id then x :: y :: ys else y :: insertDescending x ys

/-- A list in descending id. -/
def descending (rs : List VRecord) : List VRecord := rs.foldr insertDescending []

/-- Up to n pool records whose id is not above the greatest id, in descending id (R128). -/
def listRecords (s : State) (n greatest : Nat) : List (Nat × Lane × RecState) :=
  ((descending (s.rtb.pool.filter fun r => r.id ≤ greatest)).take n).map fun r => (r.id, r.lane, r.st)

/-- A RECORD in its id form or its list form (R128). -/
def answerRecord (r : Request) (s : State) : State :=
  if r.payload.length = 4 then
    match findRec s (u32At r.payload 0) with
    | some v => reply r .ok (.record { v with reading := none, outlived := false } ((s.dkc.grants.find? (·.id == v.id)).map (·.load))) s
    | none => refuse r .notFound s
  else
    let n := byteAt r.payload 0
    if n < 1 || 40 < n then refuse r .badValue s
    else reply r .ok (.records (listRecords s n (u32At r.payload 1))) s

/-- RECORD (R128). -/
def execRecord (s : State) : Host.Outcome State Fault Refusal := serve 0x10 (lengthIn [4, 5]) false answerRecord s

/-- A HISTORY in its id form or its newest form (R129). -/
def answerHistory (r : Request) (s : State) : State :=
  if r.payload.length = 4 then
    match s.rtb.history.find? (·.id == u32At r.payload 0) with
    | some x => reply r .ok (.history [x]) s
    | none => refuse r .notFound s
  else
    let n := byteAt r.payload 0
    if n < 1 || 5 < n then refuse r .badValue s
    else reply r .ok (.history (s.rtb.history.reverse.take n)) s

/-- HISTORY (R129). -/
def execHistory (s : State) : Host.Outcome State Fault Refusal := serve 0x11 (lengthIn [1, 4]) false answerHistory s

/-! ### Deck views (R150) -/

/-- The whole seconds until an end time, rounded up; 0 for none and for one that is reached (R150, R110). -/
def secondsLeft (now : Time) (e : Option Time) : Nat :=
  match e with
  | some t => if reached now t then 0 else ceilDiv (ticksFrom now t) Config.ticksPerS
  | none => 0

/-- What DECK_VIEW carries beside the entries of lane l (R150). -/
def deckViewHead (l : Lane) (s : State) : DeckViewHead where
  st := s.dkc.st
  signal := s.dkc.signal
  onDeck := s.dkc.onDeck
  committed := s.dkc.committed
  budget := s.sst.live.deck.budget
  listFull := s.dkc.listFull
  resyncOwed := s.dkc.resyncOwed
  timerLeft := secondsLeft s.now s.dkc.timer
  entries := s.dkc.lists[l].length

/-- What DECK_VIEW shows of an entry (R150): the latches are no part of it. -/
def deckEntryView (e : DeckEntry) : DeckEntryView :=
  ⟨e.kind, e.recId, e.entryTime, e.load, e.admitted, e.ghost, e.noncompliant⟩

/-- A DECK_VIEW (R150). -/
def answerDeckView (r : Request) (s : State) : State :=
  match laneAt r.payload 0 with
  | some l => reply r .ok (.deck (deckViewHead l s) ((segment (byteAt r.payload 1) 12 s.dkc.lists[l]).map deckEntryView)) s
  | none => refuse r .badValue s

/-- DECK_VIEW (R150). -/
def execDeckView (s : State) : Host.Outcome State Fault Refusal := serve 0x12 (lengthIn [2]) false answerDeckView s

/-- What QUEUE_VIEW gives of a queued record (R150). -/
def queueItem (s : State) (id : Nat) : Option (Nat × Lane × Option Time × Option Nat) :=
  (findRec s id).map fun r => (id, r.lane, r.decTime, r.upper)

/-- A QUEUE_VIEW (R150). -/
def answerQueueView (r : Request) (s : State) : State :=
  let first := byteAt r.payload 1
  match byteAt r.payload 0 with
  | 0 => reply r .ok (.queue s.dkc.queue.length ((segment first 16 s.dkc.queue).filterMap (queueItem s))) s
  | 1 => reply r .ok (.grants s.dkc.grants.length (segment first 10 s.dkc.grants) s.dkc.grantTimes
          (s.dkc.lastGrant.map (·.time))) s
  | _ => refuse r .badValue s

/-- QUEUE_VIEW (R150). -/
def execQueueView (s : State) : Host.Outcome State Fault Refusal := serve 0x13 (lengthIn [2]) false answerQueueView s

/-! ### The snapshot (R109, R110) -/

/-- A SNAPSHOT (R110). -/
def answerSnapshot (r : Request) (s : State) : State :=
  reply r .ok (.snapshot s.dcu.frozen s.dcu.snap s.dcu.aspect (mapVec (secondsLeft s.now) s.dcu.force)) s

/-- SNAPSHOT (R110). -/
def execSnapshot (s : State) : Host.Outcome State Fault Refusal := serve 0x14 (lengthIn [0]) false answerSnapshot s

/-- A SNAPSHOT_RELEASE (R109). -/
def answerSnapshotRelease (r : Request) (s : State) : State := accept r { s with dcu.frozen := none }

/-- SNAPSHOT_RELEASE (R109). -/
def execSnapshotRelease (s : State) : Host.Outcome State Fault Refusal :=
  serve 0x15 (lengthIn [0]) false answerSnapshotRelease s

/-! ### Lanes (R163, R18) -/

/-- A LANE_OPEN, after its ACCESS refusal (R163). -/
def answerLaneOpen (r : Request) (s : State) : State :=
  match laneAt r.payload 0 with
  | none => refuse r .badValue s
  | some l =>
    if !lanePresent s.sst.live l then refuse r .badValue s
    else if s.sst.storeBusy then refuse r .busy s
    else if !s.cmn.closedMark[l] then refuse r .state s
    else if !coversLane s.sst.live.conv.scanList l then refuse r .state s
    else accept r (openLane l s)

/-- LANE_OPEN (R163). -/
def execLaneOpen (s : State) : Host.Outcome State Fault Refusal := serve 0x20 (lengthIn [1]) true answerLaneOpen s

/-- A LANE_CLOSE (R163). -/
def answerLaneClose (r : Request) (s : State) : State :=
  match laneAt r.payload 0 with
  | none => refuse r .badValue s
  | some l => accept r (if !lanePresent s.sst.live l || s.cmn.closedMark[l] then s else closeLane l s)

/-- LANE_CLOSE (R163). -/
def execLaneClose (s : State) : Host.Outcome State Fault Refusal := serve 0x21 (lengthIn [1]) false answerLaneClose s

/-! ### The deck (R141, R147) -/

/-- The deck enters CLOSED and drops its timer; in CLOSED nothing changes (R147). -/
def closeDeck (s : State) : State :=
  if s.dkc.st == .closed then s else changeDeck .closed .deckClose { s with dkc.timer := none }

/-- A DECK_CLOSE (R147). -/
def answerDeckClose (r : Request) (s : State) : State := accept r (closeDeck s)

/-- DECK_CLOSE (R147). -/
def execDeckClose (s : State) : Host.Outcome State Fault Refusal := serve 0x22 (lengthIn [0]) false answerDeckClose s

/-- A DECK_RELEASE, after its ACCESS refusal (R147). -/
def answerDeckRelease (r : Request) (s : State) : State :=
  if s.cmn.safeFlag then refuse r .state s else accept r (enterResync .deckRelease s)

/-- DECK_RELEASE (R147). -/
def execDeckRelease (s : State) : Host.Outcome State Fault Refusal := serve 0x23 (lengthIn [0]) true answerDeckRelease s

/-- A DECK_CLEAR_HEAD, after its ACCESS refusal (R141). -/
def answerClearHead (r : Request) (s : State) : State :=
  match laneAt r.payload 0 with
  | none => refuse r .badValue s
  | some l =>
    if !lanePresent s.sst.live l then refuse r .badValue s
    else if s.dkc.lists[l].isEmpty then refuse r .state s
    else accept r (removeHead l (fun _ => .operatorCleared) s)

/-- DECK_CLEAR_HEAD (R141). -/
def execDeckClearHead (s : State) : Host.Outcome State Fault Refusal := serve 0x24 (lengthIn [1]) true answerClearHead s

/-! ### Signs (R106) -/

/-- A force of d seconds on a lane's sign; 0 removes the force held (R106). -/
def forceLane (d : Nat) (s : State) (l : Lane) : State :=
  { s with dcu.force := put s.dcu.force l (if d = 0 then none else some (after s.now (secs d))) }

/-- A SIGN_FORCE (R106). -/
def answerSignForce (r : Request) (s : State) : State :=
  let d := min (u16At r.payload 1) Config.forceMax
  if byteAt r.payload 0 = 255 then
    accept r ((allLanes.filter (lanePresent s.sst.live)).foldl (forceLane d) s)
  else match laneAt r.payload 0 with
    | some l => if lanePresent s.sst.live l then accept r (forceLane d s l) else refuse r .badValue s
    | none => refuse r .badValue s

/-- SIGN_FORCE (R106). -/
def execSignForce (s : State) : Host.Outcome State Fault Refusal := serve 0x25 (lengthIn [3]) false answerSignForce s

/-! ### Single conversions and zeroing (R21, R40) -/

/-- A CONVERT_ONE, after its ACCESS refusal (R21). -/
def answerConvertOne (r : Request) (s : State) : State :=
  if h : byteAt r.payload 0 < 8 ∧ byteAt r.payload 1 < 4 then
    if s.csq.single.isSome then refuse r .busy s
    else accept r { s with csq.single := some ⟨⟨byteAt r.payload 0, h.1⟩, ⟨byteAt r.payload 1, h.2⟩, false⟩ }
  else refuse r .badValue s

/-- CONVERT_ONE (R21). -/
def execConvertOne (s : State) : Host.Outcome State Fault Refusal := serve 0x40 (lengthIn [2]) true answerConvertOne s

/-- A ZERO_NOW, after its ACCESS refusal (R40). -/
def answerZeroNow (r : Request) (s : State) : State :=
  if h : byteAt r.payload 0 < 6 then
    let c : Chan := ⟨byteAt r.payload 0, h⟩
    if !lanePresent s.sst.live (chanLane c) then refuse r .badValue s
    else if s.zsc.meas.any (·.chan == c) then refuse r .busy s
    else if !scansChan s.sst.live.conv.scanList c then refuse r .state s
    else accept r (changeZero c (fun z => { z with requested := true }) s)
  else refuse r .badValue s

/-- ZERO_NOW (R40). -/
def execZeroNow (s : State) : Host.Outcome State Fault Refusal := serve 0x41 (lengthIn [1]) true answerZeroNow s

/-! ### Trace (R170, R171) -/

/-- The ring summary (R171). -/
def traceSummary (s : State) : TraceSummary where
  oldest := (s.trs.ring.head?.map (·.index)).getD 0
  newest := newestIndex s
  free := Config.traceWords - ringWords s.trs.ring
  mode := s.sst.live.link.traceMode
  held := s.trs.held

/-- The header fields of a stored record (Table 11-3). -/
def traceHeader (x : TraceRecord) : TraceHeader :=
  ⟨x.index, x.chan, x.start, x.samples.length, x.vehicle, x.aborted, x.missing⟩

/-- A sample as a signed value of three bytes (R171). -/
def traceSample (v : Int) : TraceSample := BitVec.ofInt 24 v

/-- A TRACE_READ (Table 11-4). -/
def answerTraceRead (r : Request) (s : State) : State :=
  let index := u32At r.payload 0
  let offset := u16At r.payload 4
  let count := byteAt r.payload 6
  if index = 0 then reply r .ok (.trace (traceSummary s) none) s
  else if count < 1 || 64 < count then refuse r .badValue s
  else match s.trs.ring.find? (·.index == index) with
    | none => refuse r .notFound s
    | some x =>
      if x.samples.length ≤ offset then refuse r .badValue s
      else reply r .ok (.trace (traceSummary s) (some (traceHeader x, (segment offset count x.samples).map traceSample))) s

/-- TRACE_READ (R171). -/
def execTraceRead (s : State) : Host.Outcome State Fault Refusal := serve 0x42 (lengthIn [7]) false answerTraceRead s

/-- A TRACE_RELEASE (R170). -/
def answerTraceRelease (r : Request) (s : State) : State := accept r { s with trs.held := none }

/-- TRACE_RELEASE (R170). -/
def execTraceRelease (s : State) : Host.Outcome State Fault Refusal := serve 0x43 (lengthIn [0]) false answerTraceRelease s

/-! ### RESTART (R182) -/

/-- RESTART: answered OK; the warm start is due when the answer has been transmitted. During a store write the answer waits behind the held
answer of the commit, and the start with it (R182, R175). -/
def execRestart (s : State) : Host.Outcome State Fault Refusal := serve 0x50 (lengthIn [0]) true accept s

end Sys2Proof.Machine
end

