-- ==== Sys2Proof/Machine/Setup.lean ====
section
/-! DEFINITION. The Settings Store (chapter 12, section 12.4): setup requests, the commit checks of Table 12-7, and the end of the
store write with what each block does at a commit. -/

namespace Sys2Proof.Machine

/-! ### SETUP_BEGIN and SETUP_ABANDON (R177) -/

/-- The working copy that SETUP_BEGIN makes (R177). -/
def newWorking (s : State) : Settings := if s.cmn.safeFlag then blankSettings else s.sst.live

/-- A SETUP_BEGIN, after its ACCESS refusal (Table 12-6). -/
def answerSetupBegin (r : Request) (s : State) : State :=
  if s.sst.storeBusy then refuse r .busy s
  else if s.cmn.mode == .setup then refuse r .state s
  else accept r { s with sst.working := some (newWorking s), cmn.mode := .setup }

/-- SETUP_BEGIN (R177). -/
def execSetupBegin (s : State) : Host.Outcome State Fault Refusal := serve 0x30 (lengthIn [0]) true answerSetupBegin s

/-- A request of Table 12-6 that needs SETUP with no store write in progress. -/
def inSetup (r : Request) (rule : State → State) (s : State) : State :=
  if s.sst.storeBusy then refuse r .busy s
  else if s.cmn.mode != .setup then refuse r .state s
  else rule s

/-- A SETUP_ABANDON, after its ACCESS refusal (Table 12-6). -/
def answerSetupAbandon (r : Request) (s : State) : State := inSetup r (fun s => accept r (dropWorking s)) s

/-- SETUP_ABANDON (R177). -/
def execSetupAbandon (s : State) : Host.Outcome State Fault Refusal := serve 0x32 (lengthIn [0]) true answerSetupAbandon s

/-! ### PARAM_WRITE and PARAM_READ (R177) -/

/-- The settings with the parameter of a number replaced; none for an unknown number or a value out of range. -/
def writeParam (n : Nat) (v : Int) (st : Settings) : Option Settings :=
  match Param.ofNumber n with
  | some p => if p.accepts v then some (p.set st v) else none
  | none => none

/-- The change of the working copy that a write gives, or its refusal (Table 12-6). -/
def changeWorking (r : Request) (f : Settings → Option Settings) (s : State) : State :=
  match f (s.sst.working.getD s.sst.live) with
  | some st => accept r { s with sst.working := some st }
  | none => refuse r .badValue s

/-- A PARAM_WRITE, after its ACCESS refusal (Table 12-6). -/
def answerParamWrite (r : Request) (s : State) : State :=
  inSetup r (changeWorking r (writeParam (u16At r.payload 0) (s32At r.payload 2))) s

/-- PARAM_WRITE (R177). -/
def execParamWrite (s : State) : Host.Outcome State Fault Refusal := serve 0x33 (lengthIn [6]) true answerParamWrite s

/-- A read from the source named, 0 LIVE or 1 WORKING: an unknown thing is BAD_VALUE, WORKING outside SETUP is STATE (R177). R177 does not say
which comes first where both hold, nor what another source is: the model takes BAD_VALUE first, and for another source (log entry 63). -/
def readFrom (r : Request) (source : Nat) (known : Bool) (read : Settings → AnswerBody) (s : State) : State :=
  if !known || 1 < source then refuse r .badValue s
  else if source = 0 then reply r .ok (read s.sst.live) s
  else if s.cmn.mode != .setup then refuse r .state s
  else reply r .ok (read (s.sst.working.getD s.sst.live)) s

/-- A PARAM_READ (R177). -/
def answerParamRead (r : Request) (s : State) : State :=
  let p := Param.ofNumber (u16At r.payload 0)
  readFrom r (byteAt r.payload 2) p.isSome (fun st => .param ((p.map (Param.get st)).getD 0)) s

/-- PARAM_READ (R177). -/
def execParamRead (s : State) : Host.Outcome State Fault Refusal := serve 0x34 (lengthIn [3]) false answerParamRead s

/-! ### TABLE_WRITE and TABLE_READ (R177) -/

/-- The scan-list entry of a TABLE_WRITE; none for a field out of range (Table 2-2). -/
def scanEntryOf (p : List Byte) : Option ScanEntry :=
  if h : byteAt p 3 < 8 ∧ byteAt p 4 < 4 then
    if 1 ≤ byteAt p 5 && byteAt p 6 ≤ 1 then
      some ⟨⟨byteAt p 3, h.1⟩, ⟨byteAt p 4, h.2⟩, byteAt p 5, byteAt p 6 == 1⟩
    else none
  else none

/-- The class entry of a TABLE_WRITE; none for a field out of range (Table 7-3). -/
def classEntryOf (p : List Byte) : Option ClassEntry :=
  let codes : Nat → Vector Nat 8 := fun base => Vector.ofFn fun j => byteAt p (base + j.val)
  let pattern := codes 6
  let mask := codes 14
  if h : byteAt p 22 < 8 then
    if byteAt p 3 ≤ 1 && 1 ≤ byteAt p 4 && byteAt p 4 ≤ 12 && 1 ≤ byteAt p 5 && byteAt p 5 ≤ 12 &&
        pattern.toList.all (· ≤ 3) && mask.toList.all (· ≤ 3) && byteAt p 23 ≤ 1 then
      some ⟨byteAt p 3 == 1, byteAt p 4, byteAt p 5, pattern, mask, ⟨byteAt p 22, h⟩, byteAt p 23 == 1⟩
    else none
  else none

/-- A signed field lies in a range. -/
def within (lo hi : Int) (v : Int) : Bool := lo ≤ v && v ≤ hi

/-- The limit row of a TABLE_WRITE; none for a field out of range (Table 7-5). -/
def limitRowOf (p : List Byte) : Option LimitRow :=
  let f : Nat → Int := fun j => s32At p (3 + 4 * j)
  if within 1000 200000 (f 0) && within 1000 60000 (f 1) && within 1000 120000 (f 2) && within 1000 180000 (f 3) then
    some ⟨(f 0).toNat, (f 1).toNat, (f 2).toNat, (f 3).toNat⟩
  else none

/-- The settings with the table entry of a TABLE_WRITE replaced; none where the table, the entry or a field is refused. -/
def writeTable (p : List Byte) (st : Settings) : Option Settings :=
  let n := u16At p 0
  let e := byteAt p 2
  if n = scanListNo then
    if h : e < 16 then (scanEntryOf p).map fun x => { st with conv.scanList := st.conv.scanList.set e x } else none
  else if n = classTableNo then
    if h : e < 16 then (classEntryOf p).map fun x => { st with dec.classTable := st.dec.classTable.set e x } else none
  else if n = limitRowsNo then
    if h : e < 8 then (limitRowOf p).map fun x => { st with dec.limitRows := st.dec.limitRows.set e x } else none
  else none

/-- The length of a TABLE_WRITE by the table it names; one that names none passes at a length of 7, 19 or 24 (R174). -/
def tableWriteFits (p : List Byte) : Bool :=
  let n := u16At p 0
  if n = scanListNo then p.length = 7
  else if n = limitRowsNo then p.length = 19
  else if n = classTableNo then p.length = 24
  else lengthIn [7, 19, 24] p

/-- A TABLE_WRITE, after its ACCESS refusal (Table 12-6). -/
def answerTableWrite (r : Request) (s : State) : State := inSetup r (changeWorking r (writeTable r.payload)) s

/-- TABLE_WRITE (R177). -/
def execTableWrite (s : State) : Host.Outcome State Fault Refusal := serve 0x35 tableWriteFits true answerTableWrite s

/-- A table entry as an answer carries it; none for an unknown table or entry. -/
def readTable (n e : Nat) (st : Settings) : Option AnswerBody :=
  if n = scanListNo then st.conv.scanList.toList[e]?.map .scanEntry
  else if n = classTableNo then st.dec.classTable.toList[e]?.map .classEntry
  else if n = limitRowsNo then st.dec.limitRows.toList[e]?.map .limitRow
  else none

/-- A TABLE_READ (R177). -/
def answerTableRead (r : Request) (s : State) : State :=
  let read := readTable (u16At r.payload 0) (byteAt r.payload 2)
  readFrom r (byteAt r.payload 3) (read s.sst.live).isSome (fun st => (read st).getD .empty) s

/-- TABLE_READ (R177). -/
def execTableRead (s : State) : Host.Outcome State Fault Refusal := serve 0x36 (lengthIn [4]) false answerTableRead s

/-! ### Commit checks (Table 12-7) -/

/-- A failed check: the parameter number and the entry index, 255 where the setting is no table. -/
abbrev Failure := Option (Nat × Nat)

/-- A check that fails with the number of a parameter. -/
def checkParam (p : Param) (ok : Bool) : Failure := if ok then none else some (p.number, 255)

/-- The first failure of a list of checks in order. -/
def firstFailure (checks : List Failure) : Failure := checks.findSome? id

/-- A parameter of the working copy lies in its range. -/
def inRange (st : Settings) (p : Param) : Failure := checkParam p (p.accepts (p.get st))

/-- The geometry checks (R4). -/
def checkGeometry (st : Settings) : Failure :=
  let present := allLanes.filter (lanePresent st)
  firstFailure (
    [inRange st .laneCount] ++
    allLanes.map (fun l => checkParam (.startOpen l) (lanePresent st l || !st.site.startOpen[l])) ++
    allLanes.flatMap (fun l => [Param.stripSpacing l, .signDist l, .slipDist l, .threshDist l].map (inRange st)) ++
    present.map (fun l => checkParam (.slipDist l) (st.site.signDist[l] < st.site.slipDist[l])) ++
    present.map (fun l => checkParam (.threshDist l) (st.site.slipDist[l] < st.site.threshDist[l])))

/-- The indexes of the elements that satisfy p. -/
def indexesOf {α : Type} (p : α → Bool) (xs : List α) : List Nat :=
  xs.zipIdx.filterMap fun (x, i) => if p x then some i else none

/-- Exactly one entry is marked END (Table 2-3, step 1). -/
def checkEnd (list : Vector ScanEntry 16) : Failure :=
  match indexesOf (·.endMark) list.toList with
  | [] => some (scanListNo, 255)
  | [_] => none
  | _ :: j :: _ => some (scanListNo, j)

/-- Used entries have fields in range (Table 2-3, step 2). -/
def checkEntries (list : Vector ScanEntry 16) : Failure :=
  ((indexesOf (fun e : ScanEntry => !(1 ≤ e.every && e.every ≤ 255)) (usedEntries list)).head?).map (scanListNo, ·)

/-- The first used entry whose channel stands in an earlier one (Table 2-3, step 3). -/
def checkRepeats (list : Vector ScanEntry 16) : Failure :=
  let used := usedEntries list
  (((List.range used.length).filter fun j =>
    (used.take j).any fun e => used[j]?.any (·.channel == e.channel)).head?).map (scanListNo, ·)

/-- The lanes set open at start and those whose mode is other than CLOSED are covered (Table 2-3, step 4). -/
def checkCover (s : State) (st : Settings) : Failure :=
  if allLanes.all fun l =>
    !(st.site.startOpen[l] || laneModeOf s l != .closed) || coversLane st.conv.scanList l
  then none else some (scanListNo, 255)

/-- The scan-list checks (R17). -/
def checkScan (s : State) (st : Settings) : Failure :=
  let list := st.conv.scanList
  firstFailure [checkEnd list, checkEntries list, checkRepeats list, checkCover s st,
    checkParam .scanDiv ((usedEntries list).length + 1 ≤ st.conv.scanDiv + 1)]

/-- The checks of the weighing settings (R93). -/
def checkWeigh (st : Settings) : Failure :=
  firstFailure (
    allChans.map (fun c => checkParam (.fch c) (!lanePresent st (chanLane c) || st.weigh.fch[c].isSome)) ++
    [checkParam .marginB (st.weigh.marginA ≤ st.weigh.marginB)])

/-- The checks of the decision settings (R104). -/
def checkDecision (st : Settings) : Failure :=
  let rows := st.dec.limitRows.toList
  firstFailure [
    checkParam .gapB2 (st.dec.gapB1 < st.dec.gapB2),
    checkParam .gapB3 (st.dec.gapB2 < st.dec.gapB3),
    ((indexesOf (fun e : ClassEntry => e.valid && e.axMax < e.axMin) st.dec.classTable.toList).head?).map (classTableNo, ·),
    ((indexesOf (fun r : LimitRow => st.deck.budget < r.gross) rows).head?).map (limitRowsNo, ·),
    checkParam .heavyThreshold (rows.all fun r => st.dec.heavyThreshold < r.gross)]

/-- The commit checks in the order of Table 12-7. -/
def commitFailure (s : State) (st : Settings) : Failure :=
  firstFailure [checkGeometry st, checkScan s st, checkParam .pulseOff (st.det.pulseOff ≤ st.det.pulseOn), checkWeigh st,
    checkDecision st]

/-! ### SETUP_COMMIT (R178) -/

/-- A SETUP_COMMIT, after its ACCESS refusal (R178). -/
def answerCommit (r : Request) (s : State) : State :=
  inSetup r (fun s =>
    if s.sst.retained.isSome then refuse r .busy s
    else match commitFailure s (s.sst.working.getD s.sst.live) with
      | some (param, entry) => reply r .badValue (.badSetting param entry) s
      | none => { s with sst.storeBusy := true, lki.heldCommit := some r.tag }) s

/-- SETUP_COMMIT (R178). -/
def execSetupCommit (s : State) : Host.Outcome State Fault Refusal := serve 0x31 (lengthIn [0]) true answerCommit s

/-! ### What each block does at a commit -/

/-- A detector that is IDLE takes the new detector settings (R34). -/
def commitDetectors (s : State) : State :=
  { s with scu := mapVec (fun u => if u.det == .idle then { u with cfg := s.sst.live.det } else u) s.scu }

/-- The clear notices of a loop that goes out of use, LOOP_STUCK's before LOOP_CHATTER's (R54; log entry 47). -/
def clearLoopConditions (x : LoopState) (l : Loop) (s : State) : State :=
  let s1 := if x.stuck == .none then s else giveClear (loopStuckIx l) s
  if x.chatter.isSome then giveClear (chatterIx l) s1 else s1

/-- A loop goes out of use (R54). -/
def retireLoop (was : Bool) (l : Loop) (s : State) : State :=
  let x := s.liu.loops[l]
  let s1 := changeDeb (loopInput l) (fun d => { d with level := false, cand := none })
    (changeLoop l (fun x => { x with announced := false, stuck := .none, chatter := none, edges := [] }) s)
  serviceChange l was (clearLoopConditions x l s1)

/-- A loop comes into use (R54). -/
def admitLoop (was : Bool) (l : Loop) (s : State) : State :=
  let level := rawLevel s (loopInput l)
  let s1 := changeDeb (loopInput l) (fun d => { d with level := level, cand := none })
    (changeLoop l (fun x =>
      { x with occStart := if level then s.now else x.occStart, announced := false, stuck := .none, chatter := none,
               edges := [] }) s)
  serviceChange l was s1

/-- A loop in use is read again under a changed polarity: where the level differs from the debounced one, the commit is a raw edge for
the debounce alone (R54). -/
def rereadLoop (l : Loop) (s : State) : State :=
  let i := loopInput l
  if rawLevel s i != s.liu.deb[i].level then changeDeb i (debounceEdge s.now (rawLevel s i)) s else s

/-- A loop was in service under the settings before the commit (R50). -/
def servedUnder (old : Settings) (s : State) (l : Loop) : Bool :=
  loopInUse old l && s.liu.loops[l].stuck != .faulted && !(s.liu.loops[l].chatter.any (·.faultGiven))

/-- A loop at a commit, from the settings before it (R54). -/
def commitLoop (old : Settings) (s : State) (l : Loop) : State :=
  let was := servedUnder old s l
  match loopInUse old l, loopInUse s.sst.live l with
  | true, false => retireLoop was l s
  | false, true => admitLoop was l s
  | true, true => if old.loop.loopPol[l] != s.sst.live.loop.loopPol[l] then rereadLoop l s else s
  | false, false => s

/-- The deck order list of a lane made absent is flushed, with the HEAVY verdict on an open ghost of its E loop before or after it as
the free value gives (R142, R137; log entry 10). -/
def flushAbsent (l : Lane) (s : State) : State :=
  if s.rtk.ghost[l] then
    if Config.verdictFirst s.freeIndex then flushLane (settleGhost l true (useFree s)) l
    else settleGhost l true (flushLane (useFree s) l)
  else flushLane s l

/-- A lane made absent, after the assemblers' part: its strips shut where it was not CLOSED before, and otherwise a measurement that a ZERO_NOW
began there is abandoned (log entry 50); its camera output becomes inactive, and its deck order list is flushed (R163, R33, R2, R142). -/
def dropLane (wasClosed : Bool) (l : Lane) (s : State) : State :=
  let s1 := { s with dcu.camera := put s.dcu.camera l none }
  flushAbsent l (if wasClosed then abandonLaneZero l s1 else shutLane l s1)

/-- A lane at a commit, from the settings and the lane modes before it: made absent, or made present with its closed mark set
(R163). -/
def commitLane (old : Settings) (modes : Vector LaneMode 3) (s : State) (l : Lane) : State :=
  match lanePresent old l, lanePresent s.sst.live l with
  | true, false => dropLane (modes[l] == .closed) l s
  | false, true => { s with cmn.closedMark := put s.cmn.closedMark l true }
  | true, true | false, false => s

/-- The overstay latches under a longer DECK_OVERSTAY: it governs from the entry time every entry whose cause has not been given (R151), so
the entries are tested again, and a latch taken under the shorter one is withdrawn where the longer has not passed; the latch of the
greatest DECK_OVERSTAY stands for an age whose difference has wrapped (R8; log entry 34). -/
def commitOverstay (old : Settings) (s : State) : State :=
  if old.deck.overstay < s.sst.live.deck.overstay then
    let old : DeckEntry → Bool := fun e => e.agedFull || passed s.now e.entryTime (secs s.sst.live.deck.overstay)
    { s with dkc.lists := mapVec (fun es => es.map fun e => { e with aged := old e }) s.dkc.lists }
  else s

/-- The grant times that a shorter WIN_LEN places outside the window are removed (R151). -/
def commitWindow (s : State) : State :=
  { s with dkc.grantTimes := s.dkc.grantTimes.filter fun t => !passed s.now t (secs s.sst.live.deck.winLen) }

/-- The deck at a commit: the blind condition, the overload condition and the arbiter's examination (R151, R142). -/
def commitDeck (old : Settings) (s : State) : State :=
  deckReview (reviewBlind false (commitWindow (commitOverstay old s)))

/-- A commit whose TRACE_MODE is other than HOLD_ON_DIVERT ends a hold (R172). -/
def commitTrace (s : State) : State :=
  if s.sst.live.link.traceMode == .holdOnDivert then s else { s with trs.held := none }

/-! ### STORE_WRITE_END (R179) -/

/-- The working copy becomes the live settings, the live ones are retained, the image and its checksum are replaced, and the device
mode becomes NORMAL (R179, R180, R164). -/
def takeWorking (good : Bool) (s : State) : State :=
  let st := s.sst.working.getD s.sst.live
  { s with
    sst.live := st
    sst.liveGen := s.sst.liveGen + 1
    sst.retained := some (s.sst.liveGen, s.sst.live)
    sst.working := none
    sst.storeBusy := false
    sst.image := st
    sst.imageGood := good
    sst.checksum := crc16 (Config.imageBytes st.values)
    cmn.safeFlag := false
    cmn.mode := .normal }

/-- The commit is answered OK, and the answers behind it become ready in order (R175, R179). -/
def releaseCommit (s : State) : State :=
  match s.lki.heldCommit with
  | none => s
  | some tag =>
    kick { s with
      lki.heldCommit := none
      lki.ready := s.lki.ready ++ [⟨0x31 + 0x80, tag, .ok, .empty⟩] ++ s.lki.behind
      lki.behind := [] }

/-- The lanes that a commit makes absent and whose mode was not CLOSED before it. -/
def lanesShut (old : Settings) (modes : Vector LaneMode 3) (s : State) : List Lane :=
  allLanes.filter fun l => lanePresent old l && !lanePresent s.sst.live l && modes[l] != .closed

/-- What the blocks do at a commit, from the settings and the lane modes before it: the assemblers of the lanes made absent together (log entry
38), then the lanes and the loops in ascending number (log entry 47), then the deck, the detectors, and last the end of a hold, so that a
pulse aborted by the commit, and a divert notice given at the commit, is taken while the hold still stands, under the new TRACE_MODE (log
entry 43). -/
def commitBlocks (old : Settings) (modes : Vector LaneMode 3) (s : State) : State :=
  let s1 := allLanes.foldl (commitLane old modes) (abandonLanes (lanesShut old modes s) s)
  let s2 := allLoops.foldl (commitLoop old) s1
  commitTrace (commitDetectors (commitDeck old s2))

/-- The end of the store write (R179). The STORE_FAULT fault cause of a failed write is given before the blocks take the commit, an order the
spec leaves open (log entry 47). -/
def endStoreWrite (good : Bool) (s : State) : State :=
  let modes : Vector LaneMode 3 := Vector.ofFn (laneModeOf s)
  let s1 := takeWorking good s
  let s2 := if good then s1 else giveFault storeFaultIx s1.now s1
  releaseCommit (commitBlocks s.sst.live modes (formModes s2))

/-- STORE_WRITE_END, with whether the image read back as written (R179). -/
def execStoreWriteEnd (good : Bool) (s : State) : Host.Outcome State Fault Refusal :=
  when' s.sst.storeBusy s (endStoreWrite good s)

end Sys2Proof.Machine
end

