-- ==== Sys2Proof/Machine/Starts.lean ====
section
/-! DEFINITION. The starts (chapter 12, section 12.5, and the start table of every chapter): the state each block takes at a cold and
at a warm start, and the reports that follow. -/

namespace Sys2Proof.Machine

/-! ### What each block takes (every chapter's start table) -/

/-- The mode of a lane at a start is CLOSED (R163). -/
def startClosed (st : Settings) (l : Lane) : Bool := !lanePresent st l || !st.site.startOpen[l]

/-- Timebase (R5, R6, R13). The scan divider stands at 0 until its load at the first scan tick, a value the spec leaves open (log entry 66). -/
def startTbu : TbuState := { time := 0, seconds := 0, secTicks := 0, divider := 0, scanDue := true }

/-- Converter Sequencer (R26). The scan-tick time and the slot count before the first pass are the model's choice (log entry 66). -/
def startCsq (st : Settings) : CsqState where
  nextNumber := 0
  inForce := st.conv
  passTime := 0
  slotIx := 0
  slots := []
  held := Vector.ofFn fun c => if h : c.val < 6 then st.zero.baseRef[c.val] else 0
  single := none
  temp := ⟨none, false⟩
  refFails := 0

/-- Strip Channel Unit of channel c (R36). -/
def startScu (st : Settings) (c : Chan) : ScuState where
  det := if startClosed st (chanLane c) then .off else .idle
  start := 0
  count := 0
  area := 0
  peak := 0
  missing := 0
  tailSamples := 0
  tailBuf := []
  span := []
  cur := none
  prev := none
  stuckRun := 0
  cfg := st.det

/-- Zero Scheduler (R44). -/
def startZsc (st : Settings) : ZscState :=
  { chans := Vector.ofFn fun c => ⟨st.zero.baseRef[c], none, false, true, .fresh, 0⟩, pointer := 0, meas := none }

/-- The debounce of an input (R55); the level of an out-of-use loop is taken as free (R45). -/
def startDebounce (st : Settings) (pins : Vector Bool 12) (i : Input) : Debounce :=
  { level := inputInUse st i && levelUnder st i pins[i], cand := none, lastEdge := 0 }

/-- Loop Input Unit (R55). Table 4-4 gives an occupancy start of device time 0 to an occupied loop; that of a free loop, and the latest raw edge
of an input, the model sets to 0 too (log entry 59). -/
def startLiu (st : Settings) (pins : Vector Bool 12) : LiuState :=
  { pins := pins, deb := Vector.ofFn (startDebounce st pins), loops := Vector.replicate 10 ⟨0, false, .none, none, []⟩ }

/-- Lane Assembler (R74). -/
def startLas : LasState :=
  { fifo := [], openVeh := none, sealed := [], pendingList := [], vref := none, silentS1 := 0, silentS2 := 0, nextVeh := 0 }

/-- Decision Unit (R111); the aspects are formed when the command ends. -/
def startDcu : DcuState :=
  { aspect := Vector.replicate 3 .blank, force := Vector.replicate 3 none, camera := Vector.replicate 3 none,
    snap := Vector.replicate 3 none, frozen := none }

/-- Deck Controller (R152). -/
def startDkc (st : Settings) (safe : Bool) : DkcState where
  st := if safe then .closed else .resync
  signal := .allStop
  queue := []
  grants := []
  grantTimes := []
  lastGrant := none
  committed := 0
  onDeck := 0
  lists := Vector.replicate 3 []
  overstayGiven := Vector.replicate 3 false
  listFull := false
  overload := false
  blind := false
  resyncOwed := false
  timer := if safe then none else some (after 0 (secs st.deck.resyncTime))

/-- Trace Store (R172). -/
def startTrs : TrsState := { ring := [], nextIndex := 1, held := none, notice := Vector.replicate 6 none }

/-- Condition Monitor, given its entries and masks (R166, R164, R165). -/
def startCmn (st : Settings) (safe : Bool) (conds : Vector CondEntry 65) (mask : Vector MaskValue 17) : CmnState where
  conds := conds
  convTimes := []
  desyncTimes := []
  nonIds := Vector.replicate 3 []
  tempLostTime := none
  windows := Vector.replicate 3 []
  mask := mask
  closedMark := mapVec (!·) st.site.startOpen
  laneMode := Vector.replicate 3 .closed
  safeFlag := safe
  mode := if safe then .safe else .normal
  lanes := Vector.replicate 3 ⟨0, 0, 0, 0⟩
  grants := 0
  unadmitted := 0
  ghosts := 0

/-- Link Interface (R183). The time of the latest byte before any byte is the model's choice (log entry 66). -/
def startLki (st : Settings) (coldInd warm : Bool) : LkiState where
  rx := []
  rxLast := 0
  requests := []
  heldCommit := none
  ready := []
  behind := []
  reports := []
  tx := none
  noticeLoss := false
  requestOverrun := false
  lastValid := 0
  silentGiven := false
  linkRate := st.link.linkBaud
  coldInd := coldInd
  lastWarm := warm
  warmDue := false

/-- The blocks that take the same state at every start, from the settings and the safe flag with which it begins. What a warm start
keeps, and the Condition Monitor, Record Table, Link Interface and Settings Store, are set by the callers. -/
def startBlocks (st : Settings) (safe : Bool) (s : State) : State :=
  { s with
    tbu := startTbu
    csq := startCsq st
    scu := Vector.ofFn (startScu st)
    zsc := startZsc st
    liu := startLiu st s.liu.pins
    las := Vector.replicate 3 startLas
    dcu := startDcu
    rtk := { ghost := Vector.replicate 3 false }
    dkc := startDkc st safe
    trs := startTrs }

/-- The blind condition that holds at a start is no transition: the deck stays in the state of R152 (log entry 16). -/
def startBlind (s : State) : State := { s with dkc.blind := blindNow s }

/-- The START report, and in SAFE mode the DECK report with cause START_SAFE (R181, R182, R152). -/
def startReports (warm : Bool) (s : State) : State :=
  let s1 := placeReport (.start warm s.cmn.safeFlag s.sst.liveGen s.now) s
  if s1.cmn.safeFlag then placeReport (deckReport none .startSafe s1) s1 else s1

/-! ### A start that cuts a store write short -/

/-- The image as a start leaves it: where it cuts a store write short, one of the three outcomes of the free value (log entry 9). The stored
checksum of a bad image so left, which IDENT gives from then on, is a free value too (R176; log entry 54). -/
def cutWrite (s : State) : State :=
  if s.sst.storeBusy then
    let st := s.sst.working.getD s.sst.live
    let s1 := useFree s
    match Config.interruptedImage s.freeIndex with
    | none => { s1 with sst.imageGood := false, sst.checksum := Config.tornChecksum s.freeIndex }
    | some false => s1
    | some true =>
      { s1 with sst.image := st, sst.imageGood := true, sst.checksum := crc16 (Config.imageBytes st.values) }
  else s

/-! ### COLD_START (R181) -/

/-- The settings a cold start begins with: the image under a good checksum, otherwise the defaults (R181). -/
def coldSettings (s : State) : Settings := if s.sst.imageGood then s.sst.image else blankSettings

/-- The state of every block at a cold start, before its reports. -/
def coldBlocks (s : State) : State :=
  let st := coldSettings s
  let safe := !s.sst.imageGood
  { startBlocks st safe s with
    rtb := { pool := [], approach := Vector.replicate 3 [], history := [], nextId := 1 }
    cmn := startCmn st safe (Vector.replicate 65 CondEntry.initial) (Vector.replicate 17 .both)
    lki := startLki st true false
    sst := { s.sst with
      live := st, liveGen := if safe then 0 else 1, retained := none, working := none, storeBusy := false } }

/-- A cold start: the image, as a write cut short leaves it, is read, every block takes its state, and the reports are placed, that of STORE_FAULT last (R181). -/
def coldStart (s : State) : State :=
  let s1 := startReports false (startBlind (coldBlocks (cutWrite s)))
  if s1.cmn.safeFlag then giveFault storeFaultIx 0 s1 else s1

/-- COLD_START, by power-on or the reset line (R181). -/
def execColdStart (s : State) : Host.Outcome State Fault Refusal := done (coldStart s)

/-! ### WARM_START (R182) -/

/-- A latching entry in FAULT or RECOVERING over a warm start: FAULT, its times 0, its count kept, its changed flag set; every other
entry is CLEAR as after a cold start (R166; log entry 31). -/
def warmCond (i : CondIx) (e : CondEntry) : CondEntry :=
  if (kindOf i).1.latching && (e.st == .fault || e.st == .recovering) then
    ⟨.fault, e.count, some 0, some 0, true, none, false⟩
  else CondEntry.initial

/-- The CONDITION report of an entry that was RECOVERING before a warm start (R166). -/
def warmCondReport (old : Vector CondEntry 65) (s : State) (i : CondIx) : State :=
  if old[i].st == .recovering && maskSelects (maskOf i s) .recovering .fault then
    placeReport (conditionReport i .recovering s) s
  else s

/-- The state of every block at a warm start, before its reports. -/
def warmBlocks (s : State) : State :=
  let st := s.sst.live
  let safe := s.cmn.safeFlag
  { startBlocks st safe s with
    rtb := { pool := [], approach := Vector.replicate 3 [], history := s.rtb.history, nextId := s.rtb.nextId }
    cmn := startCmn st safe (Vector.ofFn fun i => warmCond i s.cmn.conds[i]) s.cmn.mask
    lki := startLki st s.lki.coldInd true
    sst := { s.sst with retained := none, working := none, storeBusy := false } }

/-- A warm start (R182). The image is not read, but a store write that began after RESTART was taken is cut short (log entry 30).
The CONDITION reports of entries that were RECOVERING follow the START and DECK reports; among themselves they are placed in ascending index, an order the spec leaves open (R166; log entry 55). -/
def warmStart (s : State) : State :=
  allConds.foldl (warmCondReport s.cmn.conds) (startReports true (startBlind (warmBlocks (cutWrite s))))

/-- The OK answer to a RESTART has been transmitted, and the transmitter is idle (R182). A store write in progress when RESTART was taken has
then ended, since that answer waits behind the held answer of its commit (R175); one begun later holds nothing back (log entry 30). -/
def warmStartDue (s : State) : Bool := s.lki.warmDue && s.lki.tx.isNone

/-- WARM_START (R182). -/
def execWarmStart (s : State) : Host.Outcome State Fault Refusal := when' (warmStartDue s) s (warmStart s)

end Sys2Proof.Machine
end

