-- ==== Sys2Proof/Machine/Due.lean ====
section
/-! DEFINITION. What the device does by itself on an empty queue (log entries 1 and 2): the commands that are due by its own state, in
one fixed order, and the advance of device time by one tick when none is due. -/

namespace Sys2Proof.Machine

/-- A command where it is due. -/
def dueIf (b : Bool) (c : Instr) : List Instr := if b then [c] else []

/-- The slot of the next due entry has passed without an answer (R12). -/
def slotPassed (s : State) : Bool := slotDue s && s.csq.slotIx + 1 ≤ ticksFrom s.csq.passTime s.now

/-- The slot of the single conversion has passed without an answer (R12, R22). -/
def singlePassed (s : State) : Bool := singleDue s && s.csq.slotIx + 1 ≤ ticksFrom s.csq.passTime s.now

/-- The ids of the PENDING records of the pending lists. -/
def pendingIds (s : State) : List Nat := s.las.toList.flatMap fun a => a.pendingList.map (·.id)

/-- The request commands by their codes (Table 12-3). -/
def requestTable : List (Nat × Instr) :=
  [(0x01, .status), (0x02, .conditions), (0x03, .ackConditions), (0x04, .recover), (0x05, .reportMask), (0x10, .record),
   (0x11, .history), (0x12, .deckView), (0x13, .queueView), (0x14, .snapshot), (0x15, .snapshotRelease), (0x20, .laneOpen),
   (0x21, .laneClose), (0x22, .deckClose), (0x23, .deckRelease), (0x24, .deckClearHead), (0x25, .signForce),
   (0x30, .setupBegin), (0x31, .setupCommit), (0x32, .setupAbandon), (0x33, .paramWrite), (0x34, .paramRead),
   (0x35, .tableWrite), (0x36, .tableRead), (0x40, .convertOne), (0x41, .zeroNow), (0x42, .traceRead),
   (0x43, .traceRelease), (0x50, .restart), (0x51, .ident)]

/-- The command that takes the next request, if one can be taken (R174). -/
def requestCommand (s : State) : List Instr :=
  match nextRequest s with
  | none => []
  | some r => [((requestTable.find? fun p => p.1 == r.type.toNat).map (·.2)).getD .unknownType]

/-- Time, conversions and scan ticks that are due. -/
def dueClock (s : State) : List Instr :=
  dueIf (warmStartDue s) .warmStart ++ dueIf (secondDue s) .deviceSecondsAdvance ++
    dueIf (slotPassed s) (.conversionSlot none) ++ dueIf (singlePassed s) (.singleConversion none) ++
    dueIf (scanTickDue s) .scanTick ++ dueIf (tempStaleDue s) .tempStaleExpiry

/-- Events of the inputs that are due. -/
def dueInputs (s : State) : List Instr :=
  (List.finRange 12).flatMap (fun i =>
    dueIf (acceptDue i s) (.candidateAccepted i) ++ dueIf (cancelDue i s) (.candidateCancelled i)) ++
  allLoops.flatMap (fun l =>
    dueIf (stuckAlertDue l s) (.loopStuckAlert l) ++ dueIf (stuckFaultDue l s) (.loopStuckFault l) ++
      dueIf (chatterQuietDue l s) (.chatterQuiet l))

/-- Expiries of the lanes that are due. -/
def dueLanes (s : State) : List Instr :=
  allLanes.flatMap (fun l =>
    dueIf (fifoExpiryDue l s) (.fifoEntryExpiry l) ++ dueIf (closeGapDue l s) (.closeGapExpiry l) ++
      dueIf (cameraEndDue l s) (.cameraPulseEnd l) ++ dueIf (forceEndDue l s) (.signForceExpiry l)) ++
  (pendingIds s).flatMap fun id => dueIf (straddleWaitDue id s) (.straddleWaitExpiry id)

/-- Expiries of records and of the deck that are due. -/
def dueDeck (s : State) : List Instr :=
  s.rtb.pool.flatMap (fun r => dueIf (recordExpiryDue r.id s) (.recordExpiry r.id)) ++
    dueIf (grantTimeDue s) .grantTimeExpiry ++ dueIf (headwayDue s) .headwayElapsed ++
    dueIf (blindClearDue s) .blindClearElapsed ++
    s.dkc.grants.flatMap (fun g => dueIf (grantExpiryDue g.id s) (.grantExpiry g.id)) ++
    allLanes.flatMap (fun l => dueIf (overstayDue l s) (.overstayExpiry l)) ++
    dueIf (resyncEndDue s) .resyncEnd ++ dueIf (restEndDue s) .restEnd

/-- Expiries of the Condition Monitor and the Link Interface that are due, and the next request. -/
def dueLink (s : State) : List Instr :=
  allConds.flatMap (fun i =>
    dueIf (alertDecayDue i s) (.alertDecay i) ++ dueIf (recoverWatchDue i s) (.recoverWatchEnd i)) ++
    dueIf (convLinkClearDue s) .convLinkClear ++ dueIf (tempLostFaultDue s) .tempLostFault ++
    dueIf (gapDue s) .frameGapTimeout ++ dueIf (linkSilentDue s) .linkSilentExpiry ++ requestCommand s

/-- Every command that is due by the device's own state. -/
def dueCommands (s : State) : List Instr := dueClock s ++ dueInputs s ++ dueLanes s ++ dueDeck s ++ dueLink s

/-- A record with the latch of its age at the present time: the greatest TRACK_TTL has passed since its weigh time (R8, R118). -/
def latchRecord (now : Time) (r : VRecord) : VRecord := { r with outlived := r.outlived || passed now r.weighTime Config.trackTtlMax }

/-- The latches of R8 on stored times that no command of the table takes, at the present time: the raw edges, missing samples and spurious
exits whose span has passed are latched as old in their lists (a missing sample at twice its span, since causes carry the earlier scan-tick
time), an entry of the deck older than the greatest DECK_OVERSTAY is marked, and so are a record older than the greatest TRACK_TTL and a
condition entry whose decay or watch has passed (log entries 34, 49, 51 and 65). -/
def latchTimes (s : State) : State :=
  { s with
    liu.loops := mapVec (fun x => { x with edges := latchOld s.now Config.chatterSpan x.edges }) s.liu.loops
    cmn.convTimes := latchOld s.now (2 * Config.convLinkSpan) s.cmn.convTimes
    cmn.desyncTimes := latchOld s.now Config.desyncSpan s.cmn.desyncTimes
    cmn.conds := s.cmn.conds.mapFinIdx fun i e h => latchEntry s.now ⟨i, h⟩ e
    rtb.pool := s.rtb.pool.map (latchRecord s.now)
    dkc.lists := mapVec (fun es =>
      es.map fun e => { e with agedFull := e.agedFull || passed s.now e.entryTime Config.overstayMax }) s.dkc.lists }

/-- Device time advances by one tick: the count towards the next device second and the scan divider move with it (R5, R6, R13), and
the latches of R8 that no command takes are taken. -/
def tick (s : State) : State :=
  latchTimes { s with
    tbu.time := s.tbu.time + 1
    tbu.secTicks := s.tbu.secTicks + 1
    tbu.divider := s.tbu.divider - 1
    tbu.scanDue := s.tbu.scanDue || s.tbu.divider == 0 }

/-- The step of a controller with no waiting command: the commands that are due are queued, and time advances when none is. -/
def rest (s : State) : State :=
  match dueCommands s with
  | [] => tick s
  | cs => { s with pending := cs }

end Sys2Proof.Machine
end

