-- ==== Sys2Proof/Machine/Dispatch.lean ====
section
/-! DEFINITION. The one dispatch from a command to its meaning. -/

namespace Sys2Proof.Machine

def exec (i : Instr) (s : State) : Host.Outcome State Fault Refusal :=
  match i with
  | .coldStart => Sys2Proof.Machine.execColdStart s
  | .restart => Sys2Proof.Machine.execRestart s
  | .warmStart => Sys2Proof.Machine.execWarmStart s
  | .deviceSecondsAdvance => Sys2Proof.Machine.execDeviceSecondsAdvance s
  | .scanTick => Sys2Proof.Machine.execScanTick s
  | .conversionSlot ans => Sys2Proof.Machine.execConversionSlot ans s
  | .singleConversion ans => Sys2Proof.Machine.execSingleConversion ans s
  | .tempStaleExpiry => Sys2Proof.Machine.execTempStaleExpiry s
  | .fifoEntryExpiry lane => Sys2Proof.Machine.execFifoEntryExpiry lane s
  | .closeGapExpiry lane => Sys2Proof.Machine.execCloseGapExpiry lane s
  | .straddleWaitExpiry id => Sys2Proof.Machine.execStraddleWaitExpiry id s
  | .rawEdge input level => Sys2Proof.Machine.execRawEdge input level s
  | .candidateAccepted input => Sys2Proof.Machine.execCandidateAccepted input s
  | .candidateCancelled input => Sys2Proof.Machine.execCandidateCancelled input s
  | .loopStuckAlert loop => Sys2Proof.Machine.execLoopStuckAlert loop s
  | .loopStuckFault loop => Sys2Proof.Machine.execLoopStuckFault loop s
  | .chatterQuiet loop => Sys2Proof.Machine.execChatterQuiet loop s
  | .cameraPulseEnd lane => Sys2Proof.Machine.execCameraPulseEnd lane s
  | .signForceExpiry lane => Sys2Proof.Machine.execSignForceExpiry lane s
  | .recordExpiry id => Sys2Proof.Machine.execRecordExpiry id s
  | .headwayElapsed => Sys2Proof.Machine.execHeadwayElapsed s
  | .blindClearElapsed => Sys2Proof.Machine.execBlindClearElapsed s
  | .grantTimeExpiry => Sys2Proof.Machine.execGrantTimeExpiry s
  | .grantExpiry id => Sys2Proof.Machine.execGrantExpiry id s
  | .overstayExpiry lane => Sys2Proof.Machine.execOverstayExpiry lane s
  | .resyncEnd => Sys2Proof.Machine.execResyncEnd s
  | .restEnd => Sys2Proof.Machine.execRestEnd s
  | .alertDecay ix => Sys2Proof.Machine.execAlertDecay ix s
  | .convLinkClear => Sys2Proof.Machine.execConvLinkClear s
  | .tempLostFault => Sys2Proof.Machine.execTempLostFault s
  | .recoverWatchEnd ix => Sys2Proof.Machine.execRecoverWatchEnd ix s
  | .frameReceived bytes => Sys2Proof.Machine.execFrameReceived bytes s
  | .frameGapTimeout => Sys2Proof.Machine.execFrameGapTimeout s
  | .linkSilentExpiry => Sys2Proof.Machine.execLinkSilentExpiry s
  | .frameSent => Sys2Proof.Machine.execFrameSent s
  | .unknownType => Sys2Proof.Machine.execUnknownType s
  | .status => Sys2Proof.Machine.execStatus s
  | .ident => Sys2Proof.Machine.execIdent s
  | .conditions => Sys2Proof.Machine.execConditions s
  | .ackConditions => Sys2Proof.Machine.execAckConditions s
  | .recover => Sys2Proof.Machine.execRecover s
  | .reportMask => Sys2Proof.Machine.execReportMask s
  | .record => Sys2Proof.Machine.execRecord s
  | .history => Sys2Proof.Machine.execHistory s
  | .deckView => Sys2Proof.Machine.execDeckView s
  | .queueView => Sys2Proof.Machine.execQueueView s
  | .snapshot => Sys2Proof.Machine.execSnapshot s
  | .snapshotRelease => Sys2Proof.Machine.execSnapshotRelease s
  | .laneOpen => Sys2Proof.Machine.execLaneOpen s
  | .laneClose => Sys2Proof.Machine.execLaneClose s
  | .deckClose => Sys2Proof.Machine.execDeckClose s
  | .deckRelease => Sys2Proof.Machine.execDeckRelease s
  | .deckClearHead => Sys2Proof.Machine.execDeckClearHead s
  | .signForce => Sys2Proof.Machine.execSignForce s
  | .setupBegin => Sys2Proof.Machine.execSetupBegin s
  | .setupCommit => Sys2Proof.Machine.execSetupCommit s
  | .setupAbandon => Sys2Proof.Machine.execSetupAbandon s
  | .paramWrite => Sys2Proof.Machine.execParamWrite s
  | .paramRead => Sys2Proof.Machine.execParamRead s
  | .tableWrite => Sys2Proof.Machine.execTableWrite s
  | .tableRead => Sys2Proof.Machine.execTableRead s
  | .storeWriteEnd good => Sys2Proof.Machine.execStoreWriteEnd good s
  | .convertOne => Sys2Proof.Machine.execConvertOne s
  | .zeroNow => Sys2Proof.Machine.execZeroNow s
  | .traceRead => Sys2Proof.Machine.execTraceRead s
  | .traceRelease => Sys2Proof.Machine.execTraceRelease s
  | .lenOutOfRange bytes => Sys2Proof.Machine.execLenOutOfRange bytes s

end Sys2Proof.Machine
end

