-- ==== Sys2Proof/Safety.lean ====
section
/-! DEFINITION. What counts as a safe run, and the terms in which claims speak of a state: its outputs as the rules form them, the
paths of answers and reports, the deck account, and the capacities of its stores. -/

namespace Sys2Proof.Safety

open Sys2Proof.Machine

/-- A step goes on: it neither faults nor refuses. -/
def Continues (s : State) : Prop := ∃ t, step s = .next t

/-- The outputs are as the rules form them: lane modes (R162), deck signal (R148), lane signs (R105); and an older generation is
retained only while a record or an unrecorded vehicle needs it (R180). -/
structure Formed (s : State) : Prop where
  modes    : ∀ l : Lane, s.cmn.laneMode[l] = laneModeOf s l
  signal   : s.dkc.signal = signalOf s
  signs    : ∀ l : Lane, s.dcu.aspect[l] = aspectOf s l
  retained : ∀ g st, s.sst.retained = some (g, st) → retainNeeded s g = true

/-- The entry of index i is in FAULT. -/
def FaultAt (s : State) (i : Nat) : Prop := ∃ ix : CondIx, ix.val = i ∧ s.cmn.conds[ix].st = .fault

/-- Lane l is CLOSED by R162: it is absent or its closed mark is set. -/
def ClosedBy (s : State) (l : Lane) : Prop := s.sst.live.site.laneCount ≤ l.val ∨ s.cmn.closedMark[l] = true

/-- Lane l is BLANKET by R162 where it is not CLOSED: the safe flag is set, or STRIP_SILENT, PULSE_STUCK or ZERO_RANGE of one of its
channels, its TABLE_FULL, CONV_LINK or REF_CHECK is in FAULT (Table 10-1). -/
def BlanketBy (s : State) (l : Lane) : Prop :=
  s.cmn.safeFlag = true ∨ FaultAt s (3 + 2 * l.val) ∨ FaultAt s (4 + 2 * l.val) ∨ FaultAt s (9 + 2 * l.val) ∨
    FaultAt s (10 + 2 * l.val) ∨ FaultAt s (21 + 2 * l.val) ∨ FaultAt s (22 + 2 * l.val) ∨ FaultAt s (53 + l.val) ∨ FaultAt s 28 ∨
    FaultAt s 29

/-- Lane l is DEGRADED by R162 where it is neither CLOSED nor BLANKET: STRIP_DISAGREE or ZERO_OVERDUE of one of its channels is in FAULT. -/
def DegradedBy (s : State) (l : Lane) : Prop := FaultAt s l.val ∨ FaultAt s (15 + 2 * l.val) ∨ FaultAt s (16 + 2 * l.val)

/-- A record of lane l's approach list has the decision DIVERT (R105). -/
def DivertAheadIn (s : State) (l : Lane) : Prop := ∃ id ∈ s.rtb.approach[l], ∃ r, findRec s id = some r ∧ r.decision = some .divert

/-- The outputs as the rows of the rules give them: the lane modes (R162), the deck signal (R148), the lane signs (R105, R2), and the
generation before the live one, retained only for an ASSEMBLING or PENDING record or an unrecorded vehicle of it (R180). -/
structure OutputRows (s : State) : Prop where
  closed   : ∀ l : Lane, ClosedBy s l → s.cmn.laneMode[l] = .closed
  blanket  : ∀ l : Lane, ¬ ClosedBy s l → BlanketBy s l → s.cmn.laneMode[l] = .blanket
  degraded : ∀ l : Lane, ¬ ClosedBy s l → ¬ BlanketBy s l → DegradedBy s l → s.cmn.laneMode[l] = .degraded
  normal   : ∀ l : Lane, ¬ ClosedBy s l → ¬ BlanketBy s l → ¬ DegradedBy s l → s.cmn.laneMode[l] = .normal
  allStop  : s.dkc.st = .resync ∨ s.dkc.st = .isolated ∨ s.dkc.st = .overloaded ∨ s.dkc.st = .closed ∨
               (s.dkc.st = .blind ∧ s.dkc.overload = true) → s.dkc.signal = .allStop
  resting  : s.dkc.st = .resting → s.dkc.signal = .heavyWait
  served   : s.dkc.st = .openDeck ∨ (s.dkc.st = .blind ∧ s.dkc.overload = false) →
               s.dkc.signal = if s.dkc.grants ≠ [] ∨ s.dkc.queue = [] then .go else .heavyWait
  absent   : ∀ l : Lane, s.sst.live.site.laneCount ≤ l.val → s.dcu.aspect[l] = .blank
  divert   : ∀ l : Lane, l.val < s.sst.live.site.laneCount →
               s.cmn.laneMode[l] = .blanket ∨ s.dcu.force[l] ≠ none ∨ DivertAheadIn s l → s.dcu.aspect[l] = .divert
  hold     : ∀ l : Lane, l.val < s.sst.live.site.laneCount →
               s.cmn.laneMode[l] ≠ .blanket → s.dcu.force[l] = none → ¬ DivertAheadIn s l →
               s.dcu.aspect[l] = if s.dkc.signal = .go then .blank else .hold
  retained : ∀ g st, s.sst.retained = some (g, st) →
               (∃ r ∈ s.rtb.pool, r.gen = g ∧ (r.st = .assembling ∨ r.st = .pending)) ∨
               (∃ l : Lane, (∃ v, s.las[l].openVeh = some v ∧ v.owner = .unrecorded ∧ v.gen = g) ∨
                 ∃ v ∈ s.las[l].sealed, v.owner = .unrecorded ∧ v.gen = g)

/-- The deck account agrees with the grants and the lists (R131): the committed load is the sum of the reserved loads, the on-deck load
the sum of the loads of the HEAVY entries. -/
structure AccountHolds (s : State) : Prop where
  committed : s.dkc.committed = (s.dkc.grants.map (·.load)).sum
  onDeck    : s.dkc.onDeck = (s.dkc.lists.toList.map listLoad).sum

/-- The queues of the link are within their capacities (R174, R175), and no answer waits behind a commit that is not held. -/
structure LinkQueues (s : State) : Prop where
  requests : s.lki.requests.length ≤ 4
  reports  : s.lki.reports.length ≤ 32
  behind   : s.lki.behind.length ≤ 4
  held     : s.lki.heldCommit = none → s.lki.behind = []

/-- The stores are within their capacities: 48 record slots (R112), 64 summaries (R117), 32 entries in each deck order list (R131). -/
structure StoreSizes (s : State) : Prop where
  pool    : s.rtb.pool.length ≤ 48
  history : s.rtb.history.length ≤ 64
  lists   : ∀ l : Lane, s.dkc.lists[l].length ≤ 32

/-- While the safe flag is set the deck is CLOSED (R147, R164). -/
def SafeDeckClosed (s : State) : Prop := s.cmn.safeFlag = true → s.dkc.st = .closed

/-- The answers on their way, in the order of their sending: in transmission, ready, behind a held commit (R175). -/
def answerPath (s : State) : List Answer :=
  (match s.lki.tx with | some (.answer a) => [a] | _ => []) ++ s.lki.ready ++ s.lki.behind

/-- The reports on their way, in the order of their sending (R175). -/
def reportPath (s : State) : List Report :=
  (match s.lki.tx with | some (.report r) => [r] | _ => []) ++ s.lki.reports

/-- The state without what answering and reporting change: request queue, answers, reports with NOTICE_LOSS, and transmission. -/
def sansLink (s : State) : State :=
  { s with lki.requests := [], lki.ready := [], lki.behind := [], lki.reports := [], lki.noticeLoss := false, lki.tx := none }

/-- The state without the outputs that every command forms afresh, and without the retained generation. -/
def sansOutputs (s : State) : State :=
  { s with cmn.laneMode := Vector.replicate 3 .closed, dkc.signal := .allStop, dcu.aspect := Vector.replicate 3 .blank,
           sst.retained := none }

/-- State t is state x with its outputs formed: nothing else differs, but that a retained generation which nothing needs is dropped
(R180). -/
structure FormedFrom (x t : State) : Prop where
  formed   : Formed t
  retained : t.sst.retained = x.sst.retained.filter fun g => retainNeeded x g.1
  rest     : sansOutputs t = sansOutputs x

/-- The reports rs, and no others, have been placed between x and t. Where the queue of 32 has room for all of them none is lost; the
overflow of a full queue is a statement of its own. -/
def Reported (rs : List Report) (x t : State) : Prop :=
  x.lki.reports.length + rs.length ≤ 32 → reportPath t = reportPath x ++ rs ∧ t.lki.noticeLoss = x.lki.noticeLoss

/-- What an operation within a command gives: t is x with the reports rs placed, and nothing else differs but that outputs may have been
formed. -/
structure PlacedFrom (rs : List Report) (x t : State) : Prop where
  rest     : sansLink (sansOutputs t) = sansLink (sansOutputs x)
  retained : t.sst.retained = x.sst.retained
  requests : t.lki.requests = x.lki.requests
  answers  : answerPath t = answerPath x
  reports  : Reported rs x t

/-- The last report on its way is the DECK report of a change of deck state from prev for the cause given, with the account as it stands in
t (R148). -/
def DeckReported (prev : DeckSt) (cause : DeckCause) (t : State) : Prop :=
  (reportPath t).getLast? = some (.deck ⟨t.dkc.st, some prev, cause, signalOf t, t.dkc.onDeck, t.dkc.committed, t.dkc.queue.length,
    t.tbu.time⟩)

/-- What an ISOLATED deck of s comes to in t, its lists and its on-deck load having become those given (R145): it stays while they hold a
noncompliant entry, and otherwise goes to RESTING for REST_TIME, or with a REST_TIME of 0 on to what follows RESTING: BLIND, RESYNC, OVERLOADED
or OPEN, the first that applies. `reported` says of a state left and a cause that the change has its DECK report (R148). -/
def IsolatedAfter (s : State) (lists : Vector (List DeckEntry) 3) (onDeck : Nat) (reported : DeckSt → DeckCause → Prop) (t : State) : Prop :=
  let latch := if lists.toList.any (fun es => 32 ≤ es.length) then true
    else if lists.toList.all (fun es => es.length ≤ 28) then false else s.dkc.listFull
  let account := t.dkc.lists = lists ∧ t.dkc.onDeck = onDeck
  if ∃ k : Lane, ∃ x ∈ lists[k], x.noncompliant = true then t.dkc.st = .isolated ∧ account
  else if s.sst.live.deck.restTime ≠ 0 then
    t.dkc.st = .resting ∧ account ∧ reported .isolated .isolationEnd ∧
    t.dkc.timer = some (s.tbu.time + BitVec.ofNat 32 (s.sst.live.deck.restTime * 100000))
  else reported .resting .restEnd ∧
    (if s.dkc.blind = true then
       t.dkc.st = .blind ∧ ∀ k : Lane, t.dkc.lists[k] = if laneLoopOut s k then [] else lists[k]
     else if s.dkc.resyncOwed = true then
       t.dkc.st = .resync ∧ t.dkc.lists = Vector.replicate 3 [] ∧ t.dkc.onDeck = 0 ∧ t.dkc.committed = 0 ∧ t.dkc.grants = []
     else if latch = true ∨ s.sst.live.deck.budget < onDeck then t.dkc.st = .overloaded ∧ account
     else t.dkc.st = .openDeck ∧ account)

/-- State t is state x with its outputs formed and the reports rs placed: nothing else differs. -/
structure ReportedFrom (rs : List Report) (x t : State) : Prop where
  formed   : Formed t
  retained : t.sst.retained = x.sst.retained.filter fun g => retainNeeded x g.1
  rest     : sansLink (sansOutputs t) = sansLink (sansOutputs x)
  requests : t.lki.requests = x.lki.requests
  answers  : answerPath t = answerPath x
  reports  : Reported rs x t

/-- State t is state x with its outputs formed, the reports rs placed, and the request r answered with the code and contents given: r
has left the request queue and its answer stands last on the answer path; nothing else differs. -/
structure AnsweredFrom (r : Request) (code : StatusCode) (body : AnswerBody) (rs : List Report) (x t : State) : Prop where
  formed   : Formed t
  retained : t.sst.retained = x.sst.retained.filter fun g => retainNeeded x g.1
  rest     : sansLink (sansOutputs t) = sansLink (sansOutputs x)
  requests : t.lki.requests = x.lki.requests.tail
  answers  : answerPath t = answerPath x ++ [⟨r.type + 0x80, r.tag, code, body⟩]
  reports  : Reported rs x t

/-- An entry of the condition table after a cause, or a fault cause, that carries time t (R153 to R155, R159). -/
def causedEntry (isFault : Bool) (t : Time) (e : CondEntry) : CondEntry :=
  let st : CondState := if isFault || e.st == .fault || e.st == .recovering then .fault else .alert
  { st := st
    count := if e.st == .clear then 1 else min (e.count + 1) 65535
    first := if e.st == .clear then some t else e.first
    last := some t
    changed := e.changed || st != e.st
    watch := if st == e.st then e.watch else none
    lapsed := false }

/-- An entry of the condition table moved to a state, its count and times kept (R153, R159). -/
def movedEntry (new : CondState) (now : Time) (e : CondEntry) : CondEntry :=
  if e.st == new then e
  else { e with st := new, changed := true, watch := if new == .recovering then some now else none, lapsed := false }

/-- The state with an entry of the condition table replaced. -/
def withEntry (ix : CondIx) (e : CondEntry) (s : State) : State := { s with cmn.conds := put s.cmn.conds ix e }

/-- An entry of the condition table after a clear notice: ALERT and FAULT return to CLEAR, RECOVERING stands (R154, R159). -/
def clearedEntry (now : Time) (e : CondEntry) : CondEntry := if e.st == .recovering then e else movedEntry .clear now e

/-- The CONDITION report of an entry's change to e, where its state changes and the report mask of its kind selects the change (R160). -/
def changeReports (ix : CondIx) (e : CondEntry) (s : State) : List Report :=
  let old := s.cmn.conds[ix].st
  if e.st != old && maskSelects (maskOf ix s) old e.st then
    [.condition ⟨ix, e.st, old, e.count, e.first, e.last, s.now⟩]
  else []

/-- The request r is the next to be taken, its TYPE being the code given, and the link queues are whole. -/
structure Asks (code : Nat) (r : Request) (s : State) : Prop where
  queues : LinkQueues s
  next   : nextRequest s = some r
  type   : r.type.toNat = code

end Sys2Proof.Safety
end

