-- ==== Sys2Proof/Certificates/Slice0/Obligations.lean ====
section
/-! DEFINITION. The statements about the controller for the provers: its step, its invariants, and for every command of the table what
it does and what it leaves unchanged. Where a statement rests on a choice of the model, its docstring names the log entry. -/

open Sys2Proof
open Sys2Proof.Machine
open Sys2Proof.Safety

/-! ### The step, reset and the link's bytes -/

/-- A step takes the command at the front of the queue and runs it with the queue's rest. -/
def Obligations.StepRunsFrontCommand : Prop :=
  ∀ (c : Instr) (cs : List Instr) (s : State), s.pending = c :: cs → step s = exec c { s with pending := cs }

/-- On an empty queue the commands that are due by the device's own state are queued; with none due, device time advances by one tick,
the count towards the next device second and the scan divider moving with it (R5, R6, R13), and the stored times that no command latches
are latched (R8): raw edges, missing samples and spurious exits too old to count are marked so in their lists, a deck entry older than the
greatest DECK_OVERSTAY is marked, and so are a record older than the greatest TRACK_TTL and a condition entry whose decay or watch has
passed. The queueing and the moments of those latches are the model's choice (log entries 1, 2, 34, 49, 51, 65). -/
def Obligations.EmptyQueueStep : Prop :=
  ∀ s : State, s.pending = [] →
    let now := s.tbu.time + 1
    let aged : Nat → Time → Bool := fun d t => decide (d ≤ (now - t).toNat)
    let latch : Nat → List StoredTime → List StoredTime := fun d xs => xs.map fun x => { x with old := x.old || aged d x.time }
    let lapses : CondIx → CondEntry → Bool := fun ix e =>
      ((kindOf ix).1.family == .counted && e.st == .alert &&
        e.last.any (aged (if (kindOf ix).1 = .laneIntrusion then 6000000 else 3000000))) ||
      (e.st == .recovering && e.watch.any (aged 6000000))
    (dueCommands s = [] →
      step s = .next { s with
        tbu := { s.tbu with
          time := now, secTicks := s.tbu.secTicks + 1, divider := s.tbu.divider - 1,
          scanDue := s.tbu.scanDue || s.tbu.divider == 0 }
        liu := { s.liu with loops := mapVec (fun x => { x with edges := latch 100000 x.edges }) s.liu.loops }
        cmn := { s.cmn with
          convTimes := latch 200000 s.cmn.convTimes, desyncTimes := latch 60000000 s.cmn.desyncTimes
          conds := s.cmn.conds.mapFinIdx fun i e h => { e with lapsed := e.lapsed || lapses ⟨i, h⟩ e } }
        rtb := { s.rtb with pool := s.rtb.pool.map fun r => { r with outlived := r.outlived || aged 360000000 r.weighTime } }
        dkc := { s.dkc with
          lists := mapVec (fun es => es.map fun e => { e with agedFull := e.agedFull || aged 720000000 e.entryTime })
            s.dkc.lists } }) ∧
    (dueCommands s ≠ [] → step s = .next { s with pending := dueCommands s })

/-- The state after reset is that of a cold start with a bad store checksum: SAFE mode, the safe flag set, the deck CLOSED with
ALL_STOP, every lane BLANKET, and START the first report (R181; the reset values the spec does not give are those of log entry 5).
The invariants hold there. -/
def Obligations.ResetMeetsInvariants : Prop :=
  exec .coldStart State.reset = .next State.reset ∧
  State.reset.cmn.mode = .safe ∧ State.reset.cmn.safeFlag = true ∧ State.reset.dkc.st = .closed ∧
  State.reset.dkc.signal = .allStop ∧ (∀ l : Lane, State.reset.cmn.laneMode[l] = .blanket) ∧
  (reportPath State.reset).head? = some (.start false true 0 0) ∧ State.reset.cmn.conds[storeFaultIx].st = .fault ∧
  Formed State.reset ∧ AccountHolds State.reset ∧ LinkQueues State.reset ∧ StoreSizes State.reset ∧
  SafeDeckClosed State.reset

/-- No command stops the controller, and the empty queue does not either: every step answers a next state. -/
def Obligations.NoCommandStops : Prop := ∀ s : State, Continues s

/-! ### Invariants -/

/-- After every step the lane modes, the deck signal and the lane signs are as the model forms them, and so as the rows of R162 with Table
10-1, of R148, and of R105 with R2 give them; an older generation is retained only while an ASSEMBLING or PENDING record or an
unrecorded vehicle of it remains (R180). -/
def Obligations.EveryStepKeepsFormed : Prop := ∀ s t : State, Formed s → step s = .next t → Formed t ∧ OutputRows t

/-- Every step keeps the deck account: the committed load is the sum of the reserved loads of the outstanding grants, the on-deck load
the sum of the loads of the HEAVY entries of the deck order lists (R131). -/
def Obligations.EveryStepKeepsAccount : Prop := ∀ s t : State, AccountHolds s → step s = .next t → AccountHolds t

/-- Every step keeps the queues of the link within their capacities: 4 requests, 32 reports, 4 answers behind a held one (R174, R175). -/
def Obligations.EveryStepKeepsLinkQueues : Prop := ∀ s t : State, LinkQueues s → step s = .next t → LinkQueues t

/-- Every step keeps the record pool within 48 slots, the history ring within 64 summaries and each deck order list within 32 entries
(R112, R117, R131). -/
def Obligations.EveryStepKeepsStoreSizes : Prop := ∀ s t : State, StoreSizes s → step s = .next t → StoreSizes t

/-- Every step keeps the deck CLOSED while the safe flag is set (R147, R164). -/
def Obligations.EveryStepKeepsSafeDeckClosed : Prop :=
  ∀ s t : State, SafeDeckClosed s → step s = .next t → SafeDeckClosed t

/-! ### The Timebase and the Zero Scheduler -/

/-- Device seconds advance by one after a further 100,000 ticks (R6), and every channel of a lane that is not CLOSED is graded: due when
never zeroed or ZERO_INTERVAL old, overdue at ZERO_OVERDUE, failing at twice that (R37). A channel that becomes overdue gives its
ZERO_OVERDUE cause, one that becomes failing its fault cause, one no longer overdue its clear notice, and one overdue after failing the clear
notice and then the cause; a change past both grades at once gives the cause and then the fault cause by the model's reading (log entry 20).
The CONDITION reports follow in ascending channel, the model's choice (log entry 44). A channel whose grade does not change gives no notice;
nothing but the Timebase's seconds, the grading, the ZERO_OVERDUE entries and those reports is changed. -/
def Obligations.DeviceSecondsAdvance : Prop :=
  ∀ s : State, 100000 ≤ s.tbu.secTicks →
    ∃ t, exec .deviceSecondsAdvance s = .next t ∧ Formed t ∧
      t.tbu = { s.tbu with seconds := s.tbu.seconds + 1, secTicks := s.tbu.secTicks - 100000 } ∧
      (∀ c : Chan, laneModeOf s (chanLane c) = .closed → t.zsc.chans[c] = s.zsc.chans[c]) ∧
      (∀ c : Chan, laneModeOf s (chanLane c) ≠ .closed →
        let z := s.zsc.chans[c]
        let age := (t.tbu.seconds - z.lastZero.getD 0).toNat
        t.zsc.chans[c] = { z with
          due := z.lastZero.isNone || s.sst.live.zero.zeroInterval ≤ age
          grade := if 2 * s.sst.live.zero.zeroOverdue ≤ age then .failing
                   else if s.sst.live.zero.zeroOverdue ≤ age then .overdue else .fresh }) ∧
      (∀ i : CondIx, (∀ c : Chan, i = overdueIx c → t.zsc.chans[c].grade = s.zsc.chans[c].grade) →
        t.cmn.conds[i] = s.cmn.conds[i]) ∧
      (let given : Chan → List (CondEntry → CondEntry) := fun c =>
         let cause := causedEntry false s.tbu.time
         let fault := causedEntry true s.tbu.time
         let clear := clearedEntry s.tbu.time
         match s.zsc.chans[c].grade, t.zsc.chans[c].grade with
         | .fresh, .overdue => [cause]
         | .fresh, .failing => [cause, fault]
         | .overdue, .failing => [fault]
         | .overdue, .fresh | .failing, .fresh => [clear]
         | .failing, .overdue => [clear, cause]
         | .fresh, .fresh | .overdue, .overdue | .failing, .failing => []
       let after : CondIx → List (CondEntry → CondEntry) → CondEntry := fun ix fs => fs.foldl (fun e f => f e) s.cmn.conds[ix]
       let placed : Chan → List Report := fun c => match given c with
         | [] => []
         | f :: fs =>
           let e := after (overdueIx c) [f]
           changeReports (overdueIx c) e s ++ changeReports (overdueIx c) (after (overdueIx c) (f :: fs)) (withEntry (overdueIx c) e s)
       (∀ c : Chan, t.cmn.conds[overdueIx c] = after (overdueIx c) (given c)) ∧
       Reported ((List.finRange 6).flatMap placed) s t) ∧
      sansLink (sansOutputs t) =
        sansLink (sansOutputs { s with tbu := t.tbu, zsc := { s.zsc with chans := t.zsc.chans }, cmn.conds := t.cmn.conds }) ∧
      answerPath t = answerPath s ∧ t.lki.requests = s.lki.requests

/-! ### The Converter Sequencer -/

/-- A scan tick loads the divider with the live SCAN_DIV, takes the newest committed converter settings into force, gives the pass the
next scan number and its due entries, arms a pending single conversion, and lets the Zero Scheduler abandon a measurement whose channel
the list no longer holds or, with none in progress, begin that of the first channel from the round-robin pointer on, with wraparound, that is of a
present lane, requested or due in a lane not CLOSED, scanned with EVERY 1, and in an idle lane: P loop free or out of service, detectors IDLE
or OFF, FIFO empty, no record ASSEMBLING (R13 to R16, R22, R38, R39, R41). Nothing else is changed.
A sample of the channel being measured (R41, R42): a missing one abandons the measurement, the pointer at its channel; a good one counts
until ZERO_N are taken, and then the requested flag is cleared and the pointer moves on. A spread above ZERO_SPREAD changes nothing else.
A mean further than ZERO_RANGE from BASE_REF raises the range run, held at 255, with a ZERO_RANGE cause, a fault cause from 3. Otherwise
the mean is the baseline, the last-zero time the device seconds and the run 0, and a lane that is not CLOSED has its channel graded
fresh, with a clear notice where it was overdue. Other samples change nothing. -/
def Obligations.ScanTickBeginsPass : Prop :=
  (∀ s : State, s.tbu.scanDue = true → s.csq.slots = [] →
    let conv := s.sst.live.conv
    let x : State := { s with
      tbu := { s.tbu with divider := conv.scanDiv, scanDue := false }
      csq := { s.csq with
        inForce := conv
        nextNumber := s.csq.nextNumber + 1
        passTime := s.tbu.time
        slotIx := 0
        slots := (usedEntries conv.scanList).filter fun e => s.csq.nextNumber.toNat % max e.every 1 == 0
        single := s.csq.single.map fun p => { p with armed := true } } }
    let everyTick : Chan → Prop := fun c => ∃ e ∈ usedEntries conv.scanList, e.channel.val = c.val ∧ e.every = 1
    let quiet : Chan → Prop := fun c => s.scu[c].det = .idle ∨ s.scu[c].det = .off
    let idle : Lane → Prop := fun l =>
      (s.liu.deb[loopInput (pLoop l)].level = false ∨ inService s (pLoop l) = false) ∧ quiet (s1Chan l) ∧ quiet (s2Chan l) ∧
      s.las[l].fifo = [] ∧ ∀ r ∈ s.rtb.pool, r.lane = l → r.st ≠ .assembling
    let fits : Chan → Prop := fun c =>
      (chanLane c).val < s.sst.live.site.laneCount ∧
      (s.zsc.chans[c].requested = true ∨ (s.zsc.chans[c].due = true ∧ laneModeOf s (chanLane c) ≠ .closed)) ∧
      everyTick c ∧ idle (chanLane c)
    let places : Chan → Nat := fun c => (c.val + 6 - s.zsc.pointer.val) % 6
    let chosen : Option Chan → Prop := fun o =>
      ((∀ c, ¬ fits c) → o = none) ∧ ∀ c, fits c → (∀ k, fits k → places c ≤ places k) → o = some c
    ∃ t, exec .scanTick s = .next t ∧ ∃ o, chosen o ∧
      FormedFrom { x with
        zsc := match s.zsc.meas with
          | some m => if scansChan conv.scanList m.chan then s.zsc else { s.zsc with pointer := m.chan, meas := none }
          | none => { s.zsc with meas := o.map fun c =>
              { chan := c, count := 0, sum := 0, least := 0, greatest := 0, zeroN := s.sst.live.zero.zeroN,
                spread := s.sst.live.zero.zeroSpread, range := s.sst.live.zero.zeroRange,
                baseRef := s.sst.live.zero.baseRef[c] } } } t) ∧
  (∀ (c : Chan) (norm : Int) (missing : Bool) (s : State),
    let t := zeroSample c norm missing s
    ((∀ m, s.zsc.meas = some m → m.chan ≠ c) → t = s) ∧
    (∀ m, s.zsc.meas = some m → m.chan = c →
      let m1 : Measurement := { m with
        count := m.count + 1, sum := m.sum + norm
        least := if m.count = 0 then norm else min m.least norm
        greatest := if m.count = 0 then norm else max m.greatest norm }
      let mean := Int.fdiv m1.sum m.zeroN
      let z := s.zsc.chans[c]
      let ended : ZeroChan → State := fun y => { s with zsc :=
        { chans := put s.zsc.chans c { y with requested := false }, pointer := Fin.ofNat 6 (c.val + 1), meas := none } }
      (missing = true → t = { s with zsc := { s.zsc with pointer := c, meas := none } }) ∧
      (missing = false → m.count + 1 < m.zeroN → t = { s with zsc := { s.zsc with meas := some m1 } }) ∧
      (missing = false → m.zeroN ≤ m.count + 1 →
        ((m.spread : Int) < m1.greatest - m1.least → t = ended z) ∧
        (m1.greatest - m1.least ≤ m.spread → (m.range : Int) < |mean - m.baseRef| →
          let run := min (z.rangeRun + 1) 255
          let e := causedEntry (decide (3 ≤ run)) s.tbu.time s.cmn.conds[rangeIx c]
          PlacedFrom (changeReports (rangeIx c) e s) (withEntry (rangeIx c) e (ended { z with rangeRun := run })) t) ∧
        (m1.greatest - m1.least ≤ m.spread → |mean - m.baseRef| ≤ m.range →
          let taken := { z with baseline := mean, lastZero := some s.tbu.seconds, rangeRun := 0 }
          let e := if z.grade = .fresh then s.cmn.conds[overdueIx c] else clearedEntry s.tbu.time s.cmn.conds[overdueIx c]
          (laneModeOf s (chanLane c) = .closed → t = ended taken) ∧
          (laneModeOf s (chanLane c) ≠ .closed → 0 < s.sst.live.zero.zeroInterval → 0 < s.sst.live.zero.zeroOverdue →
            PlacedFrom (changeReports (overdueIx c) e s)
              (withEntry (overdueIx c) e (ended { taken with due := false, grade := .fresh })) t)))))

/-- The slot of the next due entry ends with an answer or with none (R12, R15, R19, R20): the slot is taken, a good answer's norm value
becomes the channel's held value, and a missing one leaves it. An answer that comes once the slot has ended is discarded and the sample
missing (R12; when the slot has ended is log entry 21). Channel 6 gives the temperature (R23); a good channel 7 within REF_TOL sets the
reference failure count to 0, and outside it raises the count to at most REF_N with a REF_CHECK cause, a fault cause at REF_N (R25); a stale
temperature that becomes fresh gives TEMP_LOST its clear notice (R24); a missing reading of either changes neither, and gives its CONV_LINK
cause with the scan tick's time. Nothing else is changed by a sample of 6 or 7. A sample of channels 0 to 5, the held value where it is missing, goes to the
channel's detector and then to the Zero Scheduler (R19, R41), a missing one after its CONV_LINK cause (log entry 39). No conversion
changes the inputs, the ghost marks, the settings or the Timebase. -/
def Obligations.ConversionSlotTakesSample : Prop :=
  ∀ (s : State) (e : ScanEntry) (rest : List ScanEntry) (ans : Option ConvAnswer),
    s.csq.slots = e :: rest → s.csq.slotIx ≤ (s.tbu.time - s.csq.passTime).toNat →
    let norm : Option Int := ans.bind fun a =>
      if (s.tbu.time - s.csq.passTime).toNat ≤ s.csq.slotIx ∧
          a.channel = e.channel.val ∧ a.gain = e.gain.val ∧ a.check = ~~~a.raw then
        some (a.raw.toInt * (8 / 2 ^ e.gain.val)) else none
    let csq : CsqState := { s.csq with
      slots := rest
      slotIx := s.csq.slotIx + 1
      held := match norm with
        | some v => put s.csq.held e.channel v
        | none => s.csq.held
      temp := match norm with
        | some v => if e.channel = 6 then
            ⟨some (max (-400) (min 800 (Int.fdiv ((v - s.csq.inForce.tempOfs) * s.csq.inForce.tempGain) 65536)),
              s.csq.passTime), false⟩ else s.csq.temp
        | none => s.csq.temp
      refFails := match norm with
        | some v => if e.channel = 7 then
            if |v - s.csq.inForce.refNom| ≤ (s.csq.inForce.refTol : Int) then 0
            else min (s.csq.refFails + 1) s.csq.inForce.refN else s.csq.refFails
        | none => s.csq.refFails }
    let times := keepNewest 16 (s.cmn.convTimes ++ [⟨s.csq.passTime, false⟩])
    let run := decide (times.length = 16 ∧ ∃ o ∈ times.head?, o.old = false ∧ (s.csq.passTime - o.time).toNat < 100000)
    let ce := causedEntry run s.csq.passTime s.cmn.conds[convLinkIx]
    let te := clearedEntry s.tbu.time s.cmn.conds[tempLostIx]
    let re := causedEntry (decide (s.csq.inForce.refN ≤ csq.refFails)) s.tbu.time s.cmn.conds[refCheckIx]
    let x : State := { s with csq := csq }
    let lost := withEntry convLinkIx ce { x with cmn.convTimes := times }
    ∃ t, exec (.conversionSlot ans) s = .next t ∧ Formed t ∧ t.csq = csq ∧
      t.tbu = s.tbu ∧ t.liu = s.liu ∧ t.rtk = s.rtk ∧ t.sst.live = s.sst.live ∧ t.pending = s.pending ∧
      (6 ≤ e.channel.val → norm = none → ReportedFrom (changeReports convLinkIx ce s) lost t) ∧
      (e.channel = 6 → norm ≠ none →
        (s.csq.temp.stale = false → FormedFrom x t) ∧
        (s.csq.temp.stale = true →
          ReportedFrom (changeReports tempLostIx te s) (withEntry tempLostIx te { x with cmn.tempLostTime := none }) t)) ∧
      (∀ v, e.channel = 7 → norm = some v →
        let good := |v - s.csq.inForce.refNom| ≤ (s.csq.inForce.refTol : Int)
        (good → FormedFrom x t) ∧ (¬ good → ReportedFrom (changeReports refCheckIx re s) (withEntry refCheckIx re x) t)) ∧
      (∀ c : Chan, c.val = e.channel.val →
        let handed : Int → Bool → State → State := fun v missing y =>
          zeroSample c v missing (detectorSample c s.csq.passTime v missing y)
        (∀ v, norm = some v → FormedFrom (handed v false x) t) ∧
        (norm = none → ∃ y,
          PlacedFrom (changeReports convLinkIx ce s) lost y ∧
          FormedFrom (handed s.csq.held[e.channel] true y) t))

/-- In the spare slot of a pass begun after its request a pending single conversion ends: it is no longer pending, and a CONVERSION
report gives the channel, the gain code, the scan tick's time, and the raw sample with its norm value or MISSING (R22). An answer that
comes once the slot has ended is discarded (R12, R22; when the slot has ended is log entry 21). A good one changes nothing else; a
missing one also gives a CONV_LINK cause, after the report (log entry 40), and changes no held value. -/
def Obligations.SingleConversionReports : Prop :=
  ∀ (s : State) (p : SingleConv) (ans : Option ConvAnswer),
    s.csq.slots = [] → s.csq.single = some p → p.armed = true → s.csq.slotIx ≤ (s.tbu.time - s.csq.passTime).toNat →
    let good : Option (Int × Int) := ans.bind fun a =>
      if (s.tbu.time - s.csq.passTime).toNat ≤ s.csq.slotIx ∧
          a.channel = p.chan.val ∧ a.gain = p.gain.val ∧ a.check = ~~~a.raw then
        some (a.raw.toInt, a.raw.toInt * (8 / 2 ^ p.gain.val)) else none
    let report : Report := .conversion ⟨p.chan, p.gain, s.csq.passTime, good⟩
    let x : State := { s with csq := { s.csq with single := none, slotIx := s.csq.slotIx + 1 } }
    ∃ t, exec (.singleConversion ans) s = .next t ∧
      (good.isSome → ReportedFrom [report] x t) ∧
      (good = none →
        let times := keepNewest 16 (s.cmn.convTimes ++ [⟨s.csq.passTime, false⟩])
        let run := decide (times.length = 16 ∧ ∃ o ∈ times.head?, o.old = false ∧ (s.csq.passTime - o.time).toNat < 100000)
        let e := causedEntry run s.csq.passTime s.cmn.conds[convLinkIx]
        ReportedFrom (report :: changeReports convLinkIx e s) (withEntry convLinkIx e { x with cmn.convTimes := times }) t)

/-! ### The Condition Monitor -/

/-- When TEMP_STALE has passed since the temperature's time, or since device time 0 while it is absent, the temperature becomes stale
with a TEMP_LOST cause, the time of the cause being kept where the entry was CLEAR (R24, R154).
ALERT_DECAY: a counted condition in ALERT returns to CLEAR when 30 s, or 60 s for LANE_INTRUSION, have passed since its last time
(R155). RECOVER_WATCH_END: a RECOVERING entry returns to CLEAR 60 s after its watch time (R159). Count and times are kept, the changed
flag is set, the CONDITION report that the mask selects is placed, and nothing else is changed. Both are for an entry of a device kind or
of a present lane; that of an absent lane stays as it stands (R153), and where its time has passed meanwhile the entry has latched it, to be
taken when the lane is present again (R8; the model's reading, log entry 51).
CONV_LINK in FAULT returns to CLEAR and empties its time list when 10 s have passed since its last time (R156). TEMP_LOST in ALERT
goes to FAULT when a further TEMP_STALE has passed since the cause that alerted it (R154). Nothing else is changed. -/
def Obligations.ConditionTimers : Prop :=
  (∀ s : State, s.csq.temp.stale = false →
     s.csq.inForce.tempStale * 100000 ≤ (s.tbu.time - (s.csq.temp.value.map (·.2)).getD 0).toNat →
     let e := causedEntry false s.tbu.time s.cmn.conds[tempLostIx]
     ∃ t, exec .tempStaleExpiry s = .next t ∧
       ReportedFrom (changeReports tempLostIx e s)
         (withEntry tempLostIx e { s with
           csq := { s.csq with temp := { s.csq.temp with stale := true } }
           cmn.tempLostTime := if s.cmn.conds[tempLostIx].st = .clear then some s.tbu.time else s.cmn.tempLostTime }) t) ∧
  (∀ (ix : CondIx) (s : State) (since : Time),
     let e := movedEntry .clear s.tbu.time s.cmn.conds[ix]
     let here := ∀ l ∈ entryLane ix, l.val < s.sst.live.site.laneCount
     (¬ here → exec (.alertDecay ix) s = .next s ∧ exec (.recoverWatchEnd ix) s = .next s) ∧
     (here → (kindOf ix).1.family = .counted → s.cmn.conds[ix].st = .alert → s.cmn.conds[ix].last = some since →
       s.cmn.conds[ix].lapsed = true ∨
         (if (kindOf ix).1 = .laneIntrusion then 6000000 else 3000000) ≤ (s.tbu.time - since).toNat →
       ∃ t, exec (.alertDecay ix) s = .next t ∧ ReportedFrom (changeReports ix e s) (withEntry ix e s) t) ∧
     (here → s.cmn.conds[ix].st = .recovering → s.cmn.conds[ix].watch = some since →
       s.cmn.conds[ix].lapsed = true ∨ 6000000 ≤ (s.tbu.time - since).toNat →
       ∃ t, exec (.recoverWatchEnd ix) s = .next t ∧ ReportedFrom (changeReports ix e s) (withEntry ix e s) t)) ∧
  (∀ (s : State) (since : Time),
     (s.cmn.conds[convLinkIx].st = .fault → s.cmn.conds[convLinkIx].last = some since →
       1000000 ≤ (s.tbu.time - since).toNat →
       let e := movedEntry .clear s.tbu.time s.cmn.conds[convLinkIx]
       ∃ t, exec .convLinkClear s = .next t ∧
         ReportedFrom (changeReports convLinkIx e s) (withEntry convLinkIx e { s with cmn.convTimes := [] }) t) ∧
     (s.cmn.conds[tempLostIx].st = .alert → s.cmn.tempLostTime = some since →
       s.csq.inForce.tempStale * 100000 ≤ (s.tbu.time - since).toNat →
       let e := causedEntry true s.tbu.time s.cmn.conds[tempLostIx]
       ∃ t, exec .tempLostFault s = .next t ∧
         ReportedFrom (changeReports tempLostIx e s) (withEntry tempLostIx e s) t))

/-! ### The Strip Channel Units -/

/-- A sample handed to a detector at a scan-tick time (R27 to R32), e being its excess over the channel's baseline. OFF ignores it. IDLE
ignores e below PULSE_ON; from it on a pulse begins with this sample, and a zero measurement of the lane is abandoned (R28, R41). PULSE
includes a sample from PULSE_OFF on and holds one below it in TAIL; TAIL rejoins the pulse from PULSE_ON on with what it holds, and holds
one below it. At PULSE_MAX the pulse is stuck: an ABORTED record of its first PULSE_MAX values, the stuck run raised, held at 255, and a
PULSE_STUCK cause, a fault cause from 3 (R32). At PULSE_REJOIN + 1 the TAIL ends in IDLE under the live detector settings: a pulse below
PULSE_MIN is noise; another is a hit, whose record goes to the Trace Store and which goes to the lane's assembler with start, area,
previous start and this time (R31; log entry 12). A detector of S2 that leaves PULSE or TAIL lets the entries that waited go (R60; log
entry 41). STUCK ends below PULSE_OFF in IDLE. An excess counts for at most 262,143 (R27).
The Trace Store discards a pulse in OFF, while held, or of a channel not selected; another it stores under the next index, with the id of
a waiting notice of its start, the oldest records that its words need being removed whole (R167; over a wrap of the index the model's choice, log entry 67). An id notice joins the channel's newest
record of its start without an id, or waits (R168). A divert notice under HOLD_ON_DIVERT holds a ring not held, with a TRACE_HELD report
(R169). -/
def Obligations.DetectorTakesSample : Prop :=
  (∀ (c : Chan) (time : Time) (norm : Int) (missing : Bool) (s : State),
    let u := s.scu[c]
    let e := norm - s.zsc.chans[c].baseline
    let on : Int := u.cfg.pulseOn
    let off : Int := u.cfg.pulseOff
    let capped := (min e 262143).toNat
    let miss : Nat := if missing then 1 else 0
    let t := detectorSample c time norm missing s
    let withUnit : ScuState → State := fun v => { s with scu := put s.scu c v }
    let held : ScuState := { u with det := .tail, tailSamples := u.tailSamples + 1, tailBuf := u.tailBuf ++ [(norm, missing)] }
    let more : ScuState := { u with
      count := u.count + 1, area := u.area + capped, peak := max u.peak capped, missing := u.missing + miss,
      span := u.span ++ [(norm, missing)] }
    let rejoined : ScuState := { u with
      det := .pulse, count := u.count + u.tailSamples + 1, area := u.area + capped, peak := max u.peak capped,
      missing := u.missing + (u.tailBuf ++ [(norm, missing)]).countP (·.2),
      span := u.span ++ (u.tailBuf ++ [(norm, missing)]), tailSamples := 0, tailBuf := [] }
    let rested : ScuState := { u with
      det := .idle, start := 0, count := 0, area := 0, peak := 0, missing := 0, tailSamples := 0, tailBuf := [], span := [],
      cfg := s.sst.live.det }
    let released : State → State := fun y => if c.val % 2 = 1 then s2DetectorLeft (chanLane c) y else y
    let stuck : ScuState → Prop := fun v =>
      let run := min (u.stuckRun + 1) 255
      let ce := causedEntry (decide (3 ≤ run)) s.tbu.time s.cmn.conds[stuckIx c]
      ∃ y, PlacedFrom (changeReports (stuckIx c) ce s)
          (withEntry (stuckIx c) ce
            (storePulse c u.start true (v.span.take u.cfg.pulseMax) (withUnit { v with det := .stuck, stuckRun := run }))) y ∧
        t = released y
    (u.det = .off → t = s) ∧
    (u.det = .idle → e < on → t = s) ∧
    (u.det = .idle → on ≤ e →
      t = { withUnit { u with
              det := .pulse, start := time, count := 1, area := capped, peak := capped, missing := miss, tailSamples := 0,
              tailBuf := [], span := [(norm, missing)] } with
            zsc := match s.zsc.meas with
              | some m => if chanLane m.chan = chanLane c then { s.zsc with pointer := m.chan, meas := none } else s.zsc
              | none => s.zsc }) ∧
    (u.det = .pulse → off ≤ e → if u.count + 1 < u.cfg.pulseMax then t = withUnit more else stuck more) ∧
    (u.det = .tail → on ≤ e → if u.count + u.tailSamples + 1 < u.cfg.pulseMax then t = withUnit rejoined else stuck rejoined) ∧
    ((u.det = .pulse ∧ e < off) ∨ (u.det = .tail ∧ e < on) →
      (u.tailSamples < u.cfg.pulseRejoin → t = withUnit held) ∧
      (u.cfg.pulseRejoin ≤ u.tailSamples →
        (u.count < u.cfg.pulseMin → t = released (withUnit rested)) ∧
        (u.cfg.pulseMin ≤ u.count →
          let hit : Hit := ⟨u.start, u.area, u.cur, time⟩
          let y := storePulse c u.start false u.span (withUnit { rested with prev := u.cur, cur := some u.start, stuckRun := 0 })
          t = released (if c.val % 2 = 1 then takeS2 (chanLane c) hit y else takeS1 (chanLane c) hit y)))) ∧
    (u.det = .stuck → off ≤ e → t = s) ∧
    (u.det = .stuck → e < off → t = withUnit rested)) ∧
  (∀ (c : Chan) (start : Time) (aborted : Bool) (span : List Sample) (s : State),
    let link := s.sst.live.link
    let words : List TraceRecord → Nat := fun rs => (rs.map fun r => 4 + r.samples.length).sum
    let joined : Option Nat := s.trs.notice[c].bind fun n => if n.1 = start then some n.2 else none
    let r : TraceRecord :=
      { index := s.trs.nextIndex, chan := c, start := start, vehicle := joined.getD 0, aborted := aborted,
        missing := span.any (·.2), samples := span.map (·.1) }
    let t := storePulse c start aborted span s
    (link.traceMode = .off ∨ s.trs.held ≠ none ∨ link.traceCh[c] = false → t = s) ∧
    (link.traceMode ≠ .off → s.trs.held = none → link.traceCh[c] = true →
      ∃ n : Fin (s.trs.ring.length + 1), let kept := s.trs.ring.drop n.val
        t = { s with trs := { s.trs with
          ring := kept ++ [r]
          nextIndex := if s.trs.nextIndex = 4294967295 then 1 else s.trs.nextIndex + 1
          notice := if joined.isSome then put s.trs.notice c none else s.trs.notice } } ∧
        (kept = [] ∨ words kept + words [r] ≤ 16384) ∧
        (∀ m : Fin (s.trs.ring.length + 1), m.val < n.val → 16384 < words (s.trs.ring.drop m.val) + words [r]))) ∧
  (∀ (c : Chan) (start : Time) (id : Nat) (s : State),
    let fits : TraceRecord → Prop := fun r => r.start = start ∧ r.vehicle = 0
    (∀ older r newer, s.trs.ring = older ++ r :: newer → r.chan = c → (∀ y ∈ newer, y.chan ≠ c) → fits r →
      idNotice c start id s = { s with trs := { s.trs with ring := older ++ { r with vehicle := id } :: newer } }) ∧
    ((∀ r, s.trs.ring.reverse.find? (·.chan == c) = some r → ¬ fits r) →
      idNotice c start id s = { s with trs := { s.trs with notice := put s.trs.notice c (some (start, id)) } })) ∧
  (∀ (id : Nat) (s : State),
    if s.sst.live.link.traceMode = .holdOnDivert ∧ s.trs.held = none then
      PlacedFrom [.traceHeld id s.tbu.time ((s.trs.ring.getLast?.map (·.index)).getD 0)]
        { s with trs := { s.trs with held := some id } } (divertNotice id s)
    else divertNotice id s = s)

/-! ### The Loop Input Unit -/

/-- RAW_EDGE, an observed change of level of an input not in use, or of a loop's, ENF's or MK's line (R45, R46, R49): the line is taken; an
input in use restarts its waiting time at the edge, a candidate is formed where none exists and the level differs from the debounced
one; a loop's edge-time list gains the edge, the oldest beyond CHATTER_N dropped. When it then holds CHATTER_N in less than 1 s a QUIET loop
begins an episode with a LOOP_CHATTER cause; a running episode takes the detection, with one fault cause from 10 s after its start.
LOOP_STUCK_FAULT: at twice LOOP_STUCK the loop is faulted with a LOOP_STUCK fault cause (R48). After either fault cause the loop is out of
service, with the notices of R50 where it was in service before. CHATTER_QUIET: 30 s after an episode's last detection the loop is QUIET,
its edge-time list is emptied, LOOP_CHATTER takes its clear notice (R49), and a loop that so returns to service gives the notices of R50.
The cause or clear notice comes before the notices (log entry 45). Those of a loop lost: its occupancy is announced no more; a P loop
takes the loop cover from its assembler's vehicle, one without a record being discarded (R68); an E or X loop of a lane not CLOSED has
the blind condition formed afresh (R142), an E loop with an open ghost taking the HEAVY verdict before it or after it (R123, R137; log
entry 10); one of a CLOSED lane has no effect on the deck (Table 4-3; log entry 70) but for the E loop's verdict. Those of a loop
regained: the blind condition, for an E or X loop. -/
def Obligations.LoopWatches : Prop :=
  (∀ (i : Input) (level : Bool) (s : State), s.liu.pins[i] ≠ level →
    let seen := levelUnder s.sst.live i level
    let d := s.liu.deb[i]
    let deb := put s.liu.deb i { d with
      lastEdge := s.tbu.time
      cand := if d.cand.isSome then d.cand else if seen = d.level then none else some ⟨seen, s.tbu.time⟩ }
    ∃ t, exec (.rawEdge i level) s = .next t ∧ t.liu.pins = put s.liu.pins i level ∧
      (inputInUse s.sst.live i = false → FormedFrom { s with liu := { s.liu with pins := put s.liu.pins i level } } t) ∧
      (inputInUse s.sst.live i = true → inputLoop i = none →
        FormedFrom { s with liu := { s.liu with pins := put s.liu.pins i level, deb := deb } } t) ∧
      (∀ l : Loop, inputLoop i = some l → inputInUse s.sst.live i = true →
        let n := s.sst.live.loop.chatterN
        let x := s.liu.loops[l]
        let edges : List StoredTime := keepNewest n (x.edges ++ [⟨s.tbu.time, false⟩])
        let detection := decide (edges.length = n ∧ ∃ o ∈ edges.head?, o.old = false ∧ (s.tbu.time - o.time).toNat < 100000)
        let withLoop : LoopState → State := fun y =>
          { s with liu := { pins := put s.liu.pins i level, deb := deb, loops := put s.liu.loops l y } }
        (detection = false → FormedFrom (withLoop { x with edges := edges }) t) ∧
        (detection = true → x.chatter = none →
          let e := causedEntry false s.tbu.time s.cmn.conds[chatterIx l]
          ReportedFrom (changeReports (chatterIx l) e s)
            (withEntry (chatterIx l) e (withLoop { x with edges := edges, chatter := some ⟨s.tbu.time, s.tbu.time, false⟩ })) t) ∧
        (∀ ep, detection = true → x.chatter = some ep →
          (ep.faultGiven = true ∨ (s.tbu.time - ep.start).toNat < 1000000 →
            FormedFrom (withLoop { x with edges := edges, chatter := some { ep with lastDet := s.tbu.time } }) t) ∧
          (ep.faultGiven = false → 1000000 ≤ (s.tbu.time - ep.start).toNat →
            let e := causedEntry true s.tbu.time s.cmn.conds[chatterIx l]
            t.cmn.conds[chatterIx l] = e ∧ inService t l = false ∧
            ∃ y, PlacedFrom (changeReports (chatterIx l) e s)
                (withEntry (chatterIx l) e
                  (withLoop { x with edges := edges, chatter := some ⟨ep.start, s.tbu.time, true⟩ })) y ∧
              FormedFrom (if inService s l then serviceLost l y else y) t)))) ∧
  (∀ (l : Loop) (s : State),
    loopInUse s.sst.live l = true → s.liu.deb[loopInput l].level = true → s.liu.loops[l].stuck ≠ .faulted →
    2 * (s.sst.live.loop.loopStuck * 100000) ≤ (s.tbu.time - s.liu.loops[l].occStart).toNat →
    let e := causedEntry true s.tbu.time s.cmn.conds[loopStuckIx l]
    ∃ t, exec (.loopStuckFault l) s = .next t ∧ t.cmn.conds[loopStuckIx l] = e ∧ inService t l = false ∧
      ∃ y, PlacedFrom (changeReports (loopStuckIx l) e s)
          (withEntry (loopStuckIx l) e { s with
            liu := { s.liu with loops := put s.liu.loops l { s.liu.loops[l] with stuck := .faulted } } }) y ∧
        FormedFrom (if inService s l then serviceLost l y else y) t) ∧
  (∀ (l : Loop) (ep : Episode) (s : State),
    loopInUse s.sst.live l = true → s.liu.loops[l].chatter = some ep → 3000000 ≤ (s.tbu.time - ep.lastDet).toNat →
    let e := clearedEntry s.tbu.time s.cmn.conds[chatterIx l]
    ∃ t, exec (.chatterQuiet l) s = .next t ∧ t.cmn.conds[chatterIx l] = e ∧
      ∃ y, PlacedFrom (changeReports (chatterIx l) e s)
          (withEntry (chatterIx l) e { s with
            liu := { s.liu with loops := put s.liu.loops l { s.liu.loops[l] with chatter := none, edges := [] } } }) y ∧
        FormedFrom (if inService s l = false ∧ inService y l = true then serviceGained l y else y) t) ∧
  (∀ (k : Lane) (s : State),
    let quiet : Loop → State := fun l =>
      { s with liu := { s.liu with loops := put s.liu.loops l { s.liu.loops[l] with announced := false } } }
    let y : State := { quiet (eLoop k) with freeIndex := s.freeIndex + 1 }
    serviceLost (pLoop k) s = { quiet (pLoop k) with
      las := put s.las k { s.las[k] with
        openVeh := match s.las[k].openVeh with
          | some v => if v.owner = .noRecord then none else some { v with loopCovered := false }
          | none => none } } ∧
    serviceLost dLoop s = quiet dLoop ∧
    (laneModeOf s k = .closed → serviceLost (xLoop k) s = quiet (xLoop k) ∧
      serviceLost (eLoop k) s = if s.rtk.ghost[k] then settleGhost k true (quiet (eLoop k)) else quiet (eLoop k)) ∧
    (laneModeOf s k ≠ .closed → serviceLost (xLoop k) s = reviewBlind true (quiet (xLoop k)) ∧
      (s.rtk.ghost[k] = false → serviceLost (eLoop k) s = reviewBlind true (quiet (eLoop k))) ∧
      (s.rtk.ghost[k] = true → serviceLost (eLoop k) s = reviewBlind true (settleGhost k true y) ∨
        serviceLost (eLoop k) s = settleGhost k true (reviewBlind true y))) ∧
    serviceGained (pLoop k) s = s ∧ serviceGained dLoop s = s ∧
    serviceGained (eLoop k) s = reviewBlind false s ∧ serviceGained (xLoop k) s = reviewBlind false s)

/-- A candidate is accepted when its input reads the candidate's level and no raw edge has come for LOOP_STABLE (R46): the debounced level
becomes the candidate's, and no other input's debounce is touched. An ENF change that ENF_EDGE selects freezes an unfrozen snapshot at
the candidate's time (R52, R109); MK's end of MAINTAIN in SETUP abandons the working copy, but not during a store write (R53, R177). An
occupied loop's occupancy starts at the candidate's time (R47), and in service its ARRIVE goes to the receivers of Table 4-2 with that
time: a P loop's to its assembler, an E, X or D loop's, marked as announced, to the threshold arrival, the exit or the slip arrival. A
loop that is freed hands on its DEPART where its ARRIVE was announced, a P loop's to its assembler unless the lane is CLOSED, an E loop's
with the occupancy in ticks to the ghost's verdict, and then is stuck no more, with the clear notice (R48) and the notices of its return to
service where it returns (R50). The spec does not order these three: the DEPART before the clear notice is the model's choice (log entry
46), and so is the clear notice before the notices of the return (log entry 45). -/
def Obligations.CandidateAccepted : Prop :=
  ∀ (i : Input) (c : Candidate) (s : State),
    inputInUse s.sst.live i = true → s.liu.deb[i].cand = some c → levelUnder s.sst.live i s.liu.pins[i] = c.level →
    s.sst.live.loop.loopStable * 100 ≤ (s.tbu.time - s.liu.deb[i].lastEdge).toNat →
    let deb := put s.liu.deb i ⟨c.level, none, s.liu.deb[i].lastEdge⟩
    let x : State := { s with liu := { s.liu with deb := deb } }
    ∃ t, exec (.candidateAccepted i) s = .next t ∧ Formed t ∧ t.liu.deb = deb ∧ t.liu.pins = s.liu.pins ∧
      (i = enfInput →
        let selected := match s.sst.live.loop.enfEdge with
          | .off => false | .rise => c.level | .fall => !c.level | .both => true
        FormedFrom { x with
          dcu := { s.dcu with frozen := if selected && s.dcu.frozen.isNone then some c.firstEdge else s.dcu.frozen } } t) ∧
      (i = mkInput →
        if c.level = false ∧ s.cmn.mode = .setup ∧ s.sst.storeBusy = false then
          FormedFrom { x with
            sst := { s.sst with working := none }
            cmn := { s.cmn with mode := if s.cmn.safeFlag then .safe else .normal } } t
        else FormedFrom x t) ∧
      (∀ l : Loop, inputLoop i = some l →
        let withLoop : LoopState → State := fun y => { x with liu := { x.liu with loops := put s.liu.loops l y } }
        let old := s.liu.loops[l]
        let freed := withLoop { old with announced := false }
        (c.level = true →
          t.liu.loops[l].occStart = c.firstEdge ∧ t.liu.loops[l].stuck = old.stuck ∧
          let marked := withLoop { old with occStart := c.firstEdge, announced := true }
          (inService s l = false → FormedFrom (withLoop { old with occStart := c.firstEdge }) t) ∧
          (inService s l = true →
            FormedFrom (match loopRole l with
              | .presence _ => loopArrive l c.firstEdge x
              | .threshold k => thresholdArrive k c.firstEdge marked
              | .deckExit k => exitArrive k marked
              | .slip => slipArrive c.firstEdge marked) t)) ∧
        (c.level = false →
          t.liu.loops[l].announced = false ∧ t.liu.loops[l].stuck = .none ∧ t.liu.loops[l].occStart = old.occStart ∧
          let handed : State := if old.announced then match loopRole l with
              | .presence k => if laneModeOf s k = .closed then freed else lasDepart k freed
              | .threshold k => thresholdDepart k (c.firstEdge - old.occStart).toNat freed
              | .deckExit _ => freed
              | .slip => freed
            else freed
          let e := clearedEntry s.tbu.time handed.cmn.conds[loopStuckIx l]
          (old.stuck = .none → FormedFrom handed t) ∧
          (old.stuck ≠ .none →
            ∃ y, PlacedFrom (changeReports (loopStuckIx l) e handed)
                (withEntry (loopStuckIx l) e { handed with
                  liu := { handed.liu with
                    loops := put handed.liu.loops l { handed.liu.loops[l] with stuck := .none } } }) y ∧
              FormedFrom (if inService s l = false ∧ inService y l = true then serviceGained l y else y) t)))

/-- A candidate whose input has returned to the debounced level for LOOP_STABLE is removed, and nothing else happens (R46).
LOOP_STUCK_ALERT: an occupied loop in use gives a LOOP_STUCK cause at LOOP_STUCK after its occupancy start, once (R48). -/
def Obligations.CancelAndStuckAlert : Prop :=
  (∀ (i : Input) (c : Candidate) (s : State),
     inputInUse s.sst.live i = true → s.liu.deb[i].cand = some c →
     levelUnder s.sst.live i s.liu.pins[i] = s.liu.deb[i].level →
     s.sst.live.loop.loopStable * 100 ≤ (s.tbu.time - s.liu.deb[i].lastEdge).toNat →
     ∃ t, exec (.candidateCancelled i) s = .next t ∧
       FormedFrom { s with liu := { s.liu with deb := put s.liu.deb i { s.liu.deb[i] with cand := none } } } t) ∧
  (∀ (l : Loop) (s : State),
     loopInUse s.sst.live l = true → s.liu.deb[loopInput l].level = true → s.liu.loops[l].stuck = .none →
     s.sst.live.loop.loopStuck * 100000 ≤ (s.tbu.time - s.liu.loops[l].occStart).toNat →
     let e := causedEntry false s.tbu.time s.cmn.conds[loopStuckIx l]
     ∃ t, exec (.loopStuckAlert l) s = .next t ∧
       ReportedFrom (changeReports (loopStuckIx l) e s)
         (withEntry (loopStuckIx l) e { s with
           liu := { s.liu with loops := put s.liu.loops l { s.liu.loops[l] with stuck := .alerted } } }) t)

/-- A P_L ARRIVE in service of a lane in CLOSED gives LANE_INTRUSION and no vehicle (R51); in any other mode it opens a loop-covered
vehicle where none is open, covers an open one by gap whose first S1 hit is not earlier than the arrival, and otherwise opens a new one
after sealing (R62, Table 5-3). A zero measurement of the lane is abandoned (R41). A P_L DEPART seals a loop-covered vehicle and no other
(R67). A vehicle sealed without a record is discarded; another joins the sealed vehicles, of which those stay that have a FIFO entry
left (R69).
The straddle check of a closed record X (R70): among the records that await X the one nearest in first-axle time, the lower lane on a tie,
is tested with it, and the others are decided alone; with none, X is decided at once where it is STRADDLE_SUSPECT or STRADDLE_WIN is 0,
or where no ASSEMBLING record of an adjacent lane lies within STRADDLE_WIN, and otherwise awaits the nearest, the lower lane and then the
lower id on a tie. The merge test passes for equal axle counts and S1 starts within STRADDLE_WIN, axle by axle; where it fails both are
decided alone (R72). That the record which awaited is decided before X, and the others after both, is the model's choice (log entry 22). A merge leaves the record of the lower id, with STRADDLE_MERGED, decided in the lane and with the weigh time of the
partner of the greater partial gross, the lower lane on a tie, its gross the sum of the axles' summed loads, each at most 50,000; the
other is closed MERGED (R72, R84). -/
def Obligations.AssemblerArrivalsAndStraddles : Prop :=
  (∀ (l : Lane) (time : Time) (s : State), inService s (pLoop l) = true →
    let p := s.liu.loops[pLoop l]
    let zsc := match s.zsc.meas with
      | some m => if chanLane m.chan = l then { s.zsc with pointer := m.chan, meas := none } else s.zsc
      | none => s.zsc
    let kept : List SealedVehicle → List SealedVehicle := fun vs => vs.filter fun v => s.las[l].fifo.any (·.veh == v.veh)
    let t := loopArrive (pLoop l) time s
    (laneModeOf s l = .closed →
      let e := causedEntry false s.tbu.time s.cmn.conds[intrusionIx l]
      PlacedFrom (changeReports (intrusionIx l) e s) (withEntry (intrusionIx l) e { s with
        zsc := zsc, liu := { s.liu with loops := put s.liu.loops (pLoop l) { p with occStart := time } } }) t) ∧
    (laneModeOf s l ≠ .closed →
      t.liu = { s.liu with loops := put s.liu.loops (pLoop l) { p with occStart := time, announced := true } } ∧ t.zsc = zsc ∧
      (∃ v, t.las[l].openVeh = some v ∧ v.loopCovered = true ∧
        (s.las[l].openVeh = none →
          v = ⟨s.las[l].nextVeh, .noRecord, true, 0, 0, 0, 0⟩ ∧ t.las[l].sealed = s.las[l].sealed) ∧
        (∀ w, s.las[l].openVeh = some w → w.loopCovered = false → earlier w.firstStart time = false →
          v = { w with loopCovered := true } ∧ t.las[l].sealed = s.las[l].sealed) ∧
        (∀ w, s.las[l].openVeh = some w → w.loopCovered = true ∨ earlier w.firstStart time = true →
          v = ⟨s.las[l].nextVeh, .noRecord, true, 0, 0, 0, 0⟩ ∧
          (w.owner = .noRecord → t.las[l].sealed = s.las[l].sealed) ∧
          (w.owner ≠ .noRecord → t.las[l].sealed = kept (s.las[l].sealed ++ [⟨w.veh, w.owner, w.gen⟩])))) ∧
      (∀ k : Lane, k ≠ l → t.las[k].openVeh = s.las[k].openVeh ∧ t.las[k].fifo = s.las[k].fifo)) ∧
    ((∀ w, s.las[l].openVeh = some w → w.loopCovered = false) → lasDepart l s = s) ∧
    (∀ w, s.las[l].openVeh = some w → w.loopCovered = true →
      (lasDepart l s).las[l].openVeh = none ∧ (lasDepart l s).las[l].fifo = s.las[l].fifo ∧
      (w.owner = .noRecord → lasDepart l s = { s with las := put s.las l { s.las[l] with openVeh := none } }) ∧
      (w.owner ≠ .noRecord → (lasDepart l s).las[l].sealed = kept (s.las[l].sealed ++ [⟨w.veh, w.owner, w.gen⟩])))) ∧
  (∀ (id : Nat) (x : VRecord) (s : State), findRec s id = some x →
    let away : VRecord → Nat := fun c => min (c.weighTime - x.weighTime).toNat (x.weighTime - c.weighTime).toNat
    let win := (s.settingsOf x.gen).asm.straddleWin * 100
    let awaits : VRecord → Prop := fun y => findRec s y.id = some y ∧
      ∃ k : Lane, ∃ p ∈ s.las[k].pendingList, p.id = y.id ∧ p.awaits = id
    let candidate : VRecord → Prop := fun c => c.st = .assembling ∧ adjacent s.sst.live x.lane c.lane = true ∧ away c ≤ win
    let t := straddleCheck id s
    (∀ w ∈ s.rtb.pool, awaits w → ∃ y ∈ s.rtb.pool, awaits y ∧
      (∀ z ∈ s.rtb.pool, awaits z → away y < away z ∨ (away y = away z ∧ y.lane ≤ z.lane)) ∧
      ∃ others : List Nat, (∀ o, o ∈ others ↔ o ≠ y.id ∧ ∃ z ∈ s.rtb.pool, awaits z ∧ z.id = o) ∧
        t = others.foldl (fun s o => decideSuspect o s) (mergeOrPart y x s)) ∧
    ((∀ y ∈ s.rtb.pool, ¬ awaits y) →
      (x.flags.straddleSuspect = true ∨ win = 0 ∨ (∀ c ∈ s.rtb.pool, ¬ candidate c) → t = weighAndDecide id s) ∧
      (x.flags.straddleSuspect = false → win ≠ 0 → ∀ w ∈ s.rtb.pool, candidate w → ∃ c ∈ s.rtb.pool, candidate c ∧
        (∀ z ∈ s.rtb.pool, candidate z → away c < away z ∨
          (away c = away z ∧ (c.lane < z.lane ∨ (c.lane = z.lane ∧ c.id ≤ z.id)))) ∧
        t = { s with
          rtb := { s.rtb with pool := s.rtb.pool.map fun r => if r.id == x.id then { r with st := .pending } else r }
          las := put s.las x.lane { s.las[x.lane] with
            pendingList := s.las[x.lane].pendingList ++ [⟨x.id, c.id, s.tbu.time⟩] } }))) ∧
  (∀ (y x : VRecord) (s : State), findRec s y.id = some y → findRec s x.id = some x → y.lane ≠ x.lane → y.id ≠ x.id →
    let win := (s.settingsOf y.gen).asm.straddleWin * 100
    let passes := y.axles.length = x.axles.length ∧ ∀ p ∈ x.axles.zip y.axles,
      min (p.2.s1Start - p.1.s1Start).toNat (p.1.s1Start - p.2.s1Start).toNat ≤ win
    let weighed : VRecord → VRecord := fun r => weighToAxles (s.settingsOf r.gen) (r.reading.getD (closeReading s r.lane)) r
    let gross : VRecord → Nat := fun r => ((weighed r).axles.map fun a => a.load.getD 0).sum
    let lead := if gross x < gross y ∨ (gross x = gross y ∧ y.lane < x.lane) then y else x
    let follow := if lead.id = y.id then x else y
    let survivor := if y.id < x.id then y else x
    let other := if y.id < x.id then x else y
    let t := mergeOrPart y x s
    (¬ passes → t = decideSuspect x.id (decideSuspect y.id s)) ∧
    (passes →
      findRec t other.id = none ∧
      (∀ r, findRec t survivor.id = some r →
        r.st = .decided ∧ r.flags.straddleMerged = true ∧ r.gen = survivor.gen ∧ r.lane = lead.lane ∧
        r.weighTime = lead.weighTime ∧ r.decTime = some s.tbu.time ∧
        r.gross = some ((((weighed lead).axles.zip (weighed follow).axles).map fun p =>
          min (p.1.load.getD 0 + p.2.load.getD 0) 50000).sum)) ∧
      (s.rtb.pool.length + s.rtb.history.length ≤ 64 →
        ∃ z ∈ t.rtb.history, z.id = other.id ∧ z.disposition = .merged ∧ z.closeTime = s.tbu.time)))

/-! ### Timers of a lane: camera, sign and overstay -/

/-- CAMERA_PULSE_END: when the end time of a lane's camera pulse is reached it is removed (R107) and nothing else is changed.
OVERSTAY_EXPIRY: the lane's DECK_OVERSTAY cause is given once for its head (R140). Marking every entry of the list that DECK_OVERSTAY has
passed for, not the head alone, is the model's reading of R8; a commit of a longer DECK_OVERSTAY tests the entries again (R151; log entry
34). Nothing else is changed. -/
def Obligations.LaneTimersEnd : Prop :=
  (∀ (l : Lane) (finish : Time) (s : State), earlier s.tbu.time finish = false → s.dcu.camera[l] = some finish →
     ∃ t, exec (.cameraPulseEnd l) s = .next t ∧
       FormedFrom { s with dcu := { s.dcu with camera := put s.dcu.camera l none } } t) ∧
  (∀ (l : Lane) (e : DeckEntry) (es : List DeckEntry) (s : State), s.dkc.lists[l] = e :: es →
     let old : DeckEntry → Bool := fun e =>
       e.aged || decide (s.sst.live.deck.overstay * 100000 ≤ (s.tbu.time - e.entryTime).toNat)
     (∃ x ∈ e :: es, x.aged = false ∧ old x = true) →
     let lists := put s.dkc.lists l ((e :: es).map fun x => { x with aged := old x })
     let ce := causedEntry false s.tbu.time s.cmn.conds[overstayIx l]
     ∃ t, exec (.overstayExpiry l) s = .next t ∧
       (old e = true → s.dkc.overstayGiven[l] = false →
         ReportedFrom (changeReports (overstayIx l) ce s)
           (withEntry (overstayIx l) ce { s with
             dkc := { s.dkc with lists := lists, overstayGiven := put s.dkc.overstayGiven l true } }) t) ∧
       (old e = false ∨ s.dkc.overstayGiven[l] = true →
         FormedFrom { s with dkc := { s.dkc with lists := lists } } t))

/-! ### The Lane Assemblers -/

/-- The oldest FIFO entry whose expiry is due waits while the detector of S2 is in PULSE or TAIL (R60). Otherwise it is removed as an
orphan: the silent run of S2 is raised to at most 255, a STRIP_SILENT cause is given, a fault cause from a run of 4, and the axle of a
record becomes a substitute with the record flagged ORPHAN (R61). Then the closes of sealed vehicles with no entry left are completed
(R69), after the cause by the model's choice (log entry 68), and nothing else happens; with no vehicle sealed there is none. -/
def Obligations.FifoEntryExpires : Prop :=
  ∀ (l : Lane) (e : FifoEntry) (s : State),
    let due : FifoEntry → Bool := fun e => !e.waiting &&
      decide ((s.settingsOf e.gen).site.stripSpacing[l] * 100000 / max (s.settingsOf e.gen).asm.vPairMin 1 + 1 ≤
        (s.tbu.time - e.start).toNat)
    s.las[l].fifo.find? due = some e →
    let det := s.scu[s2Chan l].det
    ∃ t, exec (.fifoEntryExpiry l) s = .next t ∧ Formed t ∧
      (det = .pulse ∨ det = .tail →
        ∃ older newer, s.las[l].fifo = older ++ e :: newer ∧ (∀ x ∈ older, due x = false) ∧
          FormedFrom { s with las := put s.las l { s.las[l] with fifo := older ++ { e with waiting := true } :: newer } } t) ∧
      (det ≠ .pulse → det ≠ .tail →
        let run := min (s.las[l].silentS2 + 1) 255
        let ce := causedEntry (decide (4 ≤ run)) s.tbu.time s.cmn.conds[silentIx (s2Chan l)]
        let x := withEntry (silentIx (s2Chan l)) ce { s with
          las := put s.las l { s.las[l] with fifo := s.las[l].fifo.eraseP due, silentS2 := run }
          rtb := { s.rtb with pool := match e.owner, e.axle with
            | .recorded id, some n => s.rtb.pool.map fun r => if r.id == id then
                { r with
                  axles := r.axles.modify (n - 1) fun a => { a with s2Area := none, source := .substitute, speed := none }
                  flags := { r.flags with orphan := true } } else r
            | _, _ => s.rtb.pool } }
        t.las[l].fifo = s.las[l].fifo.eraseP due ∧ t.las[l].silentS2 = run ∧
        (s.las[l].sealed = [] → ReportedFrom (changeReports (silentIx (s2Chan l)) ce s) x t) ∧
        ∃ y, PlacedFrom (changeReports (silentIx (s2Chan l)) ce s) x y ∧ FormedFrom (completeCloses l y) t)

/-- An S2 hit pairs with the oldest entry in whose window it lies: the entry leaves the FIFO, the pair speed floor(X / dt) becomes the
lane's reference speed, both silent runs become 0, and the axle takes the S2 area and that speed (R58). An S2 hit that lies in no
entry's window is spurious: FIFO, records and reference speed stay, S1's silent run is raised with its STRIP_SILENT cause, a fault cause
from a run of 4, and the Trace Store is given the hit's channel and start time with id 0 (R59, R168).
The first S1 hit of a vehicle opens a record with the next record id, its weigh time the hit's start, its generation the live one, its
one axle the hit with the source PAIRED, while one of the 48 slots is free; the id after the last wraps to 1 and empties the history ring
(R63, R112, R113). With no free slot the vehicle is unrecorded, with a TABLE_FULL fault cause for the lane (R66). The hit enters the FIFO
either way, and the vehicle's latest hit is taken at the time of its report (R31, R68). A later hit splits where the gap from the previous
hit exceeds the time of SPLIT_GAP at the reference speed, or V_NOMINAL (R64): the open vehicle is sealed, its close completed where no entry
of it is left, and the hit opens a new one with its loop cover (R63). Otherwise it joins the open vehicle: a record takes a further axle, or
from 12 axles on TRUNCATED and an entry that is not recorded (R65). Into a FIFO of 4 it comes after the oldest entry has left as an orphan
(R57, R61), whose cause is given before the closes it frees by the model's choice (log entry 68). Each S1 hit gives its id notice. -/
def Obligations.StripHits : Prop :=
  (∀ (l : Lane) (h : Hit) (s : State),
     let t := takeS2 l h s
     let window : FifoEntry → Bool := fun e =>
       let st := s.settingsOf e.gen
       let x := st.site.stripSpacing[l] * 100000
       let dt := (h.start - e.start).toNat
       decide ((x + max st.asm.vMax 1 - 1) / max st.asm.vMax 1 ≤ dt ∧ dt ≤ x / max st.asm.vPairMin 1)
     (∀ e, s.las[l].fifo.find? window = some e →
       let v := (s.settingsOf e.gen).site.stripSpacing[l] * 100000 / max (h.start - e.start).toNat 1
       t.las[l].fifo = s.las[l].fifo.eraseP window ∧ t.las[l].vref = some v ∧ t.las[l].silentS1 = 0 ∧ t.las[l].silentS2 = 0 ∧
       t = completeCloses l (idNotice (s2Chan l) h.start (match e.owner with | .recorded id => id | _ => 0) { s with
         las := put s.las l { s.las[l] with fifo := s.las[l].fifo.eraseP window, vref := some v, silentS1 := 0, silentS2 := 0 }
         rtb := { s.rtb with pool := match e.owner, e.axle with
           | .recorded id, some n => s.rtb.pool.map fun r => if r.id == id then
               { r with axles := r.axles.modify (n - 1) fun a =>
                   { a with s2Area := some h.area, speed := some v, source := .paired } } else r
           | _, _ => s.rtb.pool } })) ∧
     (s.las[l].fifo.find? window = none →
       let run := min (s.las[l].silentS1 + 1) 255
       let noticed : TrsState := { s.trs with notice := put s.trs.notice (s2Chan l) (some (h.start, 0)) }
       t.las = put s.las l { s.las[l] with silentS1 := run } ∧ t.rtb = s.rtb ∧ t.dkc = s.dkc ∧
       t.trs = (match s.trs.ring.reverse.find? (·.chan == s2Chan l) with
         | some x => if x.start = h.start ∧ x.vehicle = 0 then s.trs else noticed
         | none => noticed) ∧
       t.cmn.conds = put s.cmn.conds (silentIx (s1Chan l))
         (causedEntry (decide (4 ≤ run)) s.tbu.time s.cmn.conds[silentIx (s1Chan l)]))) ∧
  (∀ (l : Lane) (h : Hit) (s : State),
     let t := takeS1 l h s
     let opens : Nat → Bool → State → Prop := fun n covered y =>
       (y.rtb.pool.length < 48 →
         t.rtb.pool = y.rtb.pool ++ [{ freshRecord y.rtb.nextId l y.sst.liveGen h.start h.area with
           axles := [⟨h.start, h.area, none, none, none, none, none, .paired, none, none⟩] }] ∧
         t.rtb.nextId = (if y.rtb.nextId = 4294967295 then 1 else y.rtb.nextId + 1) ∧
         t.rtb.history = (if y.rtb.nextId = 4294967295 then [] else y.rtb.history) ∧
         t.las[l].fifo = y.las[l].fifo ++ [⟨h.start, h.area, .recorded y.rtb.nextId, some 1, y.sst.liveGen, n, false⟩] ∧
         t.las[l].openVeh = some ⟨n, .recorded y.rtb.nextId, covered, h.start, h.start, h.taken, y.sst.liveGen⟩ ∧
         t.trs = (idNotice (s1Chan l) h.start y.rtb.nextId y).trs) ∧
       (48 ≤ y.rtb.pool.length →
         t.rtb = y.rtb ∧
         t.las[l].fifo = y.las[l].fifo ++ [⟨h.start, h.area, .unrecorded, none, y.sst.liveGen, n, false⟩] ∧
         t.las[l].openVeh = some ⟨n, .unrecorded, covered, h.start, h.start, h.taken, y.sst.liveGen⟩ ∧
         t.cmn.conds = put y.cmn.conds (tableFullIx l) (causedEntry true y.tbu.time y.cmn.conds[tableFullIx l]) ∧
         t.trs = (idNotice (s1Chan l) h.start 0 y).trs) ∧
       (∀ k : Lane, k ≠ l → t.las[k] = y.las[k]) ∧ t.las[l].sealed = y.las[l].sealed ∧ t.dkc = y.dkc
     (s.las[l].fifo.length < 4 → s.las[l].openVeh = none → opens s.las[l].nextVeh false s) ∧
     (∀ w, s.las[l].fifo.length < 4 → s.las[l].openVeh = some w →
       let st := s.settingsOf w.gen
       let vref := max (s.las[l].vref.getD st.asm.vNominal) 1
       let apart := (h.start - h.prev.getD w.lastStart).toNat
       let limit := st.asm.splitGap * 100000 / vref
       let joins : Nat → Option Nat → (VRecord → VRecord) → Prop := fun id axle f =>
         t = idNotice (s1Chan l) h.start id { s with
           las := put s.las l { s.las[l] with
             fifo := s.las[l].fifo ++ [⟨h.start, h.area, w.owner, axle, w.gen, w.veh, false⟩]
             openVeh := some { w with lastStart := h.start, lastTaken := h.taken } }
           rtb := { s.rtb with pool := s.rtb.pool.map fun r => if r.id == id then f r else r } }
       (w.owner = .noRecord → opens w.veh w.loopCovered s) ∧
       (w.owner ≠ .noRecord → limit < apart →
         let y : State := { s with las := put s.las l { s.las[l] with
           openVeh := none, sealed := s.las[l].sealed ++ [⟨w.veh, w.owner, w.gen⟩] } }
         opens s.las[l].nextVeh w.loopCovered (completeCloses l y) ∧
         ((∀ v ∈ y.las[l].sealed, ∃ e ∈ s.las[l].fifo, e.veh = v.veh) → opens s.las[l].nextVeh w.loopCovered y)) ∧
       (∀ id r, w.owner = .recorded id → findRec s id = some r → apart ≤ limit →
         (r.axles.length < 12 → joins id (some (r.axles.length + 1)) fun x => { x with
           axles := x.axles ++ [⟨h.start, h.area, none, none, none, none, none, .paired, none, none⟩] }) ∧
         (12 ≤ r.axles.length → joins id none fun x => { x with reasons := { x.reasons with truncated := true } })) ∧
       (w.owner = .unrecorded → apart ≤ limit → t = idNotice (s1Chan l) h.start 0 { s with
         las := put s.las l { s.las[l] with
           fifo := s.las[l].fifo ++ [⟨h.start, h.area, .unrecorded, none, w.gen, w.veh, false⟩]
           openVeh := some { w with lastStart := h.start, lastTaken := h.taken } } })) ∧
     (∀ e es, s.las[l].fifo = e :: es → es.length = 3 →
       let run := min (s.las[l].silentS2 + 1) 255
       let ce := causedEntry (decide (4 ≤ run)) s.tbu.time s.cmn.conds[silentIx (s2Chan l)]
       ∃ y, PlacedFrom (changeReports (silentIx (s2Chan l)) ce s) (withEntry (silentIx (s2Chan l)) ce { s with
           las := put s.las l { s.las[l] with fifo := es, silentS2 := run }
           rtb := { s.rtb with pool := match e.owner, e.axle with
             | .recorded id, some n => s.rtb.pool.map fun r => if r.id == id then
                 { r with
                   axles := r.axles.modify (n - 1) fun a => { a with s2Area := none, source := .substitute, speed := none }
                   flags := { r.flags with orphan := true } } else r
             | _, _ => s.rtb.pool } }) y ∧
         t = takeS1 l h (completeCloses l y)))

/-- CLOSE_GAP_EXPIRY: an open vehicle that holds an S1 hit, and is not loop-covered or whose P loop is out of service, is sealed when
CLOSE_GAP of its generation has passed since its latest S1 hit was taken (R68); the pairing FIFO is untouched. It joins the sealed vehicles
at their end, and the closes of those with no FIFO entry left are completed in opening order (R69); while each has one nothing else
happens. Each such vehicle leaves the sealed vehicles. An unrecorded one ends there. A record takes the speeds of its substitute axles, each
that of the paired axle nearest by number, the earlier on a tie, or 0 with none, its own speed, that of its first paired axle or 0, and its
close readings: the fresh temperature, the overdue grades of both strips, the lane mode (R75); it then passes to the straddle check (R70). -/
def Obligations.CloseGapSeals : Prop :=
  (∀ (l : Lane) (v : OpenVehicle) (s : State),
    s.las[l].openVeh = some v → v.owner ≠ .noRecord → (v.loopCovered = false ∨ inService s (pLoop l) = false) →
    (s.settingsOf v.gen).asm.closeGap * 100 ≤ (s.tbu.time - v.lastTaken).toNat →
    let sealed := s.las[l].sealed ++ [⟨v.veh, v.owner, v.gen⟩]
    let y : State := { s with las := put s.las l { s.las[l] with openVeh := none, sealed := sealed } }
    ∃ t, exec (.closeGapExpiry l) s = .next t ∧ Formed t ∧ t.las[l].openVeh = none ∧ t.las[l].fifo = s.las[l].fifo ∧
      FormedFrom (completeCloses l y) t ∧
      ((∀ v ∈ sealed, ∃ e ∈ s.las[l].fifo, e.veh = v.veh) → FormedFrom y t) ∧
      (s.las[l].sealed = [] → (∀ e ∈ s.las[l].fifo, e.veh ≠ v.veh) → v.owner = .unrecorded →
        FormedFrom { s with las := put s.las l { s.las[l] with openVeh := none } } t)) ∧
  (∀ (l : Lane) (s : State),
    let held : SealedVehicle → Bool := fun v => s.las[l].fifo.any (·.veh == v.veh)
    let y : State := { s with las := put s.las l { s.las[l] with sealed := s.las[l].sealed.filter held } }
    ((∀ v ∈ s.las[l].sealed, held v = true) → completeCloses l s = s) ∧
    (∀ v, s.las[l].sealed.filter (!held ·) = [v] → completeCloses l s = completeClose y v) ∧
    (∀ v w, s.las[l].sealed.filter (!held ·) = [v, w] → completeCloses l s = completeClose (completeClose y v) w)) ∧
  (∀ (v : SealedVehicle) (s : State), v.owner = .unrecorded → completeClose s v = s) ∧
  (∀ (id : Nat) (v : SealedVehicle) (s : State), v.owner = .recorded id →
    let paired : Axle → Bool := fun a => a.source == .paired && a.speed.isSome
    ∃ f : VRecord → VRecord,
      completeClose s v = straddleCheck id { s with rtb := { s.rtb with
        pool := s.rtb.pool.map fun r => if r.id == id then f r else r } } ∧
      ∀ r : VRecord,
        f r = { r with
          axles := (f r).axles
          speed := some (((r.axles.find? paired).bind (·.speed)).getD 0)
          reading := some
            { temp := if s.csq.temp.stale then none else s.csq.temp.value.map (·.1)
              overdue1 := s.zsc.chans[s1Chan r.lane].grade != .fresh
              overdue2 := s.zsc.chans[s2Chan r.lane].grade != .fresh
              mode := laneModeOf s r.lane } } ∧
        (f r).axles.length = r.axles.length ∧
        ∀ i : Fin r.axles.length, ∀ b ∈ (f r).axles[i.val]?,
          let away : Fin r.axles.length → Nat := fun j => max i.val j.val - min i.val j.val
          (r.axles[i].source = .paired → b = r.axles[i]) ∧
          (r.axles[i].source = .substitute → b = { r.axles[i] with speed := b.speed } ∧
            ((∀ a ∈ r.axles, a.source = .substitute) → b.speed = some 0) ∧
            (∀ j : Fin r.axles.length, r.axles[j].source = .paired → ∃ k : Fin r.axles.length, r.axles[k].source = .paired ∧
              b.speed = some (r.axles[k].speed.getD 0) ∧
              ∀ m : Fin r.axles.length, r.axles[m].source = .paired → away k < away m ∨ (away k = away m ∧ k ≤ m))))

/-- STRADDLE_WAIT_EXPIRY: when STRADDLE_WAIT of its generation has passed since its wait start, a PENDING record leaves the pending lists
and is decided alone with STRADDLE_SUSPECT, its decision time the present time; where it has closed already at its decision it has left
the pool. The record it awaited, while in the pool, is flagged STRADDLE_SUSPECT (R71). -/
def Obligations.StraddleWaitDecides : Prop :=
  ∀ (id : Nat) (p : PendingRecord) (r : VRecord) (s : State),
    pendingEntry s id = some p → findRec s id = some r →
    (s.settingsOf r.gen).asm.straddleWait * 100 ≤ (s.tbu.time - p.waitStart).toNat →
    ∃ t, exec (.straddleWaitExpiry id) s = .next t ∧ Formed t ∧ pendingEntry t id = none ∧
      (∀ r', findRec t id = some r' →
        r'.st = .decided ∧ r'.flags.straddleSuspect = true ∧ r'.decTime = some s.tbu.time ∧ r'.decision.isSome = true) ∧
      (∀ x, p.awaits ≠ id → findRec t p.awaits = some x → x.flags.straddleSuspect = true) ∧
      t.liu = s.liu ∧ t.csq = s.csq ∧ t.scu = s.scu ∧ t.zsc = s.zsc ∧ t.tbu = s.tbu ∧ t.rtk = s.rtk ∧ t.sst.live = s.sst.live

/-! ### Weighing and deciding -/

/-- The weighing of a record under its settings and close readings (R77 to R83): Cf by Table 6-2, the effective factors, the strip loads
with their clamp at 50,000, the axle loads by Table 6-3, and the flags TEMP_STALE, SATURATED, DISAGREE, LOW_SPEED and ACCEL, set exactly
where the rules set them and kept where set; nothing else of the record changes. Where both strip loads are there an axle gives an
agreement sample, in axle order (R81). The later stages (R85 to R91): spacings, groups of at most three within GROUP_GAP, the gross, the
quality, ZERO_OVERDUE at every B record with an overdue channel, also where another ground brings it to B, by the model's choice (log entry
69), and the upper gross; nothing else changes. An agreement sample joins
the lane's last 16: with 2 or fewer disagreements among them STRIP_DISAGREE takes its clear notice, otherwise a disagreement gives a
cause, a fault cause from 6 (R158). A record of the pool that is handed on is weighed whole before it is decided (R92): it stands with the
later stages over its weighing to axle loads under the settings of its own generation and its close readings, its agreement samples have been
given to its lane in axle order, nothing else is changed, and then it is decided. A record decided alone is that with STRADDLE_SUSPECT, out of the
pending lists (R70, R71). -/
def Obligations.WeighingRules : Prop :=
  (∀ (st : Settings) (c : CloseReading) (r : VRecord),
    let q : Nat → Int := fun i => ((st.weigh.tempQ.toList.getD i 4096 : Nat) : Int)
    let cf := tempFactor st c.temp
    let factor : Chan → Option Nat := fun ch => st.weigh.fch[ch].map fun f => min (max (f * cf / 4096) 1) 1048575
    let f1 := factor (s1Chan r.lane)
    let f2 := factor (s2Chan r.lane)
    let formed : Nat → Nat → Nat → Nat := fun area v f => area * v * f / 2 ^ 36
    let apart : Nat → Nat → Nat := fun a b => max a b - min a b
    let w := weighToAxles st c r
    let paired := r.axles.filterMap fun a => if a.source = .paired then a.speed else none
    (c.temp = none → cf = 4096) ∧
    (∀ T, c.temp = some T →
      (T < -200 → (cf : Int) = q 0) ∧ (600 ≤ T → (cf : Int) = q 8) ∧
      (-200 ≤ T → T < 600 →
        let i := (T + 200) / 100
        (cf : Int) = q i.toNat + Int.fdiv ((q (i.toNat + 1) - q i.toNat) * (T - (100 * i - 200))) 100)) ∧
    w.axles.length = r.axles.length ∧
    (∀ p ∈ r.axles.zip w.axles,
      let a := p.1
      let b := p.2
      let v := a.speed.getD 0
      b = { a with w1 := b.w1, w2 := b.w2, load := b.load } ∧
      b.w1 = (if v = 0 then none else f1.map fun f => min (formed a.s1Area v f) 50000) ∧
      b.w2 = (if v = 0 then none else a.s2Area.bind fun area => f2.map fun f => min (formed area v f) 50000) ∧
      (∀ x, b.w1 = some x → ∀ y, b.w2 = some y → b.load = some
        (if apart x y * 1000 ≤ st.weigh.agreePm * max x y then (x + y) / 2 else max x y)) ∧
      (∀ x, b.w1 = some x → b.w2 = none → b.load = some x) ∧ (b.w1 = none → b.w2 = none → b.load = some 0)) ∧
    (w.flags.tempStale = true ↔ r.flags.tempStale = true ∨ c.temp = none) ∧
    (w.flags.saturated = true ↔ r.flags.saturated = true ∨ ∃ a ∈ r.axles, a.speed.getD 0 ≠ 0 ∧
      ((∃ f ∈ f1, 50000 < formed a.s1Area (a.speed.getD 0) f) ∨
        ∃ area ∈ a.s2Area, ∃ f ∈ f2, 50000 < formed area (a.speed.getD 0) f)) ∧
    (w.flags.disagree = true ↔ r.flags.disagree = true ∨
      ∃ b ∈ w.axles, ∃ x ∈ b.w1, ∃ y ∈ b.w2, st.weigh.agreePm * max x y < apart x y * 1000) ∧
    (w.flags.lowSpeed = true ↔ r.flags.lowSpeed = true ∨
      ∃ a ∈ r.axles, 1 ≤ a.speed.getD 0 ∧ a.speed.getD 0 < st.weigh.vLow) ∧
    (w.flags.accel = true ↔ r.flags.accel = true ∨ (2 ≤ paired.length ∧
      st.weigh.accelPct * paired.headD 0 < apart (paired.getLastD 0) (paired.headD 0) * 100)) ∧
    w = { r with
      axles := w.axles
      flags := { r.flags with
        tempStale := w.flags.tempStale, saturated := w.flags.saturated, disagree := w.flags.disagree,
        lowSpeed := w.flags.lowSpeed, accel := w.flags.accel } } ∧
    agreementSamples st w = w.axles.filterMap fun b => b.w1.bind fun x => b.w2.map fun y =>
      decide (apart x y * 1000 ≤ st.weigh.agreePm * max x y)) ∧
  (∀ (st : Settings) (c : CloseReading) (r : VRecord),
    let z := finishWeighing st c r
    let gross := (r.axles.map fun a => a.load.getD 0).sum
    let useless := (∀ a ∈ r.axles, a.source ≠ .paired) ∨ r.reasons.truncated = true ∨ c.mode = .blanket
    let overdue := c.overdue1 = true ∨ c.overdue2 = true
    let f := r.flags
    let doubt := f.lowSpeed = true ∨ f.disagree = true ∨ f.orphan = true ∨ f.accel = true ∨ f.tempStale = true ∨
      f.straddleMerged = true ∨ f.straddleSuspect = true ∨ overdue ∨ c.mode = .degraded
    let bare : List Axle → List Axle := fun as => as.map fun a => { a with spacing := none, group := none }
    bare z.axles = bare r.axles ∧
    (∀ a ∈ z.axles.head?, a.spacing = none ∧ a.group = some 1) ∧
    (∀ i : Fin z.axles.length, ∀ b ∈ z.axles[i.val + 1]?,
      let a := z.axles[i]
      let spacing := (b.s1Start - a.s1Start).toNat * b.speed.getD 0 / 100000
      let size := (z.axles.take (i.val + 1)).countP (·.group == a.group)
      b.spacing = some spacing ∧
      b.group = if spacing ≤ st.weigh.groupGap ∧ size < 3 then a.group else a.group.map (· + 1)) ∧
    z.quality = some (if useless then .u else if doubt then .b else .a) ∧
    (z.flags.zeroOverdue = true ↔ f.zeroOverdue = true ∨ (¬ useless ∧ overdue)) ∧
    z = { r with
      axles := z.axles, gross := some gross, quality := z.quality,
      upper := some (gross + gross * (if z.quality = some .a then st.weigh.marginA else st.weigh.marginB) / 1000)
      flags := { f with zeroOverdue := z.flags.zeroOverdue } }) ∧
  (∀ (l : Lane) (agree : Bool) (s : State),
    let win := keepNewest 16 (s.cmn.windows[l] ++ [agree])
    let dis := win.countP (!·)
    let old := s.cmn.conds[disagreeIx l]
    let e := if dis ≤ 2 then clearedEntry s.tbu.time old else if agree then old
      else causedEntry (decide (6 ≤ dis)) s.tbu.time old
    PlacedFrom (changeReports (disagreeIx l) e s)
      (withEntry (disagreeIx l) e { s with cmn := { s.cmn with windows := put s.cmn.windows l win } }) (agreementSample l agree s)) ∧
  (∀ (id : Nat) (c : CloseReading) (r : VRecord) (s : State), findRec s id = some r → r.reading = some c →
    let st := s.settingsOf r.gen
    let w := weighToAxles st c r
    let y := (agreementSamples st w).foldl (fun x agree => agreementSample r.lane agree x) s
    weighAndDecide id s = decideRecord id { y with rtb := { y.rtb with
      pool := s.rtb.pool.map fun x => if x.id == id then finishWeighing st c w else x } }) ∧
  (∀ (id : Nat) (s : State), decideSuspect id s = weighAndDecide id { s with
    las := mapVec (fun a => { a with pendingList := a.pendingList.filter (·.id != id) }) s.las
    rtb := { s.rtb with pool := s.rtb.pool.map fun x => if x.id == id then
      { x with flags := { x.flags with straddleSuspect := true } } else x } })

/-- The class of a record (R96 to R98): gap position j has the code of the spacing of axle j + 1 by GAP_B1 to GAP_B3, 0 where there is none; a
valid entry matches where its axle range holds the axle count and its mask accepts the code against the pattern at all eight positions;
the first that matches gives class, limit row and heavy flag, and 255, row 0, heavy stand where none does or the speed is 0.
The decision of a weighed record (R99 to R101). Quality U: DIVERT where the record is TRUNCATED, its reasons kept; otherwise DIVERT from
U_DIVERT_AXLES axles on and PASS_LIGHT below, with UNWEIGHED. Quality A and B: DIVERT exactly where the upper gross or an upper group
load exceeds its limit, each of GROSS, AXLE, TANDEM and TRIDEM being set exactly where its own limit is exceeded, beside the reasons held;
otherwise PASS_HEAVY exactly where the class is heavy or the upper gross reaches HEAVY_THRESHOLD, and otherwise PASS_LIGHT. -/
def Obligations.DecisionRules : Prop :=
  (∀ (st : Settings) (r : VRecord),
    let code : Nat → Nat := fun spacing =>
      if spacing < st.dec.gapB1 then 0 else if spacing < st.dec.gapB2 then 1 else if spacing < st.dec.gapB3 then 2 else 3
    let gap : Fin 8 → Nat := fun j => ((r.axles[j.val + 1]?.bind (·.spacing)).map code).getD 0
    let accepts : ClassEntry → Fin 8 → Prop := fun e j =>
      let p := e.pattern[j]
      e.mask[j] = 0 ∨ (e.mask[j] = 1 ∧ gap j % 2 = p % 2) ∨ (e.mask[j] = 2 ∧ gap j / 2 = p / 2) ∨ (3 ≤ e.mask[j] ∧ gap j = p)
    let fits : ClassEntry → Prop := fun e =>
      e.valid = true ∧ e.axMin ≤ r.axles.length ∧ r.axles.length ≤ e.axMax ∧ ∀ j : Fin 8, accepts e j
    (r.speed.getD 0 = 0 ∨ (∀ i : Fin 16, ¬ fits st.dec.classTable[i]) → classOf st r = (255, 0, true)) ∧
    (∀ i : Fin 16, r.speed.getD 0 ≠ 0 → fits st.dec.classTable[i] → (∀ k : Fin 16, k < i → ¬ fits st.dec.classTable[k]) →
      classOf st r = (i.val, st.dec.classTable[i].row, st.dec.classTable[i].heavy))) ∧
  (∀ (st : Settings) (row : Fin 8) (heavy : Bool) (r : VRecord),
    let out := decideOf st row heavy r
    let lim := st.dec.limitRows[row]
    let m := marginOf st (r.quality.getD .u)
    let exceeds : Nat → Nat → Prop := fun size limit => ∃ g ∈ groupNumbers r.axles, groupSize r.axles g = size ∧
      limit < upperOf m (groupLoad r.axles g)
    (r.quality = some .u →
      (r.reasons.truncated = true → out = (.divert, r.reasons)) ∧
      (r.reasons.truncated = false → out.2 = { r.reasons with unweighed := true } ∧
        (out.1 = .divert ↔ st.dec.uDivertAxles ≤ r.axles.length) ∧ out.1 ≠ .passHeavy)) ∧
    (r.quality = some .a ∨ r.quality = some .b →
      (out.1 = .divert ↔ lim.gross < r.upper.getD 0 ∨ exceeds 1 lim.single ∨ exceeds 2 lim.tandem ∨ exceeds 3 lim.tridem) ∧
      (out.1 = .passHeavy ↔ out.1 ≠ .divert ∧ (heavy = true ∨ st.dec.heavyThreshold ≤ r.upper.getD 0)) ∧
      (out.2.gross = true ↔ r.reasons.gross = true ∨ lim.gross < r.upper.getD 0) ∧
      (out.2.axle = true ↔ r.reasons.axle = true ∨ exceeds 1 lim.single) ∧
      (out.2.tandem = true ↔ r.reasons.tandem = true ∨ exceeds 2 lim.tandem) ∧
      (out.2.tridem = true ↔ r.reasons.tridem = true ∨ exceeds 3 lim.tridem) ∧
      out.2 = { r.reasons with gross := out.2.gross, axle := out.2.axle, tandem := out.2.tandem, tridem := out.2.tridem }))

/-- The decision of a record of the pool while TRACK_TTL has not passed since its weigh time (R95, R102, R118). A provisional PASS_HEAVY is offered
to the deck: it joins an admission queue of fewer than 16 as QUEUED, and the deck goes on from there (R132); a full queue refuses it, and
the decision becomes DIVERT with QUEUE_FULL. The record is DECIDED with its class, decision, reasons, decision time and windows (Table 8-7),
LATE where the expected time at the sign has passed (R103); it enters its lane's approach list after every record not weighed later and before
the first weighed later (R115), and leaves the pending lists; its VEHICLE report is placed (R126); its lane's counters are raised (R165); a DIVERT holds the trace ring under HOLD_ON_DIVERT with a TRACE_HELD
report (R169) and starts the lane's camera pulse (R107); an unfrozen snapshot takes it with the fields of Table 7-7 (R108). But for the offer
the deck is not touched. Where TRACK_TTL has passed the record expires at its decision, LOST or DIVERT_ASSUMED (R118; the latch of that test is log
entry 65). That the VEHICLE report shows the admission after the examination that the offer brings is the model's reading (log entry 13), and
VEHICLE before TRACE_HELD, which R95 leaves open, its choice (log entry 56). -/
def Obligations.DecisionIsWritten : Prop :=
  (∀ (id : Nat) (r : VRecord) (s : State), findRec s id = some r → r.outlived = false →
    (s.tbu.time - r.weighTime).toNat < s.sst.live.track.trackTtl * 100000 →
    let cls := classOf (s.settingsOf r.gen) r
    let first := decideOf (s.settingsOf r.gen) cls.2.1 cls.2.2 r
    let offered := first.1 = .passHeavy
    let full := offered ∧ 16 ≤ s.dkc.queue.length
    let queued : State := { s with
      rtb := { s.rtb with pool := s.rtb.pool.map fun x => if x.id == id then { x with admission := .queued } else x }
      dkc := { s.dkc with queue := s.dkc.queue ++ [id] } }
    let y : State := if offered ∧ ¬ full then deckReview queued else s
    let d : Decision := if full then .divert else first.1
    let speed := r.speed.getD 0
    let vn := if speed = 0 then s.sst.live.asm.vNominal else speed
    let signTime := r.weighTime + BitVec.ofNat 32 (s.sst.live.site.signDist[r.lane] * 100000 / max vn 1)
    let t := decideRecord id s
    ∀ r1, findRec y id = some r1 →
      let site := s.sst.live.site
      let track := s.sst.live.track
      let fast := max (min s.sst.live.asm.vMax (vn * (100 + track.fastPct) / 100)) 1
      let crawl := max track.vCrawl 1
      let windows : Windows :=
        { slipFrom := r.weighTime + BitVec.ofNat 32 (site.slipDist[r.lane] * 100000 / fast)
          slipTo := r.weighTime + BitVec.ofNat 32 ((site.slipDist[r.lane] * 100000 + crawl - 1) / crawl)
          threshFrom := r.weighTime + BitVec.ofNat 32 (site.threshDist[r.lane] * 100000 / fast)
          threshTo := r.weighTime + BitVec.ofNat 32 (track.trackTtl * 100000) }
      let r2 : VRecord := { r with
        admission := r1.admission
        cls := some cls.1
        decision := some d
        reasons := if full then { first.2 with queueFull := true } else first.2
        decTime := some s.tbu.time
        flags := { r.flags with late := r.flags.late || earlier signTime s.tbu.time }
        st := .decided
        windows := some windows
        reading := none }
      let report : Report := .vehicle
        { id := r2.id, lane := r2.lane, gen := r2.gen, weighTime := r2.weighTime, decTime := s.tbu.time, speed := speed,
          quality := r2.quality.getD .u, cls := cls.1, decision := d, reasons := r2.reasons, flags := r2.flags,
          admission := r2.admission, gross := r2.gross.getD 0, upper := r2.upper.getD 0, windows := windows,
          axles := r2.axles.map fun a => ⟨a.load.getD 0, a.source, a.spacing, a.group.getD 0⟩ }
      let holds := d = .divert ∧ s.sst.live.link.traceMode = .holdOnDivert ∧ s.trs.held = none
      t.rtb.pool = y.rtb.pool.map (fun x => if x.id == id then
        writeDecision cls.1 d r2.reasons s.sst.live s.tbu.time x else x) ∧
      findRec t id = some r2 ∧ pendingEntry t id = none ∧
      (∃ i ≤ y.rtb.approach[r.lane].length,
        let sooner := y.rtb.approach[r.lane].take i
        let later := y.rtb.approach[r.lane].drop i
        t.rtb.approach = put y.rtb.approach r.lane (sooner ++ id :: later) ∧
        (∀ k ∈ sooner, ∀ v, findRec y k = some v → earlier r.weighTime v.weighTime = false) ∧
        (∀ k ∈ later.head?, ∀ v, findRec y k = some v → earlier r.weighTime v.weighTime = true)) ∧
      Reported (report :: if holds then [.traceHeld r.id s.tbu.time ((s.trs.ring.getLast?.map (·.index)).getD 0)] else []) y t ∧
      t.trs = (if holds then { s.trs with held := some r.id } else s.trs) ∧
      t.cmn.lanes = put s.cmn.lanes r.lane
        (let c := s.cmn.lanes[r.lane]
         let diverted := c.diverted + (if d = .divert then 1 else 0)
         if r.quality = some .u ∨ r.quality = none then { c with unweighed := c.unweighed + 1, diverted := diverted }
         else { c with weighed := c.weighed + 1, diverted := diverted }) ∧
      t.dcu.camera = (if d = .divert ∧ r.lane.val < s.sst.live.site.laneCount then
        put s.dcu.camera r.lane (some (s.tbu.time + BitVec.ofNat 32 (s.sst.live.dec.camPulse * 100))) else s.dcu.camera) ∧
      t.dcu.snap = (if s.dcu.frozen.isSome then s.dcu.snap else put s.dcu.snap r.lane (some
        { id := r.id, weighTime := r.weighTime, decTime := s.tbu.time, decision := d, reasons := r2.reasons, quality := r.quality,
          cls := some cls.1, axleCount := r.axles.length, speed := speed, gross := r.gross, upper := r.upper, late := r2.flags.late })) ∧
      t.dkc = y.dkc ∧ t.rtb.history = y.rtb.history ∧ t.las.toList.map (·.fifo) = s.las.toList.map (·.fifo)) ∧
  (∀ (id : Nat) (r : VRecord) (s : State), findRec s id = some r →
    r.outlived = true ∨ s.sst.live.track.trackTtl * 100000 ≤ (s.tbu.time - r.weighTime).toNat →
    let cls := classOf (s.settingsOf r.gen) r
    let d := (decideOf (s.settingsOf r.gen) cls.2.1 cls.2.2 r).1
    let t := decideRecord id s
    findRec t id = none ∧ (∀ l : Lane, id ∉ t.rtb.approach[l]) ∧
    (d ≠ .passHeavy → r.admission = .none → s.rtb.pool.length + s.rtb.history.length ≤ 64 →
      ∃ z ∈ t.rtb.history, z.id = id ∧ z.closeTime = s.tbu.time ∧ z.decision = some d ∧
        z.disposition = if d = .divert ∧ inService s dLoop = false then .divertAssumed else .lost))

/-! ### Vehicle records and route tracking -/

/-- The close of a record (R116, R117, R127): it leaves the pool, the approach lists and the pending lists; its summary with the disposition
and the present time is inserted into the history ring; a DISPOSITION report is placed, and then each present lane's TABLE_FULL in FAULT takes
its clear notice where 4 or more slots are FREE after the close (R112, R154; the ascending order of several lanes is the model's choice, log
entry 52). The deck is not touched, and no other record. The ring of strictly ascending ids stays so, and holds what it held and the new summary
while there were fewer than 64; of 64 the lowest id leaves, and where the new id is lower than all held the ring is unchanged. -/
def Obligations.RecordCloses : Prop :=
  (∀ (id : Nat) (d : Disposition) (r : VRecord) (s : State), findRec s id = some r →
    let t := closeRecord id d s
    let x := summaryOf r d s.tbu.time
    t.rtb.pool = s.rtb.pool.filter (fun y => y.id != id) ∧
    (∀ l : Lane, t.rtb.approach[l] = s.rtb.approach[l].filter (· != id)) ∧
    (∀ l : Lane, t.las[l] = { s.las[l] with pendingList := s.las[l].pendingList.filter (·.id != id) }) ∧
    t.rtb.history = insertHistory x s.rtb.history ∧ t.dkc = s.dkc ∧ t.rtb.nextId = s.rtb.nextId ∧
    (let free := 48 - t.rtb.pool.length
     let ended : Lane → CondEntry := fun l =>
       let e := s.cmn.conds[tableFullIx l]
       if 4 ≤ free ∧ l.val < s.sst.live.site.laneCount ∧ e.st = .fault then clearedEntry s.tbu.time e else e
     (∀ l : Lane, t.cmn.conds[tableFullIx l] = ended l) ∧
     (∀ ix : CondIx, (∀ l : Lane, ix ≠ tableFullIx l) → t.cmn.conds[ix] = s.cmn.conds[ix]) ∧
     Reported (.disposition ⟨r.id, r.lane, d, s.tbu.time, r.decision, r.deckLane, r.admission⟩ ::
       allLanes.flatMap fun l => changeReports (tableFullIx l) (ended l) s) s t)) ∧
  (∀ (x : Summary) (ring : List Summary), ring.length ≤ 64 → ring.Pairwise (fun a b => a.id < b.id) → (∀ y ∈ ring, y.id ≠ x.id) →
    let ring' := insertHistory x ring
    ring'.Pairwise (fun a b => a.id < b.id) ∧
    (ring.length < 64 → ring'.length = ring.length + 1 ∧ ∀ y, y ∈ ring' ↔ y = x ∨ y ∈ ring) ∧
    (ring.length = 64 → (∀ y ∈ ring, x.id < y.id) → ring' = ring) ∧
    (∀ low others, ring.length = 64 → ring = low :: others → low.id < x.id →
      ring'.length = 64 ∧ ∀ y, y ∈ ring' ↔ y = x ∨ y ∈ others))

/-- RECORD_EXPIRY: a DECIDED record whose expiry time is reached leaves the pool and every approach list (R124). It is closed DIVERT_ASSUMED
for a DIVERT while the D loop is out of service, LOST otherwise, its summary carrying the admission as it stood (R120). Before the close a
QUEUED record leaves the admission queue, and a GRANTED one's grant ends, its reserved load leaving the committed load and its grant time
staying in the list (R120, R135), with the review of the deck that this brings (R134); a record of another admission is not withdrawn and
the deck is not touched. -/
def Obligations.RecordExpires : Prop :=
  ∀ (id : Nat) (r : VRecord) (w : Windows) (s : State),
    findRec s id = some r → r.st = .decided → r.windows = some w → earlier s.tbu.time w.threshTo = false →
    let d : Disposition := if r.decision = some .divert ∧ inService s dLoop = false then .divertAssumed else .lost
    ∃ t, exec (.recordExpiry id) s = .next t ∧ Formed t ∧ findRec t id = none ∧ (∀ l : Lane, id ∉ t.rtb.approach[l]) ∧
      (r.admission = .queued → FormedFrom
        (closeRecord id d (deckReview { s with dkc := { s.dkc with queue := s.dkc.queue.filter (· != id) } })) t) ∧
      (∀ g, r.admission = .granted → s.dkc.grants.find? (·.id == id) = some g → FormedFrom
        (closeRecord id d (deckReview { s with dkc := { s.dkc with
          grants := s.dkc.grants.eraseP (·.id == id), committed := s.dkc.committed - g.load } })) t) ∧
      (r.admission ≠ .queued → r.admission ≠ .granted →
        sansOutputs { t with cmn := s.cmn, lki := s.lki } = sansOutputs { s with
          rtb := { s.rtb with
            pool := s.rtb.pool.filter (fun y => y.id != id)
            approach := mapVec (fun ids => ids.filter (· != id)) s.rtb.approach
            history := insertHistory (summaryOf r d s.tbu.time) s.rtb.history }
          las := mapVec (fun a => { a with pendingList := a.pendingList.filter (·.id != id) }) s.las })

/-- A D ARRIVE takes a record of an approach list whose slip window contains its time: the oldest DIVERT one where there is any, otherwise the
oldest; with none it changes nothing (R119). The record taken leaves the pool; a DIVERT one, closed DIVERTED, leaves the deck untouched.
Another is closed EXITED: before that a QUEUED one leaves the admission queue, and a GRANTED one's grant ends, its reserved load leaving the
committed load and its grant time staying in the list (R120, R135), with the review of the deck that this brings (R134). -/
def Obligations.SlipArrivalTakesOldest : Prop :=
  ∀ (time : Time) (s : State),
    let waiting : VRecord → Prop := fun r => ∃ l : Lane, ∃ id ∈ s.rtb.approach[l], findRec s id = some r
    let fits : VRecord → Prop := fun r => waiting r ∧ ∃ w, r.windows = some w ∧
      (time - w.slipFrom).toNat ≤ (w.slipTo - w.slipFrom).toNat
    ((∀ r, ¬ fits r) → slipArrive time s = s) ∧
    ((∃ r, fits r) → ∃ r, slipTaken s time = some r ∧ fits r ∧
      ((∃ r', fits r' ∧ r'.decision = some .divert) → r.decision = some .divert) ∧
      (∀ r', fits r' → (r'.decision = some .divert ↔ r.decision = some .divert) →
        (s.tbu.time - r'.weighTime).toNat ≤ (s.tbu.time - r.weighTime).toNat) ∧
      findRec (slipArrive time s) r.id = none ∧
      (r.decision = some .divert → slipArrive time s = closeRecord r.id .diverted s ∧ (slipArrive time s).dkc = s.dkc) ∧
      (r.decision ≠ some .divert →
        (r.admission = .queued → slipArrive time s = closeRecord r.id .exited
          (deckReview { s with dkc := { s.dkc with queue := s.dkc.queue.filter (· != r.id) } })) ∧
        (∀ g, r.admission = .granted → s.dkc.grants.find? (·.id == r.id) = some g → slipArrive time s = closeRecord r.id .exited
          (deckReview { s with dkc := { s.dkc with
            grants := s.dkc.grants.eraseP (·.id == r.id), committed := s.dkc.committed - g.load } })) ∧
        (r.admission ≠ .queued → r.admission ≠ .granted →
          slipArrive time s = closeRecord r.id .exited s ∧ (slipArrive time s).dkc = s.dkc)))

/-- An E_L ARRIVE matches the oldest record of lane L's approach list whose threshold window holds its time, failing that of the adjacent lanes'
lists, equal weigh times going to the lower lane and then the lower id (R121). Without one a PENDING ghost stands at the tail of lane L's deck
order list, marked and counted (R123, R137). A match stands at the tail (R122, R136): PASS_LIGHT as a LIGHT entry, the record closed ENTERED;
PASS_HEAVY GRANTED as a HEAVY entry of its reserved load, admitted, the grant ended and its load off the committed load, the admission USED;
another PASS_HEAVY of its upper gross, unadmitted and counted, out of the queue, UNADMITTED with its flag; DIVERT as a noncompliant HEAVY entry
with a NONCOMPLIANCE cause, which isolates an OPEN, OVERLOADED, RESTING or BLIND deck, a resync being owed from BLIND (R142, R145). A record so
entered is ON_DECK with deck lane L and in no approach list; further grants go to the queue's head alone. An entry that becomes head already older
than DECK_OVERSTAY gives the cause (R140), by choice before the other notices of its entry (log entry 64). With 32 entries
nothing is appended (R138): a matched record is closed, ENTERED for PASS_LIGHT and FLUSHED otherwise, its queue place or grant ending;
DECK_DESYNC takes a fault cause; and the deck, unless CLOSED, enters RESYNC. Each change of deck state has its DECK report (R148): that of an
entry to OPEN or BLIND shows the account after the arbiter's examination by the model's reading (log entry 14), that of an entry to RESYNC or
BLIND after the flush by its choice (log entries 58 and 62); that of the overflow follows the record's close and the fault cause by its choice
too (log entry 25). -/
def Obligations.ThresholdArrivalEnters : Prop :=
  (∀ (l : Lane) (time : Time) (s : State),
    let age : VRecord → Nat := fun r => (s.tbu.time - r.weighTime).toNat
    let waits : Lane → VRecord → Prop := fun k r => (∃ id ∈ s.rtb.approach[k], findRec s id = some r) ∧
      ∃ w, r.windows = some w ∧ (time - w.threshFrom).toNat ≤ (w.threshTo - w.threshFrom).toNat
    let beside : VRecord → Prop := fun r => ∃ k : Lane, (k.val + 1 = l.val ∨ l.val + 1 = k.val) ∧
      k.val < s.sst.live.site.laneCount ∧ l.val < s.sst.live.site.laneCount ∧ waits k r
    let ahead : VRecord → VRecord → Prop := fun r x => age x < age r ∨
      (age x = age r ∧ (r.lane < x.lane ∨ (r.lane = x.lane ∧ r.id ≤ x.id)))
    ((∀ r, ¬ waits l r ∧ ¬ beside r) → thresholdTaken s l time = none) ∧
    (∀ r, waits l r → (∀ x, waits l x → ahead r x) → thresholdTaken s l time = some r) ∧
    (∀ r, (∀ x, ¬ waits l x) → beside r → (∀ x, beside x → ahead r x) → thresholdTaken s l time = some r)) ∧
  (∀ (l : Lane) (time : Time) (s : State), s.dkc.lists[l].length < 32 →
    let t := thresholdArrive l time s
    let placed : DeckSt → DeckCause → Prop := fun prev cause =>
      .deck ⟨t.dkc.st, some prev, cause, signalOf t, t.dkc.onDeck, t.dkc.committed, t.dkc.queue.length, s.tbu.time⟩ ∈ reportPath t
    let late := s.dkc.lists[l] = [] ∧ s.dkc.overstayGiven[l] = false ∧
      s.sst.live.deck.overstay * 100000 ≤ (s.tbu.time - time).toNat
    let o := if late then causedEntry false s.tbu.time s.cmn.conds[overstayIx l] else s.cmn.conds[overstayIx l]
    let entered : DeckEntry → (DeckSt → DeckCause → Prop) → Prop := fun e reported =>
      let lists := put s.dkc.lists l (s.dkc.lists[l] ++ [e])
      let onDeck := s.dkc.onDeck + (if e.kind = .heavy then e.load else 0)
      (s.dkc.st ≠ .isolated → t.dkc.lists = lists ∧ t.dkc.onDeck = onDeck ∧ t.cmn.conds[overstayIx l] = o ∧
        t.dkc.overstayGiven = if late then put s.dkc.overstayGiven l true else s.dkc.overstayGiven) ∧
      (s.dkc.st = .isolated → IsolatedAfter s lists onDeck reported t)
    let tail : DeckEntry → Prop := fun e => entered e (DeckReported · · t)
    let moved := s.dkc.st ≠ .isolated → t.dkc.st ≠ s.dkc.st →
      (s.dkc.st = .openDeck ∧ t.dkc.st = .overloaded ∧ DeckReported .openDeck .overload t) ∨
      (s.dkc.st = .overloaded ∧ t.dkc.st = .openDeck ∧ DeckReported .overloaded .overloadEnd t)
    let whole := s.dkc.st = .isolated → ∃ k : Lane, ∃ x ∈ s.dkc.lists[k], x.noncompliant = true
    let boarded : VRecord → Admission → Prop := fun r adm =>
      (∀ k : Lane, r.id ∉ t.rtb.approach[k]) ∧
      (r.id ∉ t.dkc.grants.map (·.id) → findRec t r.id = some { r with
        st := .onDeck, deckLane := some l, admission := adm
        flags := { r.flags with unadmitted := r.flags.unadmitted || adm == .unadmitted } })
    let account : List Grant → List Nat → Nat → Prop := fun grants queue committed => ∃ n ≤ queue.length,
      (t.dkc.grants.drop grants.length).map (·.id) = queue.take n ∧ t.dkc.grants.take grants.length = grants ∧
      t.dkc.queue = queue.drop n ∧ t.dkc.committed = committed + ((t.dkc.grants.drop grants.length).map (·.load)).sum
    (thresholdTaken s l time = none →
      tail ⟨.pending, none, time, 0, false, true, false, false, false⟩ ∧
      t.rtk.ghost = put s.rtk.ghost l true ∧ t.cmn.ghosts = s.cmn.ghosts + 1 ∧ moved) ∧
    (∀ r, thresholdTaken s l time = some r →
      (r.decision = some .passLight →
        entered ⟨.light, none, time, 0, false, false, false, false, false⟩ placed ∧
        findRec t r.id = none ∧ (∀ k : Lane, r.id ∉ t.rtb.approach[k]) ∧
        (s.rtb.pool.length + s.rtb.history.length ≤ 64 → whole → ∃ z ∈ t.rtb.history,
          z.id = r.id ∧ z.disposition = .entered ∧ z.deckLane = some l ∧ z.closeTime = s.tbu.time) ∧
        (s.dkc.st ≠ .isolated → t.dkc.st ≠ s.dkc.st →
          placed s.dkc.st (if t.dkc.st = .overloaded then .overload else .overloadEnd))) ∧
      (∀ g, r.decision = some .passHeavy → r.admission = .granted → s.dkc.grants.find? (·.id == r.id) = some g →
        tail ⟨.heavy, some r.id, time, g.load, true, false, false, false, false⟩ ∧
        t.cmn.unadmitted = s.cmn.unadmitted ∧ moved ∧
        (whole → boarded r .used ∧
          account (s.dkc.grants.eraseP (·.id == r.id)) s.dkc.queue (s.dkc.committed - g.load))) ∧
      (r.decision = some .passHeavy → r.admission ≠ .granted →
        tail ⟨.heavy, some r.id, time, r.upper.getD 0, false, false, false, false, false⟩ ∧
        t.cmn.unadmitted = s.cmn.unadmitted + 1 ∧ moved ∧
        (whole → boarded r .unadmitted ∧ account s.dkc.grants (s.dkc.queue.filter (· != r.id)) s.dkc.committed)) ∧
      (r.decision = some .divert →
        let load := if r.quality = some .a ∨ r.quality = some .b then r.upper.getD 0 else s.sst.live.deck.unknownLoad
        let e := causedEntry false s.tbu.time s.cmn.conds[noncomplianceIx l]
        tail ⟨.heavy, some r.id, time, load, false, false, true, false, false⟩ ∧
        boarded r .unadmitted ∧ t.dkc.grants = s.dkc.grants ∧ t.dkc.queue = s.dkc.queue ∧ t.dkc.committed = s.dkc.committed ∧
        t.cmn.unadmitted = s.cmn.unadmitted + 1 ∧
        t.cmn.lanes[r.lane].noncompliant = s.cmn.lanes[r.lane].noncompliant + 1 ∧
        t.cmn.conds = put (put s.cmn.conds (overstayIx l) o) (noncomplianceIx l) e ∧
        (s.dkc.st = .resync ∨ s.dkc.st = .closed ∨ s.dkc.st = .isolated → t.dkc.st = s.dkc.st ∧
          Reported (changeReports (overstayIx l) o s ++ changeReports (noncomplianceIx l) e s) s t) ∧
        (s.dkc.st ≠ .resync → s.dkc.st ≠ .closed → s.dkc.st ≠ .isolated →
          t.dkc.st = .isolated ∧ (s.dkc.st = .blind → t.dkc.resyncOwed = true) ∧
          DeckReported s.dkc.st .noncompliantEntry t)))) ∧
  (∀ (l : Lane) (time : Time) (s : State), 32 ≤ s.dkc.lists[l].length →
    let t := thresholdArrive l time s
    t.cmn.conds[desyncIx] = causedEntry true s.tbu.time s.cmn.conds[desyncIx] ∧ t.rtk = s.rtk ∧
    t.cmn.ghosts = s.cmn.ghosts ∧ t.cmn.unadmitted = s.cmn.unadmitted ∧ t.cmn.lanes = s.cmn.lanes ∧
    (s.dkc.st = .closed → t.dkc.st = .closed ∧ t.dkc.lists = s.dkc.lists ∧ t.dkc.onDeck = s.dkc.onDeck) ∧
    (s.dkc.st ≠ .closed →
      t.dkc.st = .resync ∧ t.dkc.lists = Vector.replicate 3 [] ∧ t.dkc.onDeck = 0 ∧ t.dkc.committed = 0 ∧ t.dkc.grants = [] ∧
      DeckReported s.dkc.st .listOverflow t) ∧
    (thresholdTaken s l time = none →
      (s.dkc.st = .closed →
        let e := causedEntry true s.tbu.time s.cmn.conds[desyncIx]
        PlacedFrom (changeReports desyncIx e s) (withEntry desyncIx e s) t) ∧
      (s.dkc.st ≠ .closed → t.dkc.queue = s.dkc.grants.map (·.id) ++ s.dkc.queue)) ∧
    (∀ r, thresholdTaken s l time = some r →
      findRec t r.id = none ∧ (∀ k : Lane, r.id ∉ t.rtb.approach[k]) ∧
      (s.rtb.pool.length + s.rtb.history.length ≤ 64 → ∃ z ∈ t.rtb.history, z.id = r.id ∧ z.deckLane = some l ∧
        z.closeTime = s.tbu.time ∧ z.disposition = if r.decision = some .passLight then .entered else .flushed) ∧
      (let grants := if r.admission = .granted then s.dkc.grants.eraseP (·.id == r.id) else s.dkc.grants
       let queue := if r.admission = .queued then s.dkc.queue.filter (· != r.id) else s.dkc.queue
       (s.dkc.st = .closed → t.dkc.grants = grants ∧ t.dkc.queue = queue) ∧
       (s.dkc.st ≠ .closed → t.dkc.queue = grants.map (·.id) ++ queue)) ∧
      (∀ g, s.dkc.st = .closed → r.admission = .granted → s.dkc.grants.find? (·.id == r.id) = some g →
        t.dkc.committed = s.dkc.committed - g.load)))

/-! ### The Deck Controller -/

/-- The verdict on lane L's open ghost at an E_L DEPART (R123, R137): an occupancy of GHOST_LONG or more makes the latest PENDING ghost a
HEAVY entry of load UNKNOWN_LOAD, counted unadmitted, and a shorter one makes it LIGHT; the mark is cleared; where the list holds no
PENDING ghost the verdict is disregarded, and a DEPART with no open ghost changes nothing. An ISOLATED deck stays so after a HEAVY verdict
while a noncompliant entry is on it, and otherwise moves on as R145 gives. That a DECK report of an entry to OPEN or BLIND shows the account
after the arbiter's examination is the model's reading (log entry 14), and that of an entry to RESYNC or BLIND after the flush its choice (log
entries 58 and 62). -/
def Obligations.GhostVerdict : Prop :=
  ∀ (l : Lane) (occupancy : Nat) (s : State),
    let t := thresholdDepart l occupancy s
    let ghost : DeckEntry → Bool := fun e => e.kind == .pending && e.ghost
    let long := decide (s.sst.live.track.ghostLong * 100 ≤ occupancy)
    let load := s.sst.live.deck.unknownLoad
    (s.rtk.ghost[l] = false → t = s) ∧
    (s.rtk.ghost[l] = true → t.rtk.ghost = put s.rtk.ghost l false ∧
      ((∀ e ∈ s.dkc.lists[l], ghost e = false) → t.dkc = s.dkc ∧ t.cmn = s.cmn) ∧
      (∀ older e newer, s.dkc.lists[l] = older ++ e :: newer → ghost e = true → (∀ x ∈ newer, ghost x = false) →
        let lists := put s.dkc.lists l (older ++ { e with
          kind := if long then .heavy else .light, load := if long then load else e.load } :: newer)
        let onDeck := s.dkc.onDeck + (if long then load else 0)
        (s.dkc.st ≠ .isolated ∨ long = false → t.dkc.lists = lists ∧ t.dkc.onDeck = onDeck) ∧
        (s.dkc.st = .isolated → long = false → t.dkc.st = .isolated) ∧
        (s.dkc.st = .isolated → long = true → IsolatedAfter s lists onDeck (DeckReported · · t) t) ∧
        t.cmn.unadmitted = s.cmn.unadmitted + (if long then 1 else 0)))

/-- An X_L ARRIVE removes the head of lane L's list, releasing a HEAVY head's load and closing the record it refers to, CLEARED or for a
noncompliant entry NONCOMPLIANT_CLEARED (R139); on an empty list it is disregarded in RESYNC and while an E or X loop of the lane is out of
service, and otherwise gives a DECK_DESYNC cause, a fault cause where it is the third within 60,000,000 ticks (R149, R157). Where that brings
the entry to FAULT a deck that is not CLOSED enters RESYNC with all its steps and a DECK report, cause DESYNC_FAULT (R143, R149). The first
clause is for a deck that is not ISOLATED, whose changes of state have their DECK report (R148). An ISOLATED deck stays so while a noncompliant
entry is left on it; with none left it goes to RESTING for REST_TIME, or with a REST_TIME of 0 on to what follows RESTING: BLIND, RESYNC,
OVERLOADED or OPEN, the first that applies (R145). Choices and readings of the model: a DECK report of an entry to OPEN or BLIND shows the
account after the arbiter's examination (log entry 14), that of an entry to RESYNC or BLIND after the flush (log entries 58 and 62), the DECK report
of an exit follows the DISPOSITION and the clear notices of the head's removal (log entry 57), and that of the third spurious exit the CONDITION
report of its cause (log entry 71). -/
def Obligations.ExitRemovesHead : Prop :=
  ∀ (l : Lane) (s : State),
    let t := exitArrive l s
    (∀ e es, s.dkc.lists[l] = e :: es → s.dkc.st ≠ .isolated →
      t.dkc.lists = put s.dkc.lists l es ∧
      t.dkc.onDeck = s.dkc.onDeck - (if e.kind = .heavy then e.load else 0) ∧
      (t.dkc.st ≠ s.dkc.st →
        (s.dkc.st = .openDeck ∧ t.dkc.st = .overloaded ∧ DeckReported .openDeck .overload t) ∨
        (s.dkc.st = .overloaded ∧ t.dkc.st = .openDeck ∧ DeckReported .overloaded .overloadEnd t)) ∧
      (∀ id r, e.recId = some id → findRec s id = some r → findRec t id = none ∧
        t.rtb.history = insertHistory
          (summaryOf r (if e.noncompliant then .noncompliantCleared else .cleared) s.tbu.time) s.rtb.history) ∧
      (e.recId = none → t.rtb.history = s.rtb.history)) ∧
    (∀ e es, s.dkc.lists[l] = e :: es → s.dkc.st = .isolated →
      (∀ id r, e.recId = some id → findRec s id = some r → findRec t id = none ∧
        (s.rtb.pool.length + s.rtb.history.length ≤ 64 → ∃ z ∈ t.rtb.history, z.id = id ∧ z.closeTime = s.tbu.time ∧
          z.disposition = if e.noncompliant then .noncompliantCleared else .cleared)) ∧
      IsolatedAfter s (put s.dkc.lists l es) (s.dkc.onDeck - (if e.kind = .heavy then e.load else 0)) (DeckReported · · t) t) ∧
    (s.dkc.lists[l] = [] →
      let spared := s.dkc.st = .resync ∨ inService s (eLoop l) = false ∨ inService s (xLoop l) = false
      (spared → t = s) ∧
      (¬ spared →
        let times : List StoredTime := List.drop (s.cmn.desyncTimes.length - 2) (s.cmn.desyncTimes ++ [⟨s.tbu.time, false⟩])
        let third := decide (times.length = 3) && times.head?.any fun o => !o.old && decide ((s.tbu.time - o.time).toNat < 60000000)
        let e := causedEntry third s.tbu.time s.cmn.conds[desyncIx]
        let y : State := withEntry desyncIx e { s with cmn.desyncTimes := times }
        let faulted := s.cmn.conds[desyncIx].st ≠ .fault ∧ e.st = .fault
        (¬ faulted ∨ s.dkc.st = .closed → PlacedFrom (changeReports desyncIx e s) y t) ∧
        (faulted → s.dkc.st ≠ .closed →
          t.dkc.st = .resync ∧ t.dkc.lists = Vector.replicate 3 [] ∧ t.dkc.onDeck = 0 ∧ t.dkc.committed = 0 ∧
          t.dkc.grants = [] ∧ t.dkc.queue = s.dkc.grants.map (·.id) ++ s.dkc.queue ∧ t.dkc.resyncOwed = false ∧
          t.dkc.grantTimes = s.dkc.grantTimes ∧ t.dkc.lastGrant = s.dkc.lastGrant ∧
          t.dkc.timer = some (s.tbu.time + BitVec.ofNat 32 (s.sst.live.deck.resyncTime * 100000)) ∧
          (∀ k : Lane, ∀ x ∈ s.dkc.lists[k], ∀ id, x.recId = some id → findRec t id = none) ∧
          (∀ g ∈ s.dkc.grants, ∀ v, findRec t g.id = some v → v.admission = .queued) ∧
          t.cmn.conds[desyncIx] = e ∧ t.cmn.desyncTimes = times ∧ DeckReported s.dkc.st .desyncFault t)))

/-- The flush of a list (R142): the list is emptied, its HEAVY loads released, each record it refers to closed FLUSHED, the overstay clear
notice given, and each noncompliant entry's id taken from the lane's NONCOMPLIANCE set. The blind condition holds exactly while an E or X
loop of a lane whose mode is not CLOSED is out of service (R142). Formed afresh (R142, R143, R146): where it does not change nothing
happens, but that while it holds a further loop's loss flushes the list of every lane whose E or X loop is out of service; so does its
becoming true, in every deck state, which takes OPEN, OVERLOADED and RESYNC to BLIND with a DECK report and the state timer dropped (log
entry 15), and owes a resync in ISOLATED and RESTING. When it ceases BLIND goes to RESYNC, with empty lists, no load, the records of the
grants at the front of the queue, the timer at RESYNC_TIME and a DECK report; another deck state stays. That the DECK report of an entry to
BLIND shows the account after the arbiter's examination is the model's reading (log entry 14), and that it, or that of an entry to RESYNC,
is placed after the flush its choice (log entries 62 and 58). -/
def Obligations.BlindAndFlush : Prop :=
  (∀ (l : Lane) (s : State),
    let es := s.dkc.lists[l]
    let t := flushLane s l
    t.dkc = { s.dkc with
      lists := put s.dkc.lists l [], overstayGiven := put s.dkc.overstayGiven l false
      onDeck := s.dkc.onDeck - (es.map fun e => if e.kind = .heavy then e.load else 0).sum } ∧
    t.cmn.conds[overstayIx l].st = (if s.cmn.conds[overstayIx l].st = .recovering then .recovering else .clear) ∧
    (∀ e ∈ es, ∀ id, e.recId = some id → findRec t id = none ∧ (e.noncompliant = true → id ∉ t.cmn.nonIds[l]) ∧
      (s.rtb.pool.length + s.rtb.history.length ≤ 64 → findRec s id ≠ none →
        ∃ z ∈ t.rtb.history, z.id = id ∧ z.disposition = .flushed ∧ z.closeTime = s.tbu.time)) ∧
    t.rtk = s.rtk ∧ t.liu = s.liu ∧ t.dcu = s.dcu ∧ t.sst = s.sst) ∧
  (∀ s : State, blindNow s = true ↔ ∃ l : Lane, laneModeOf s l ≠ .closed ∧
    (inService s (eLoop l) = false ∨ inService s (xLoop l) = false)) ∧
  (∀ (further : Bool) (s : State),
    let holds := blindNow s
    let t := reviewBlind further s
    (holds = s.dkc.blind → (holds = true → further = false) → t = s) ∧
    (holds = false → s.dkc.blind = true → s.dkc.st ≠ .blind → t = { s with dkc := { s.dkc with blind := false } }) ∧
    (holds = true → s.dkc.blind = false ∨ further = true →
      t.dkc.blind = true ∧ t.liu = s.liu ∧ t.rtk = s.rtk ∧
      (∀ l : Lane, inService s (eLoop l) = false ∨ inService s (xLoop l) = false → t.dkc.lists[l] = [] ∧
        ∀ e ∈ s.dkc.lists[l], ∀ id, e.recId = some id → findRec t id = none)) ∧
    (holds = true → s.dkc.blind = false →
      (s.dkc.st = .openDeck ∨ s.dkc.st = .overloaded ∨ s.dkc.st = .resync →
        t.dkc.st = .blind ∧ t.dkc.timer = none ∧ DeckReported s.dkc.st .blindBegin t) ∧
      (s.dkc.st = .isolated ∨ s.dkc.st = .resting → t.dkc.resyncOwed = true) ∧
      (s.dkc.st = .resting ∨ s.dkc.st = .closed → t.dkc.st = s.dkc.st)) ∧
    (holds = false → s.dkc.blind = true → s.dkc.st = .blind →
      t.dkc = { s.dkc with
        st := .resync, queue := s.dkc.grants.map (·.id) ++ s.dkc.queue, grants := [], committed := 0,
        onDeck := 0, lists := Vector.replicate 3 [], overstayGiven := Vector.replicate 3 false, listFull := false,
        overload := false, blind := false, resyncOwed := false,
        timer := some (s.tbu.time + BitVec.ofNat 32 (s.sst.live.deck.resyncTime * 100000)) } ∧
      (∀ l : Lane, ∀ e ∈ s.dkc.lists[l], ∀ id, e.recId = some id → findRec t id = none) ∧
      DeckReported .blind .blindEnd t))

/-- The arbiter examines the head alone (R133). It is granted when the deck state, the budget, the window, the headway and in BLIND the blind
spacing all allow: it leaves the queue with its upper gross reserved, an expiry of GRANT_TTL, the grant time listed and kept as the last,
and the counter raised; and the new head is examined at once. When one test fails, or the queue is empty, nothing is changed. -/
def Obligations.GrantToHead : Prop :=
  (∀ (id u : Nat) (others : List Nat) (r : VRecord) (s : State),
    s.dkc.queue = id :: others → findRec s id = some r → r.upper = some u →
    let deck := s.sst.live.deck
    let since : Nat → Bool → LastGrant → Prop := fun d latched g =>
      latched = true ∨ d * 100000 ≤ (s.tbu.time - g.time).toNat
    let allowed :=
      (s.dkc.st = .openDeck ∨
        (s.dkc.st = .blind ∧ s.dkc.overload = false ∧
          ∀ g, s.dkc.lastGrant = some g → since deck.blindClear g.blindOk g)) ∧
      s.dkc.committed + s.dkc.onDeck + u ≤ deck.budget ∧ s.dkc.grantTimes.length < deck.winMax ∧
      (∀ g, s.dkc.lastGrant = some g → since deck.headway g.headwayOk g)
    let granted : State := { s with
      rtb := { s.rtb with pool := s.rtb.pool.map fun x => if x.id == id then { x with admission := .granted } else x }
      dkc := { s.dkc with
        queue := others
        grants := s.dkc.grants ++ [⟨id, s.tbu.time, u, s.tbu.time + BitVec.ofNat 32 (deck.grantTtl * 100000)⟩]
        grantTimes := s.dkc.grantTimes ++ [s.tbu.time]
        lastGrant := some ⟨s.tbu.time, deck.headway = 0, deck.blindClear = 0⟩
        committed := s.dkc.committed + u }
      cmn.grants := s.cmn.grants + 1 }
    (allowed → arbitrate s = if others = [] then granted else arbitrate granted) ∧
    (¬ allowed → arbitrate s = s)) ∧
  (∀ s : State, s.dkc.queue = [] → arbitrate s = s)

/-- The arbiter's events by time (R134, R135): HEADWAY and BLIND_CLEAR passing since the last grant time are latched, a grant time leaves the
list when WIN_LEN has passed since it, and a grant whose expiry time is reached ends, its load leaving the committed load and its record
becoming EXPIRED. After each of them no head that R133 lets be granted is left waiting, and inputs, detectors and settings are
as before. The overload condition is formed (R142). In CLOSED, RESYNC and RESTING, and in ISOLATED with a noncompliant entry on the deck,
nothing else is changed; in OPEN without overload and in BLIND the arbiter examines the head; OPEN with overload becomes OVERLOADED, and
OVERLOADED without it becomes OPEN after that examination, each with its DECK report (R134, R144, R148; log entry 14). -/
def Obligations.ArbiterTimers : Prop :=
  ∀ (id : Nat) (s : State),
    let outcome : Instr → State → Prop := fun c x =>
      ∃ t, exec c s = .next t ∧ Formed t ∧
        (∀ i u, headUpper t = some (i, u) → mayGrant u t = false) ∧
        t.tbu = s.tbu ∧ t.csq = s.csq ∧ t.scu = s.scu ∧ t.zsc = s.zsc ∧ t.liu = s.liu ∧ t.rtk = s.rtk ∧ t.trs = s.trs ∧
        t.sst.live = s.sst.live ∧
        (let latch := if s.dkc.lists.toList.any (fun es => 32 ≤ es.length) then true
           else if s.dkc.lists.toList.all (fun es => es.length ≤ 28) then false else s.dkc.listFull
         let loaded := decide (latch = true ∨ s.sst.live.deck.budget < s.dkc.onDeck)
         let y : State := { x with dkc := { x.dkc with listFull := latch, overload := loaded } }
         let z := arbitrate { y with dkc := { y.dkc with st := .openDeck } }
         (s.dkc.st = .closed ∨ s.dkc.st = .resync ∨ s.dkc.st = .resting ∨
           (s.dkc.st = .isolated ∧ ∃ l : Lane, ∃ e ∈ s.dkc.lists[l], e.noncompliant = true) → FormedFrom y t) ∧
         (s.dkc.st = .blind ∨ (s.dkc.st = .openDeck ∧ loaded = false) → FormedFrom (arbitrate y) t) ∧
         (s.dkc.st = .openDeck → loaded = true →
           ReportedFrom [.deck ⟨.overloaded, some .openDeck, .overload, .allStop, s.dkc.onDeck, x.dkc.committed,
             s.dkc.queue.length, s.tbu.time⟩] { y with dkc := { y.dkc with st := .overloaded } } t) ∧
         (s.dkc.st = .overloaded → loaded = true → FormedFrom y t) ∧
         (s.dkc.st = .overloaded → loaded = false →
           ReportedFrom [.deck ⟨.openDeck, some .overloaded, .overloadEnd, t.dkc.signal, t.dkc.onDeck, t.dkc.committed,
             t.dkc.queue.length, s.tbu.time⟩] z t))
    (∀ g, s.dkc.lastGrant = some g → g.headwayOk = false →
      s.sst.live.deck.headway * 100000 ≤ (s.tbu.time - g.time).toNat →
      outcome .headwayElapsed { s with dkc.lastGrant := some { g with headwayOk := true } }) ∧
    (∀ g, s.dkc.lastGrant = some g → g.blindOk = false →
      s.sst.live.deck.blindClear * 100000 ≤ (s.tbu.time - g.time).toNat →
      outcome .blindClearElapsed { s with dkc.lastGrant := some { g with blindOk := true } }) ∧
    (∀ time times, s.dkc.grantTimes = time :: times →
      s.sst.live.deck.winLen * 100000 ≤ (s.tbu.time - time).toNat →
      outcome .grantTimeExpiry { s with dkc.grantTimes := times }) ∧
    (∀ g, s.dkc.grants.find? (·.id == id) = some g → earlier s.tbu.time g.expiry = false →
      outcome (.grantExpiry id) { s with
        rtb := { s.rtb with pool := s.rtb.pool.map fun r => if r.id == id then { r with admission := .expired } else r }
        dkc := { s.dkc with
          grants := s.dkc.grants.eraseP (·.id == id), committed := s.dkc.committed - g.load } })

/-- At the end of RESYNC the deck drops the timer and goes to ISOLATED with a noncompliant entry on the deck, otherwise to BLIND while the blind
condition holds, to OVERLOADED while the overload condition does, and to OPEN (R143); DECK_DESYNC has taken its clear notice and its time
list is empty (R157). At the end of RESTING it goes to BLIND, to RESYNC where a resync is owed, to OVERLOADED or to OPEN, the first that
applies (R145). An entry to RESYNC leaves all lists empty, no grant, the records of the grants at the front of the queue, no load, no
resync owed, and the timer at RESYNC_TIME. Each change has its DECK report, the last report placed (R148). That the report of an entry to OPEN
or BLIND shows the account after the arbiter's examination is the model's reading (log entry 14), and that of an entry to RESYNC or BLIND
after the flush its choice (log entries 58 and 62). -/
def Obligations.ResyncAndRestEnd : Prop :=
  ∀ (finish : Time) (s : State), s.dkc.timer = some finish → earlier s.tbu.time finish = false →
    let latch := if s.dkc.lists.toList.any (fun es => 32 ≤ es.length) then true
      else if s.dkc.lists.toList.all (fun es => es.length ≤ 28) then false else s.dkc.listFull
    let loaded := latch = true ∨ s.sst.live.deck.budget < s.dkc.onDeck
    (s.dkc.st = .resync → ∃ t, exec .resyncEnd s = .next t ∧ Formed t ∧ t.dkc.timer = none ∧ t.cmn.desyncTimes = [] ∧
      t.cmn.conds[desyncIx].st = (if s.cmn.conds[desyncIx].st = .recovering then .recovering else .clear) ∧
      t.liu = s.liu ∧ t.las.toList.map (·.fifo) = s.las.toList.map (·.fifo) ∧ DeckReported .resync .resyncEnd t ∧
      (if (∃ l : Lane, ∃ e ∈ s.dkc.lists[l], e.noncompliant = true) then t.dkc.st = .isolated ∧ t.dkc.lists = s.dkc.lists
       else if s.dkc.blind = true then t.dkc.st = .blind
       else if loaded then t.dkc.st = .overloaded ∧ t.dkc.lists = s.dkc.lists ∧ t.dkc.grants = s.dkc.grants
       else t.dkc.st = .openDeck ∧ t.dkc.lists = s.dkc.lists)) ∧
    (s.dkc.st = .resting → ∃ t, exec .restEnd s = .next t ∧ Formed t ∧ t.liu = s.liu ∧ DeckReported .resting .restEnd t ∧
      (if s.dkc.blind = true then t.dkc.st = .blind ∧ t.dkc.timer = none
       else if s.dkc.resyncOwed = true then
         t.dkc.st = .resync ∧ (∀ l : Lane, t.dkc.lists[l] = []) ∧ t.dkc.onDeck = 0 ∧ t.dkc.committed = 0 ∧ t.dkc.grants = [] ∧
         t.dkc.queue = s.dkc.grants.map (·.id) ++ s.dkc.queue ∧ t.dkc.resyncOwed = false ∧
         t.dkc.timer = some (s.tbu.time + BitVec.ofNat 32 (s.sst.live.deck.resyncTime * 100000))
       else if loaded then t.dkc.st = .overloaded ∧ t.dkc.timer = none ∧ t.dkc.lists = s.dkc.lists
       else t.dkc.st = .openDeck ∧ t.dkc.timer = none ∧ t.dkc.lists = s.dkc.lists))

/-! ### The cabinet link -/

/-- A frame's bytes, after any bytes that are no sync byte, are taken as that one frame and no other (R173, Table 12-1): length, CRC and
contents agree for every payload of up to 250 bytes. -/
def Obligations.FrameRoundTrip : Prop :=
  ∀ (junk : List Byte) (type tag : Byte) (payload : List Byte), (∀ b ∈ junk, b ≠ 0x7E#8) → payload.length ≤ 250 →
    takeFrames true (junk ++ frameBytes type tag payload) = ([⟨type, tag, payload⟩], [])

/-- Bytes that arrive with no incomplete candidate and form one valid frame, after a frame abandoned for its LEN or not: the frame time is
kept, LINK_SILENT takes its clear notice where it was given, and the request joins the queue, or is discarded with REQUEST_OVERRUN where
4 wait (R173, R174). Nothing else is changed. The same holds of any bytes in which the receiver finds one valid frame. A candidate with a LEN
out of range or a failed CRC is given up at its sync byte, and hunting resumes at the byte after it; one that is cut off is kept until it is
abandoned, and then given up in the same way. Bytes that hold no valid frame, with those kept or after a gap of more than 2,000 ticks that
abandons them, leave the request queue, the frame time and LINK_SILENT as they are, and nothing is answered; so does one candidate of a good
LEN that fails its check. -/
def Obligations.FrameReceivedQueues : Prop :=
  (∀ (type tag : Byte) (payload : List Byte) (s : State), s.lki.rx = [] → payload.length ≤ 250 →
    let old := s.cmn.conds[linkSilentIx]
    let e := if s.lki.silentGiven = false ∨ old.st = .recovering then old else movedEntry .clear s.tbu.time old
    let x := withEntry linkSilentIx e { s with
      lki := { s.lki with
        rxLast := s.tbu.time
        lastValid := s.tbu.time
        silentGiven := false
        requests := if s.lki.requests.length < 4 then s.lki.requests ++ [⟨type, tag, payload⟩] else s.lki.requests
        requestOverrun := s.lki.requestOverrun || decide (4 ≤ s.lki.requests.length) } }
    (∃ t, exec (.frameReceived (frameBytes type tag payload)) s = .next t ∧
      ReportedFrom (changeReports linkSilentIx e s) x t) ∧
    (∀ len : Byte, (len.toNat < 2 ∨ 252 < len.toNat) →
      ∃ t, exec (.lenOutOfRange (0x7E#8 :: len :: frameBytes type tag payload)) s = .next t ∧
        ReportedFrom (changeReports linkSilentIx e s) x t)) ∧
  (∀ (bytes kept : List Byte) (r : Request) (s : State), s.lki.rx = [] → takeFrames true bytes = ([r], kept) →
    let old := s.cmn.conds[linkSilentIx]
    let e := if s.lki.silentGiven = false ∨ old.st = .recovering then old else movedEntry .clear s.tbu.time old
    let full := 4 ≤ s.lki.requests.length
    ∀ i ∈ [Instr.frameReceived bytes, .lenOutOfRange bytes], ∃ t, exec i s = .next t ∧
      ReportedFrom (changeReports linkSilentIx e s) (withEntry linkSilentIx e { s with
        lki := { s.lki with
          rx := kept, rxLast := s.tbu.time, lastValid := s.tbu.time, silentGiven := false
          requests := if full then s.lki.requests else s.lki.requests ++ [r]
          requestOverrun := s.lki.requestOverrun || decide full } }) t) ∧
  (∀ (wait : Bool) (len : Byte) (more : List Byte),
    let n := len.toNat
    let word := 256 * (more.getD n 0).toNat + (more.getD (n + 1) 0).toNat
    (n < 2 ∨ 252 < n ∨ (n + 2 ≤ more.length ∧ (crc16 (len :: more.take n)).toNat ≠ word) →
      takeFrames wait (0x7E#8 :: len :: more) = takeFrames wait (len :: more)) ∧
    (2 ≤ n → n ≤ 252 → more.length < n + 2 →
      takeFrames true (0x7E#8 :: len :: more) = ([], 0x7E#8 :: len :: more) ∧
      takeFrames false (0x7E#8 :: len :: more) = takeFrames false (len :: more))) ∧
  (∀ (bytes : List Byte) (s : State),
    let gap := s.lki.rx ≠ [] ∧ 2000 < (s.tbu.time - s.lki.rxLast).toNat
    let found := takeFrames true ((if gap then [] else s.lki.rx) ++ bytes)
    (gap → (takeFrames false s.lki.rx).1 = []) → found.1 = [] →
    ∀ i ∈ [Instr.frameReceived bytes, .lenOutOfRange bytes], ∃ t, exec i s = .next t ∧
      FormedFrom { s with lki := { s.lki with rx := found.2, rxLast := s.tbu.time } } t) ∧
  (∀ (len : Byte) (more : List Byte) (s : State), s.lki.rx = [] →
    2 ≤ len.toNat → len.toNat ≤ 252 → more.length = len.toNat + 2 → (∀ b ∈ len :: more, b ≠ 0x7E#8) →
    (crc16 (len :: more.take len.toNat)).toNat ≠ 256 * (more.getD len.toNat 0).toNat + (more.getD (len.toNat + 1) 0).toNat →
    ∃ t, exec (.frameReceived (0x7E#8 :: len :: more)) s = .next t ∧
      FormedFrom { s with lki := { s.lki with rxLast := s.tbu.time } } t)

/-- LINK_SILENT_EXPIRY: LINK_SILENT after the latest valid frame a LINK_SILENT cause is given, once (R173). FRAME_GAP_TIMEOUT: more than 2,000
ticks after the latest byte of an incomplete candidate the candidate is abandoned (R173), no incomplete candidate is kept (the abandoning
of every further one is the model's reading, log entry 18), and where its bytes hold no frame nothing else is changed. -/
def Obligations.LinkTimeouts : Prop :=
  ∀ s : State,
    (s.lki.silentGiven = false → s.sst.live.link.linkSilent * 100000 ≤ (s.tbu.time - s.lki.lastValid).toNat →
      let e := causedEntry false s.tbu.time s.cmn.conds[linkSilentIx]
      ∃ t, exec .linkSilentExpiry s = .next t ∧
        ReportedFrom (changeReports linkSilentIx e s)
          (withEntry linkSilentIx e { s with lki := { s.lki with silentGiven := true } }) t) ∧
    (s.lki.rx ≠ [] → 2000 < (s.tbu.time - s.lki.rxLast).toNat →
      ∃ t, exec .frameGapTimeout s = .next t ∧ Formed t ∧ t.lki.rx = [] ∧
        ((takeFrames false s.lki.rx).1 = [] → FormedFrom { s with lki := { s.lki with rx := [] } } t))

/-- FRAME_SENT: the transmitter has finished its frame and chooses the oldest ready answer, otherwise the oldest report, otherwise it is idle
(R175). After the OK answer to a RESTART the warm start is due (R182), and it sends nothing more, also where a store write has begun meanwhile, by
the model's reading (log entries 19 and 30).
A report placed in a queue of fewer than 32 goes behind all others and none is lost; in a full one, while a frame is being sent, the
oldest is pushed out and NOTICE_LOSS set (R175). No answer is touched. -/
def Obligations.TransmitterChooses : Prop :=
  (∀ (f : TxFrame) (s : State), s.lki.tx = some f →
     let due := s.lki.warmDue || (match f with
       | .answer a => a.type == 0xD0#8 && a.code == .ok
       | .report _ => false)
     ∃ t, exec .frameSent s = .next t ∧
       (due = true →
         FormedFrom { s with lki := { s.lki with tx := none, warmDue := true } } t) ∧
       (due = false →
         (∀ a as, s.lki.ready = a :: as →
           FormedFrom { s with lki := { s.lki with tx := some (.answer a), ready := as } } t) ∧
         (∀ r rs, s.lki.ready = [] → s.lki.reports = r :: rs →
           FormedFrom { s with lki := { s.lki with tx := some (.report r), reports := rs } } t) ∧
         (s.lki.ready = [] → s.lki.reports = [] →
           FormedFrom { s with lki := { s.lki with tx := none } } t))) ∧
  (∀ (r : Report) (s : State),
     let t := placeReport r s
     answerPath t = answerPath s ∧ sansLink t = sansLink s ∧
     (s.lki.reports.length < 32 → reportPath t = reportPath s ++ [r] ∧ t.lki.noticeLoss = s.lki.noticeLoss) ∧
     (32 ≤ s.lki.reports.length → s.lki.tx.isSome = true →
       t.lki.reports = s.lki.reports.tail ++ [r] ∧ t.lki.noticeLoss = true ∧ t.lki.tx = s.lki.tx))

/-! ### Requests -/

/-- Every request of Table 12-3 is judged in the order of R174: a payload of a length that Table 12-10 does not give is BAD_LENGTH; then a
request of level MAINTAIN with the key at OPERATE is ACCESS; both change nothing else. A TYPE that names no request is UNKNOWN_TYPE. A
TABLE_WRITE that names no table passes at 7, 19 or 24 bytes. -/
def Obligations.RequestsAreJudged : Prop :=
  let tableLengths : List Byte → List Nat := fun p =>
    if u16At p 0 = 21 then [7] else if u16At p 0 = 126 then [19] else if u16At p 0 = 125 then [24] else [7, 19, 24]
  let rows : List (Nat × Instr × Bool × (List Byte → List Nat)) :=
    [(0x01, .status, false, fun _ => [0]), (0x02, .conditions, false, fun _ => [2]),
     (0x03, .ackConditions, false, fun _ => [1]), (0x04, .recover, true, fun _ => [1]),
     (0x05, .reportMask, false, fun _ => [0, 2]), (0x10, .record, false, fun _ => [4, 5]),
     (0x11, .history, false, fun _ => [4, 1]), (0x12, .deckView, false, fun _ => [2]),
     (0x13, .queueView, false, fun _ => [2]), (0x14, .snapshot, false, fun _ => [0]),
     (0x15, .snapshotRelease, false, fun _ => [0]), (0x20, .laneOpen, true, fun _ => [1]),
     (0x21, .laneClose, false, fun _ => [1]), (0x22, .deckClose, false, fun _ => [0]),
     (0x23, .deckRelease, true, fun _ => [0]), (0x24, .deckClearHead, true, fun _ => [1]),
     (0x25, .signForce, false, fun _ => [3]), (0x30, .setupBegin, true, fun _ => [0]),
     (0x31, .setupCommit, true, fun _ => [0]), (0x32, .setupAbandon, true, fun _ => [0]),
     (0x33, .paramWrite, true, fun _ => [6]), (0x34, .paramRead, false, fun _ => [3]),
     (0x35, .tableWrite, true, tableLengths), (0x36, .tableRead, false, fun _ => [4]),
     (0x40, .convertOne, true, fun _ => [2]), (0x41, .zeroNow, true, fun _ => [1]),
     (0x42, .traceRead, false, fun _ => [7]), (0x43, .traceRelease, false, fun _ => [0]),
     (0x50, .restart, true, fun _ => [0]), (0x51, .ident, false, fun _ => [0])]
  (∀ row ∈ rows, ∀ (r : Request) (s : State), Asks row.1 r s →
    (r.payload.length ∉ row.2.2.2 r.payload →
      ∃ t, exec row.2.1 s = .next t ∧ AnsweredFrom r .badLength .empty [] s t) ∧
    (r.payload.length ∈ row.2.2.2 r.payload → row.2.2.1 = true → s.liu.deb[mkInput].level = false →
      ∃ t, exec row.2.1 s = .next t ∧ AnsweredFrom r .access .empty [] s t)) ∧
  (∀ (r : Request) (s : State), Asks r.type.toNat r s → (∀ row ∈ rows, row.1 ≠ r.type.toNat) →
    ∃ t, exec .unknownType s = .next t ∧ AnsweredFrom r .unknownType .empty [] s t)

/-- STATUS answers with the state as it stands and clears NOTICE_LOSS and REQUEST_OVERRUN; IDENT answers with the live generation and the
checksum of the image and changes nothing (R176). RESTART is answered OK and changes nothing yet: the warm start follows the sending of
that answer (R182). -/
def Obligations.StatusIdentRestart : Prop :=
  ∀ (r : Request) (s : State), r.payload = [] →
    (Asks 0x01 r s → ∃ t, exec .status s = .next t ∧
      AnsweredFrom r .ok (.status
        { mode := s.cmn.mode, safeFlag := s.cmn.safeFlag, maintain := s.liu.deb[mkInput].level, lastWarm := s.lki.lastWarm,
          coldInd := s.lki.coldInd, noticeLoss := s.lki.noticeLoss, overrun := s.lki.requestOverrun,
          storeBusy := s.sst.storeBusy, deck := s.dkc.st, signal := s.dkc.signal, queueLen := s.dkc.queue.length,
          grantTimes := s.dkc.grantTimes.length, laneMode := s.cmn.laneMode, gen := s.sst.liveGen, time := s.tbu.time,
          seconds := s.tbu.seconds, onDeck := s.dkc.onDeck, committed := s.dkc.committed, lanes := s.cmn.lanes,
          grants := s.cmn.grants, unadmitted := s.cmn.unadmitted, ghosts := s.cmn.ghosts }) []
        { s with lki := { s.lki with noticeLoss := false, requestOverrun := false } } t) ∧
    (Asks 0x51 r s → ∃ t, exec .ident s = .next t ∧ AnsweredFrom r .ok (.ident s.sst.liveGen s.sst.checksum) [] s t) ∧
    (Asks 0x50 r s → s.liu.deb[mkInput].level = true →
      ∃ t, exec .restart s = .next t ∧ AnsweredFrom r .ok .empty [] s t)

/-- CONDITIONS gives, from its start index upward, the first 12 entries that its selection admits, and the index after the last one
examined, 65 at the table's end; it changes nothing. ACK_CONDITIONS clears every changed flag, and with the start flag the cold-start
indication (R161). A start index above 64, a selection or a start flag above 1 is BAD_VALUE (the last two by the model's choice, log
entry 32).
RECOVER moves a latching entry in FAULT, that of an absent lane too by the model's reading (log entry 51), to RECOVERING with the watch time
set; an index above 64 is BAD_VALUE, an entry that does not latch
or is not in FAULT is STATE (R159). REPORT_MASK reads the masks or sets that of one kind; a kind above 16 or a value above 3 is BAD_VALUE
(R160). -/
def Obligations.ConditionRequests : Prop :=
  (∀ (r : Request) (s : State),
     (Asks 0x02 r s → r.payload.length = 2 →
       let first := byteAt r.payload 0
       let selection := byteAt r.payload 1
       ∃ t, exec .conditions s = .next t ∧
         (64 < first ∨ 1 < selection → AnsweredFrom r .badValue .empty [] s t) ∧
         (first ≤ 64 → selection ≤ 1 →
           let admitted := (allConds.drop first).filter fun i =>
             selection == 0 || s.cmn.conds[i].st != .clear || s.cmn.conds[i].changed
           AnsweredFrom r .ok (.conditions ((admitted.take 12).map fun i =>
             let e := s.cmn.conds[i]
             ⟨i, e.st, e.count, e.first, e.last, e.changed⟩)
             ((admitted[11]?.map (·.val + 1)).getD 65)) [] s t)) ∧
     (Asks 0x03 r s → r.payload.length = 1 →
       let flag := byteAt r.payload 0
       ∃ t, exec .ackConditions s = .next t ∧
         (1 < flag → AnsweredFrom r .badValue .empty [] s t) ∧
         (flag ≤ 1 → AnsweredFrom r .ok .empty []
           { s with
             cmn := { s.cmn with conds := mapVec (fun e => { e with changed := false }) s.cmn.conds }
             lki := { s.lki with coldInd := if flag = 1 then false else s.lki.coldInd } } t))) ∧
  (∀ (r : Request) (s : State),
     (Asks 0x04 r s → r.payload.length = 1 → s.liu.deb[mkInput].level = true →
       ∃ t, exec .recover s = .next t ∧
         (64 < byteAt r.payload 0 → AnsweredFrom r .badValue .empty [] s t) ∧
         (∀ ix : CondIx, ix.val = byteAt r.payload 0 →
           let e := { s.cmn.conds[ix] with st := .recovering, changed := true, watch := some s.tbu.time, lapsed := false }
           ((kindOf ix).1.latching = true → s.cmn.conds[ix].st = .fault →
             AnsweredFrom r .ok .empty (changeReports ix e s) (withEntry ix e s) t) ∧
           ((kindOf ix).1.latching = false ∨ s.cmn.conds[ix].st ≠ .fault → AnsweredFrom r .state .empty [] s t))) ∧
     (Asks 0x05 r s → r.payload.length = 0 ∨ r.payload.length = 2 →
       let kind := byteAt r.payload 0
       let value := byteAt r.payload 1
       ∃ t, exec .reportMask s = .next t ∧
         (r.payload = [] → AnsweredFrom r .ok (.masks s.cmn.mask) [] s t) ∧
         (r.payload ≠ [] → (16 < kind ∨ 3 < value) → AnsweredFrom r .badValue .empty [] s t) ∧
         (∀ (k : Fin 17) (v : MaskValue), r.payload ≠ [] → k.val = kind →
           [MaskValue.never, .alert, .fault, .both][value]? = some v →
           AnsweredFrom r .ok .empty [] { s with cmn := { s.cmn with mask := put s.cmn.mask k v } } t)))

/-- RECORD gives the whole record of an id of the pool with its reserved load, or NOT_FOUND; in its list form up to N records of ids not
above the greatest, each with id, lane and state, in descending id, none left out that comes before one given (R128). HISTORY gives the
summary of an id, or NOT_FOUND, or the newest N (R129). A count outside 1 to 40, or 1 to 5, is BAD_VALUE. Neither changes anything. -/
def Obligations.RecordAndHistory : Prop :=
  ∀ (r : Request) (s : State),
    (Asks 0x10 r s → r.payload.length = 4 →
      ∃ t, exec .record s = .next t ∧
        (∀ v, findRec s (u32At r.payload 0) = some v →
          AnsweredFrom r .ok
            (.record { v with reading := none, outlived := false } ((s.dkc.grants.find? (·.id == u32At r.payload 0)).map (·.load))) [] s t) ∧
        (findRec s (u32At r.payload 0) = none → AnsweredFrom r .notFound .empty [] s t)) ∧
    (Asks 0x10 r s → r.payload.length = 5 →
      let n := byteAt r.payload 0
      ∃ t, exec .record s = .next t ∧
        (n < 1 ∨ 40 < n → AnsweredFrom r .badValue .empty [] s t) ∧
        (1 ≤ n → n ≤ 40 → ∃ rs : List VRecord,
          (rs.map (·.id)).Pairwise (· ≥ ·) ∧
          rs.Perm (s.rtb.pool.filter fun v => v.id ≤ u32At r.payload 1) ∧
          AnsweredFrom r .ok (.records ((rs.take n).map fun v => (v.id, v.lane, v.st))) [] s t)) ∧
    (Asks 0x11 r s → r.payload.length = 4 →
      ∃ t, exec .history s = .next t ∧
        (∀ x, s.rtb.history.find? (·.id == u32At r.payload 0) = some x → AnsweredFrom r .ok (.history [x]) [] s t) ∧
        (s.rtb.history.find? (·.id == u32At r.payload 0) = none → AnsweredFrom r .notFound .empty [] s t)) ∧
    (Asks 0x11 r s → r.payload.length = 1 →
      let n := byteAt r.payload 0
      ∃ t, exec .history s = .next t ∧
        (n < 1 ∨ 5 < n → AnsweredFrom r .badValue .empty [] s t) ∧
        (1 ≤ n → n ≤ 5 → AnsweredFrom r .ok (.history (s.rtb.history.reverse.take n)) [] s t))

/-- DECK_VIEW gives the deck's state and account and up to 12 entries of a lane's list from a first position; QUEUE_VIEW gives the queue, or
the grants with the grant times (R150). A lane above 2 or a part above 1 is BAD_VALUE. Neither changes anything.
SNAPSHOT gives the freeze, the entries, the aspects and the seconds left of each force, and changes nothing (R110). SNAPSHOT_RELEASE
thaws the snapshot and keeps its entries (R109). TRACE_RELEASE ends the hold of the trace ring and keeps its records (R170). -/
def Obligations.DeckAndSnapshotViews : Prop :=
  (∀ (r : Request) (s : State), r.payload.length = 2 →
     let first := byteAt r.payload 1
     (Asks 0x12 r s →
       ∃ t, exec .deckView s = .next t ∧
         (2 < byteAt r.payload 0 → AnsweredFrom r .badValue .empty [] s t) ∧
         (∀ l : Lane, l.val = byteAt r.payload 0 →
           AnsweredFrom r .ok (.deck
             { st := s.dkc.st, signal := s.dkc.signal, onDeck := s.dkc.onDeck, committed := s.dkc.committed,
               budget := s.sst.live.deck.budget, listFull := s.dkc.listFull, resyncOwed := s.dkc.resyncOwed,
               timerLeft := match s.dkc.timer with
                 | some e => if earlier s.tbu.time e then ((e - s.tbu.time).toNat + 99999) / 100000 else 0
                 | none => 0
               entries := s.dkc.lists[l].length }
             (((s.dkc.lists[l].drop first).take 12).map fun e =>
               ⟨e.kind, e.recId, e.entryTime, e.load, e.admitted, e.ghost, e.noncompliant⟩)) [] s t)) ∧
     (Asks 0x13 r s →
       ∃ t, exec .queueView s = .next t ∧
         (1 < byteAt r.payload 0 → AnsweredFrom r .badValue .empty [] s t) ∧
         (byteAt r.payload 0 = 0 → (∀ id ∈ s.dkc.queue, ∃ v, findRec s id = some v) →
           ∃ items, AnsweredFrom r .ok (.queue s.dkc.queue.length items) [] s t ∧
             items.map (·.1) = (s.dkc.queue.drop first).take 16 ∧
             (∀ i ∈ items, ∃ v, findRec s i.1 = some v ∧ i.2 = (v.lane, v.decTime, v.upper))) ∧
         (byteAt r.payload 0 = 1 →
           AnsweredFrom r .ok (.grants s.dkc.grants.length ((s.dkc.grants.drop first).take 10) s.dkc.grantTimes
             (s.dkc.lastGrant.map (·.time))) [] s t))) ∧
  (∀ (r : Request) (s : State), r.payload = [] →
     (Asks 0x14 r s → ∃ t, exec .snapshot s = .next t ∧
       ∃ left : Vector Nat 3, AnsweredFrom r .ok (.snapshot s.dcu.frozen s.dcu.snap s.dcu.aspect left) [] s t ∧
         ∀ l : Lane, (s.dcu.force[l] = none → left[l] = 0) ∧
           (∀ e, s.dcu.force[l] = some e → left[l] =
             if earlier s.tbu.time e then ((e - s.tbu.time).toNat + 99999) / 100000 else 0)) ∧
     (Asks 0x15 r s → ∃ t, exec .snapshotRelease s = .next t ∧
       AnsweredFrom r .ok .empty [] { s with dcu := { s.dcu with frozen := none } } t) ∧
     (Asks 0x43 r s → ∃ t, exec .traceRelease s = .next t ∧
       AnsweredFrom r .ok .empty [] { s with trs := { s.trs with held := none } } t))

/-- TRACE_READ gives the ring summary for index 0; for another index it gives up to 64 values of a stored record from an offset, refusing a
count outside 1 to 64 and an offset at or past its end with BAD_VALUE and an unknown index with NOT_FOUND, in the order of Table 11-4
(R171). Each value is given as a signed value of three bytes. It changes nothing. -/
def Obligations.TraceRead : Prop :=
  ∀ (r : Request) (s : State), Asks 0x42 r s → r.payload.length = 7 →
    let index := u32At r.payload 0
    let offset := u16At r.payload 4
    let count := byteAt r.payload 6
    let used := (s.trs.ring.map fun x => 4 + x.samples.length).sum
    let summary : TraceSummary :=
      { oldest := (s.trs.ring.head?.map (·.index)).getD 0, newest := (s.trs.ring.getLast?.map (·.index)).getD 0,
        free := 16384 - used, mode := s.sst.live.link.traceMode, held := s.trs.held }
    ∃ t, exec .traceRead s = .next t ∧
      (index = 0 → AnsweredFrom r .ok (.trace summary none) [] s t) ∧
      (index ≠ 0 → (count < 1 ∨ 64 < count) → AnsweredFrom r .badValue .empty [] s t) ∧
      (index ≠ 0 → 1 ≤ count → count ≤ 64 →
        (s.trs.ring.find? (·.index == index) = none → AnsweredFrom r .notFound .empty [] s t) ∧
        (∀ x, s.trs.ring.find? (·.index == index) = some x →
          (x.samples.length ≤ offset → AnsweredFrom r .badValue .empty [] s t) ∧
          (offset < x.samples.length →
            AnsweredFrom r .ok (.trace summary (some
              ({ index := index, chan := x.chan, start := x.start, count := x.samples.length, vehicle := x.vehicle,
                 aborted := x.aborted, missing := x.missing },
               ((x.samples.drop offset).take count).map (BitVec.ofInt 24)))) [] s t)))

/-- LANE_OPEN of a present lane whose closed mark is set and that the live scan list covers clears the mark: the lane's mode is CLOSED no more,
its detectors leave OFF for IDLE under the live detector settings, its P loop's occupancy is not announced, and OK is answered (R163, R33,
R73). A lane outside 0 to 2 or absent is BAD_VALUE, a store write in progress BUSY, a lane that is open or not covered STATE (R18). -/
def Obligations.LaneOpens : Prop :=
  ∀ (r : Request) (s : State), Asks 0x20 r s → r.payload.length = 1 → s.liu.deb[mkInput].level = true →
    ∃ t, exec .laneOpen s = .next t ∧
      (2 < byteAt r.payload 0 → AnsweredFrom r .badValue .empty [] s t) ∧
      (∀ l : Lane, l.val = byteAt r.payload 0 →
        (s.sst.live.site.laneCount ≤ l.val → AnsweredFrom r .badValue .empty [] s t) ∧
        (l.val < s.sst.live.site.laneCount →
          (s.sst.storeBusy = true → AnsweredFrom r .busy .empty [] s t) ∧
          (s.sst.storeBusy = false →
            (s.cmn.closedMark[l] = false ∨ coversLane s.sst.live.conv.scanList l = false →
              AnsweredFrom r .state .empty [] s t) ∧
            (s.cmn.closedMark[l] = true → coversLane s.sst.live.conv.scanList l = true →
              Formed t ∧ t.lki.requests = s.lki.requests.tail ∧
              answerPath t = answerPath s ++ [⟨r.type + 0x80, r.tag, .ok, .empty⟩] ∧
              t.cmn.closedMark = put s.cmn.closedMark l false ∧ t.cmn.laneMode[l] ≠ .closed ∧
              (∀ c : Chan, chanLane c = l →
                (s.scu[c].det = .off → t.scu[c].det = .idle ∧ t.scu[c].cfg = s.sst.live.det) ∧
                (s.scu[c].det ≠ .off → t.scu[c] = s.scu[c])) ∧
              (∀ c : Chan, chanLane c ≠ l → t.scu[c] = s.scu[c]) ∧
              t.liu.loops[pLoop l].announced = false ∧ t.liu.deb = s.liu.deb ∧ t.dkc.blind = blindNow t ∧
              t.tbu = s.tbu ∧ t.csq = s.csq ∧ t.sst.live = s.sst.live ∧ t.rtk = s.rtk))))

/-- LANE_CLOSE of a present open lane sets its closed mark: its mode is CLOSED, its detectors are OFF, no zero measurement of the lane goes on,
and OK is answered (R163, R33, R41). Its assembler holds nothing any more (R73): each record it held, open, sealed or PENDING, has left
the pool, closed ABANDONED; a record of an open lane that one of them awaited is STRADDLE_SUSPECT, and a PENDING record of an open lane
that awaited one of them is decided alone with STRADDLE_SUSPECT. For a lane that is closed already or absent OK is answered and nothing is
changed; a lane outside 0 to 2 is BAD_VALUE. -/
def Obligations.LaneCloses : Prop :=
  ∀ (r : Request) (s : State), Asks 0x21 r s → r.payload.length = 1 →
    ∃ t, exec .laneClose s = .next t ∧
      (2 < byteAt r.payload 0 → AnsweredFrom r .badValue .empty [] s t) ∧
      (∀ l : Lane, l.val = byteAt r.payload 0 →
        (s.sst.live.site.laneCount ≤ l.val ∨ s.cmn.closedMark[l] = true → AnsweredFrom r .ok .empty [] s t) ∧
        (l.val < s.sst.live.site.laneCount → s.cmn.closedMark[l] = false →
          let held : Nat → Prop := fun id => (∃ v ∈ s.las[l].openVeh, v.owner = .recorded id) ∨
            (∃ v ∈ s.las[l].sealed, v.owner = .recorded id) ∨ ∃ p ∈ s.las[l].pendingList, p.id = id
          Formed t ∧ t.lki.requests = s.lki.requests.tail ∧
          answerPath t = answerPath s ++ [⟨r.type + 0x80, r.tag, .ok, .empty⟩] ∧
          t.cmn.closedMark = put s.cmn.closedMark l true ∧ t.cmn.laneMode[l] = .closed ∧
          t.las[l].fifo = [] ∧ t.las[l].openVeh = none ∧ t.las[l].sealed = [] ∧ t.las[l].pendingList = [] ∧
          t.las[l].vref = none ∧ t.las[l].silentS1 = 0 ∧ t.las[l].silentS2 = 0 ∧
          (∀ id, held id → findRec t id = none ∧
            (s.rtb.pool.length + s.rtb.history.length ≤ 64 → findRec s id ≠ none →
              ∃ z ∈ t.rtb.history, z.id = id ∧ z.disposition = .abandoned ∧ z.closeTime = s.tbu.time)) ∧
          (∀ p ∈ s.las[l].pendingList, ∀ x, findRec t p.awaits = some x → x.flags.straddleSuspect = true) ∧
          (∀ k : Lane, ∀ p ∈ t.las[k].pendingList, ¬ held p.awaits) ∧
          (∀ k : Lane, ∀ p ∈ s.las[k].pendingList, held p.awaits → ∀ x, findRec t p.id = some x →
            x.st = .decided ∧ x.flags.straddleSuspect = true ∧ x.decTime = some s.tbu.time) ∧
          (∀ c : Chan, chanLane c = l → t.scu[c].det = .off ∧ t.scu[c].cur = none ∧ t.scu[c].stuckRun = 0) ∧
          (∀ c : Chan, chanLane c ≠ l → t.scu[c] = s.scu[c]) ∧
          (∀ m, t.zsc.meas = some m → chanLane m.chan ≠ l) ∧
          t.dkc.blind = blindNow t ∧ t.tbu = s.tbu ∧ t.csq = s.csq ∧ t.sst.live = s.sst.live ∧ t.rtk = s.rtk))

/-- DECK_CLOSE takes the deck to CLOSED from any other state, the timer dropped, with a DECK report, and changes nothing in CLOSED; it is
answered OK (R147). DECK_RELEASE is STATE under the safe flag; otherwise the deck enters RESYNC from any state: the lists are flushed,
each record they name having left the pool, the grants are cancelled and their records lead the queue, both loads are 0, the timer runs
for RESYNC_TIME (R143), and a DECK report is placed last (R148), after the flush by the model's choice (log entry 58). -/
def Obligations.DeckCloseAndRelease : Prop :=
  ∀ (r : Request) (s : State), r.payload = [] →
    (Asks 0x22 r s → ∃ t, exec .deckClose s = .next t ∧
      (s.dkc.st = .closed → AnsweredFrom r .ok .empty [] s t) ∧
      (s.dkc.st ≠ .closed →
        AnsweredFrom r .ok .empty
          [.deck ⟨.closed, some s.dkc.st, .deckClose, .allStop, s.dkc.onDeck, s.dkc.committed, s.dkc.queue.length, s.tbu.time⟩]
          { s with dkc := { s.dkc with st := .closed, timer := none } } t)) ∧
    (Asks 0x23 r s → s.liu.deb[mkInput].level = true → ∃ t, exec .deckRelease s = .next t ∧
      (s.cmn.safeFlag = true → AnsweredFrom r .state .empty [] s t) ∧
      (s.cmn.safeFlag = false →
        Formed t ∧ t.lki.requests = s.lki.requests.tail ∧
        answerPath t = answerPath s ++ [⟨r.type + 0x80, r.tag, .ok, .empty⟩] ∧
        t.dkc = { s.dkc with
          st := .resync, signal := .allStop, queue := s.dkc.grants.map (·.id) ++ s.dkc.queue, grants := [], committed := 0,
          onDeck := 0, lists := Vector.replicate 3 [], overstayGiven := Vector.replicate 3 false, listFull := false,
          overload := false, resyncOwed := false,
          timer := some (s.tbu.time + BitVec.ofNat 32 (s.sst.live.deck.resyncTime * 100000)) } ∧
        (∀ l : Lane, ∀ e ∈ s.dkc.lists[l], ∀ id, e.recId = some id → findRec t id = none) ∧
        (∀ g ∈ s.dkc.grants, ∀ v, findRec t g.id = some v → v.admission = .queued) ∧ DeckReported s.dkc.st .deckRelease t ∧
        t.tbu = s.tbu ∧ t.csq = s.csq ∧ t.scu = s.scu ∧ t.zsc = s.zsc ∧ t.liu = s.liu ∧ t.rtk = s.rtk ∧ t.trs = s.trs ∧
        t.sst.live = s.sst.live))

/-- DECK_CLEAR_HEAD removes the head of a present lane's list with its load; the record it refers to is closed OPERATOR_CLEARED (R141). A lane
outside 0 to 2 or absent is BAD_VALUE, an empty list STATE. An ISOLATED deck stays so while a noncompliant entry is left on it, and otherwise
moves on as R145 gives. Choices and readings of the model: a DECK report of an entry to OPEN or BLIND shows the account after the arbiter's
examination (log entry 14), that of an entry to RESYNC or BLIND after the flush (log entries 58 and 62), and the DECK report of a removal follows
its DISPOSITION and clear notices (log entry 57). -/
def Obligations.DeckClearsHead : Prop :=
  ∀ (r : Request) (s : State), Asks 0x24 r s → r.payload.length = 1 → s.liu.deb[mkInput].level = true →
    ∃ t, exec .deckClearHead s = .next t ∧
      (2 < byteAt r.payload 0 → AnsweredFrom r .badValue .empty [] s t) ∧
      (∀ l : Lane, l.val = byteAt r.payload 0 →
        (s.sst.live.site.laneCount ≤ l.val → AnsweredFrom r .badValue .empty [] s t) ∧
        (l.val < s.sst.live.site.laneCount → s.dkc.lists[l] = [] → AnsweredFrom r .state .empty [] s t) ∧
        (∀ e es, l.val < s.sst.live.site.laneCount → s.dkc.lists[l] = e :: es →
          Formed t ∧ t.lki.requests = s.lki.requests.tail ∧
          answerPath t = answerPath s ++ [⟨r.type + 0x80, r.tag, .ok, .empty⟩] ∧
          (∀ id, e.recId = some id → findRec t id = none) ∧
          (∀ id v, e.recId = some id → findRec s id = some v → s.rtb.pool.length + s.rtb.history.length ≤ 64 →
            ∃ z ∈ t.rtb.history, z.id = id ∧ z.closeTime = s.tbu.time ∧ z.disposition = .operatorCleared) ∧
          let lists := put s.dkc.lists l es
          let onDeck := s.dkc.onDeck - (if e.kind = .heavy then e.load else 0)
          (s.dkc.st = .isolated → IsolatedAfter s lists onDeck (DeckReported · · t) t) ∧
          (s.dkc.st ≠ .isolated → t.dkc.lists = lists ∧ t.dkc.onDeck = onDeck ∧
            (∀ id v, e.recId = some id → findRec s id = some v →
              t.rtb.history = insertHistory (summaryOf v .operatorCleared s.tbu.time) s.rtb.history)) ∧
          t.tbu = s.tbu ∧ t.csq = s.csq ∧ t.scu = s.scu ∧ t.zsc = s.zsc ∧ t.liu = s.liu ∧ t.rtk = s.rtk ∧
          t.trs = s.trs ∧ t.sst.live = s.sst.live))

/-- SIGN_FORCE, at any level and in every device mode (R106): d seconds, at most 3,600, force the sign of the lane named, or for 255 of every
present lane, until d seconds from now, any end time held being replaced; a duration of 0 removes the force. Another lane number, or an
absent lane, is BAD_VALUE and changes nothing. While an end time is held the sign of a present lane shows DIVERT. SIGN_FORCE_EXPIRY: when
the end time is reached it is removed. The aspects are formed afresh, and nothing else is changed. -/
def Obligations.SignForces : Prop :=
  (∀ (r : Request) (s : State), Asks 0x25 r s → r.payload.length = 3 →
     let d := min (u16At r.payload 1) 3600
     let force : Option Time := if d = 0 then none else some (s.tbu.time + BitVec.ofNat 32 (d * 100000))
     ∃ t, exec .signForce s = .next t ∧
       (byteAt r.payload 0 = 255 →
         AnsweredFrom r .ok .empty [] { s with dcu := { s.dcu with
           force := Vector.ofFn fun l : Lane => if l.val < s.sst.live.site.laneCount then force else s.dcu.force[l] } } t) ∧
       (∀ l : Lane, l.val = byteAt r.payload 0 → l.val < s.sst.live.site.laneCount →
         AnsweredFrom r .ok .empty [] { s with dcu := { s.dcu with force := put s.dcu.force l force } } t) ∧
       (byteAt r.payload 0 ≠ 255 → s.sst.live.site.laneCount ≤ byteAt r.payload 0 ∨ 2 < byteAt r.payload 0 →
         AnsweredFrom r .badValue .empty [] s t) ∧
       (∀ l : Lane, l.val < s.sst.live.site.laneCount → t.dcu.force[l] ≠ none → t.dcu.aspect[l] = .divert)) ∧
  (∀ (l : Lane) (finish : Time) (s : State), earlier s.tbu.time finish = false → s.dcu.force[l] = some finish →
     ∃ t, exec (.signForceExpiry l) s = .next t ∧
       FormedFrom { s with dcu := { s.dcu with force := put s.dcu.force l none } } t)

/-- CONVERT_ONE makes a single conversion pending that waits for the next pass; the key at OPERATE is ACCESS, a channel above 7 or a gain code
above 3 is BAD_VALUE, one already pending BUSY, checked in that order (R21). ZERO_NOW marks a channel of a present lane as requested; the
key at OPERATE is ACCESS, a channel above 5 or of an absent lane BAD_VALUE, one being measured BUSY, one not in the scan list at every
scan tick STATE (R40; that this list is the live generation's is the model's reading, log entry 36). -/
def Obligations.ConvertOneAndZeroNow : Prop :=
  ∀ (r : Request) (s : State),
    (Asks 0x40 r s → r.payload.length = 2 →
      ∃ t, exec .convertOne s = .next t ∧
        (s.liu.deb[mkInput].level = false → AnsweredFrom r .access .empty [] s t) ∧
        (s.liu.deb[mkInput].level = true →
          (7 < byteAt r.payload 0 ∨ 3 < byteAt r.payload 1 → AnsweredFrom r .badValue .empty [] s t) ∧
          (∀ (c : Fin 8) (g : Fin 4), c.val = byteAt r.payload 0 → g.val = byteAt r.payload 1 →
            (s.csq.single ≠ none → AnsweredFrom r .busy .empty [] s t) ∧
            (s.csq.single = none →
              AnsweredFrom r .ok .empty [] { s with csq := { s.csq with single := some ⟨c, g, false⟩ } } t)))) ∧
    (Asks 0x41 r s → r.payload.length = 1 →
      ∃ t, exec .zeroNow s = .next t ∧
        (s.liu.deb[mkInput].level = false → AnsweredFrom r .access .empty [] s t) ∧
        (s.liu.deb[mkInput].level = true →
          (5 < byteAt r.payload 0 → AnsweredFrom r .badValue .empty [] s t) ∧
          (∀ c : Chan, c.val = byteAt r.payload 0 →
            (s.sst.live.site.laneCount ≤ c.val / 2 → AnsweredFrom r .badValue .empty [] s t) ∧
            (c.val / 2 < s.sst.live.site.laneCount →
              ((∃ m, s.zsc.meas = some m ∧ m.chan = c) → AnsweredFrom r .busy .empty [] s t) ∧
              ((∀ m, s.zsc.meas = some m → m.chan ≠ c) →
                (scansChan s.sst.live.conv.scanList c = false → AnsweredFrom r .state .empty [] s t) ∧
                (scansChan s.sst.live.conv.scanList c = true →
                  AnsweredFrom r .ok .empty []
                    { s with zsc := { s.zsc with
                      chans := put s.zsc.chans c { s.zsc.chans[c] with requested := true } } } t))))))

/-! ### The Settings Store -/

/-- SETUP_BEGIN makes the working copy, blank under the safe flag and the live settings otherwise, and the device mode SETUP; it is BUSY
during a store write and STATE in SETUP. SETUP_ABANDON discards the working copy and the mode returns to SAFE or NORMAL by the flag; it
is BUSY during a store write and STATE outside SETUP (R177, R164).
SETUP_COMMIT of a working copy that passes its checks begins the store write and holds its answer; nothing is applied yet (R178, R179). It
is BUSY during a store write or while a generation is retained, STATE outside SETUP, and BAD_VALUE with the first failed check's
parameter and entry. -/
def Obligations.SetupRequests : Prop :=
  (∀ (r : Request) (s : State), r.payload = [] → s.liu.deb[mkInput].level = true →
     (Asks 0x30 r s → ∃ t, exec .setupBegin s = .next t ∧
       (s.sst.storeBusy = true → AnsweredFrom r .busy .empty [] s t) ∧
       (s.sst.storeBusy = false → s.cmn.mode = .setup → AnsweredFrom r .state .empty [] s t) ∧
       (s.sst.storeBusy = false → s.cmn.mode ≠ .setup →
         AnsweredFrom r .ok .empty []
           { s with
             sst := { s.sst with working := some (if s.cmn.safeFlag then blankSettings else s.sst.live) }
             cmn := { s.cmn with mode := .setup } } t)) ∧
     (Asks 0x32 r s → ∃ t, exec .setupAbandon s = .next t ∧
       (s.sst.storeBusy = true → AnsweredFrom r .busy .empty [] s t) ∧
       (s.sst.storeBusy = false → s.cmn.mode ≠ .setup → AnsweredFrom r .state .empty [] s t) ∧
       (s.sst.storeBusy = false → s.cmn.mode = .setup →
         AnsweredFrom r .ok .empty []
           { s with
             sst := { s.sst with working := none }
             cmn := { s.cmn with mode := if s.cmn.safeFlag then .safe else .normal } } t))) ∧
  (∀ (r : Request) (s : State), Asks 0x31 r s → r.payload = [] → s.liu.deb[mkInput].level = true →
     ∃ t, exec .setupCommit s = .next t ∧
       (s.sst.storeBusy = true → AnsweredFrom r .busy .empty [] s t) ∧
       (s.sst.storeBusy = false → s.cmn.mode ≠ .setup → AnsweredFrom r .state .empty [] s t) ∧
       (s.sst.storeBusy = false → s.cmn.mode = .setup →
         (s.sst.retained ≠ none → AnsweredFrom r .busy .empty [] s t) ∧
         (s.sst.retained = none → ∀ w, s.sst.working = some w →
           (∀ p e, commitFailure s w = some (p, e) → AnsweredFrom r .badValue (.badSetting p e) [] s t) ∧
           (commitFailure s w = none →
             FormedFrom { s with
               sst := { s.sst with storeBusy := true }
               lki := { s.lki with requests := s.lki.requests.tail, heldCommit := some r.tag } } t))))

/-- The commit checks, in the order of Table 12-7 and within it of Table 1-3, Table 2-3, R93 and Table 7-6, with the parameter number and the
entry, 255 for no table entry, that the first failure carries (R4, R17, R93, R104, R178): lane count (1), lanes open at start (2 to 4),
the ranges of the strip spacing (5 to 7), sign (8 to 10), slip (11 to 13) and threshold distances (14 to 16) of every lane, then their
order in each present lane; one END mark, EVERY of each used entry from 1 to 255, no channel twice, the lanes open at start or now
covered (21), the pass and its spare slot inside the scan period (20); PULSE_OFF at most PULSE_ON (31); F_ch set for the channels of
present lanes (90 to 95), MARGIN_A at most MARGIN_B (107); the gap bounds rising (121, 122), the class entries (125), every row's gross
limit at most DECK_BUDGET (126) and above HEAVY_THRESHOLD (123). A working copy that passes keeps all of it. -/
def Obligations.CommitChecks : Prop :=
  ∀ (s : State) (w : Settings),
    let list := w.conv.scanList
    let present : Lane → Bool := fun l => l.val < w.site.laneCount
    let used : Fin 16 → Bool := fun j => decide (∀ i : Fin 16, i < j → list[i].endMark = false)
    let lanes : List Lane := [0, 1, 2]
    let entries : List (Fin 16) := List.finRange 16
    let rows : List (Fin 8) := List.finRange 8
    let checks : List (Bool × Nat × Nat) :=
      [(decide (1 ≤ w.site.laneCount ∧ w.site.laneCount ≤ 3), 1, 255)] ++
      lanes.map (fun l => (present l || !w.site.startOpen[l], 2 + l.val, 255)) ++
      lanes.flatMap (fun l =>
        [(decide (1000 ≤ w.site.stripSpacing[l] ∧ w.site.stripSpacing[l] ≤ 5000), 5 + l.val, 255),
         (decide (20000 ≤ w.site.signDist[l] ∧ w.site.signDist[l] ≤ 2000000), 8 + l.val, 255),
         (decide (20000 ≤ w.site.slipDist[l] ∧ w.site.slipDist[l] ≤ 3000000), 11 + l.val, 255),
         (decide (40000 ≤ w.site.threshDist[l] ∧ w.site.threshDist[l] ≤ 4000000), 14 + l.val, 255)]) ++
      lanes.map (fun l => (!present l || decide (w.site.signDist[l] < w.site.slipDist[l]), 11 + l.val, 255)) ++
      lanes.map (fun l => (!present l || decide (w.site.slipDist[l] < w.site.threshDist[l]), 14 + l.val, 255)) ++
      [(entries.any fun j => list[j].endMark, 21, 255)] ++
      entries.map (fun j => (!(list[j].endMark && !used j), 21, j.val)) ++
      entries.map (fun j => (!used j || decide (1 ≤ list[j].every ∧ list[j].every ≤ 255), 21, j.val)) ++
      entries.map (fun j => (!used j || decide (∀ i : Fin 16, i < j → list[i].channel ≠ list[j].channel), 21, j.val)) ++
      [(lanes.all fun l => !(w.site.startOpen[l] || laneModeOf s l != .closed) ||
          ([2 * l.val, 2 * l.val + 1].all fun c => entries.any fun j =>
            used j && list[j].channel.val == c && list[j].every == 1), 21, 255),
       (decide ((entries.filter used).length ≤ w.conv.scanDiv), 20, 255),
       (decide (w.det.pulseOff ≤ w.det.pulseOn), 31, 255)] ++
      (List.finRange 6).map (fun c => (decide (w.site.laneCount ≤ c.val / 2) || (w.weigh.fch[c]).isSome, 90 + c.val, 255)) ++
      [(decide (w.weigh.marginA ≤ w.weigh.marginB), 107, 255), (decide (w.dec.gapB1 < w.dec.gapB2), 121, 255),
       (decide (w.dec.gapB2 < w.dec.gapB3), 122, 255)] ++
      entries.map (fun j =>
        (!w.dec.classTable[j].valid || decide (w.dec.classTable[j].axMin ≤ w.dec.classTable[j].axMax), 125, j.val)) ++
      rows.map (fun j => (decide (w.dec.limitRows[j].gross ≤ w.deck.budget), 126, j.val)) ++
      [(rows.all fun j => w.dec.heavyThreshold < w.dec.limitRows[j].gross, 123, 255)]
    commitFailure s w = (checks.find? fun c => !c.1).map (·.2) ∧
    (commitFailure s w = none →
      1 ≤ w.site.laneCount ∧ w.site.laneCount ≤ 3 ∧
      (∀ l : Lane,
        1000 ≤ w.site.stripSpacing[l] ∧ w.site.stripSpacing[l] ≤ 5000 ∧
        20000 ≤ w.site.signDist[l] ∧ w.site.signDist[l] ≤ 2000000 ∧
        20000 ≤ w.site.slipDist[l] ∧ w.site.slipDist[l] ≤ 3000000 ∧
        40000 ≤ w.site.threshDist[l] ∧ w.site.threshDist[l] ≤ 4000000) ∧
      (∀ l : Lane, l.val < w.site.laneCount →
        w.site.signDist[l] < w.site.slipDist[l] ∧ w.site.slipDist[l] < w.site.threshDist[l]) ∧
      (∀ l : Lane, w.site.laneCount ≤ l.val → w.site.startOpen[l] = false) ∧
      (∃ j : Fin 16, list[j].endMark = true ∧ (∀ k : Fin 16, list[k].endMark = true → k = j) ∧
        (∀ a b : Fin 16, a < b → b ≤ j → list[a].channel ≠ list[b].channel) ∧
        (∀ a : Fin 16, a ≤ j → 1 ≤ list[a].every ∧ list[a].every ≤ 255) ∧
        j.val + 1 ≤ w.conv.scanDiv) ∧
      (∀ l : Lane, w.site.startOpen[l] = true ∨ laneModeOf s l ≠ .closed → coversLane list l = true) ∧
      w.det.pulseOff ≤ w.det.pulseOn ∧
      (∀ c : Chan, c.val / 2 < w.site.laneCount → w.weigh.fch[c] ≠ none) ∧ w.weigh.marginA ≤ w.weigh.marginB ∧
      w.dec.gapB1 < w.dec.gapB2 ∧ w.dec.gapB2 < w.dec.gapB3 ∧
      (∀ j : Fin 16, w.dec.classTable[j].valid = true → w.dec.classTable[j].axMin ≤ w.dec.classTable[j].axMax) ∧
      (∀ j : Fin 8, w.dec.limitRows[j].gross ≤ w.deck.budget ∧ w.dec.heavyThreshold < w.dec.limitRows[j].gross))

/-- PARAM_WRITE and TABLE_WRITE in SETUP change one setting of the working copy and nothing else; an unknown number or entry, or a value or a
field out of range, is BAD_VALUE, a store write BUSY, another device mode STATE (R177). The ranges are those of 12, section 12.7, with TEMP_GAIN not
0 and LINK_BAUD one of the five rates of R183, and of Tables 2-2, 7-3 and 7-5; that named values are coded by their place in the listed order, and
TRACE_CH as a mask, is the model's choice (log entry 6). -/
def Obligations.WorkingCopyWrites : Prop :=
  ∀ (r : Request) (s : State), s.liu.deb[mkInput].level = true →
    let refusals : State → Prop := fun t =>
      (s.sst.storeBusy = true → AnsweredFrom r .busy .empty [] s t) ∧
      (s.sst.storeBusy = false → s.cmn.mode ≠ .setup → AnsweredFrom r .state .empty [] s t)
    let written : Settings → State → Prop := fun w' t =>
      AnsweredFrom r .ok .empty [] { s with sst := { s.sst with working := some w' } } t
    let bad : State → Prop := AnsweredFrom r .badValue .empty [] s
    let ranges : List (Nat × Nat × Int × Int) :=
      [(1, 1, 1, 3), (2, 4, 0, 1), (5, 7, 1000, 5000), (8, 10, 20000, 2000000), (11, 13, 20000, 3000000), (14, 16, 40000, 4000000),
       (20, 20, 16, 999), (22, 22, -262144, 262143), (23, 23, -65535, 65535), (24, 24, 10, 3600), (25, 25, -262144, 262136),
       (26, 26, 0, 262143), (27, 27, 1, 255), (30, 30, 1, 262143), (31, 31, 1, 262143), (32, 32, 1, 64), (33, 33, 16, 1024),
       (34, 34, 0, 16), (35, 40, -262144, 262136), (41, 41, 16, 1024), (42, 42, 10, 3600), (43, 43, 60, 86400), (44, 44, 0, 524280),
       (45, 45, 0, 524280), (50, 59, 0, 1), (60, 69, 0, 1), (70, 70, 1, 500), (71, 71, 10, 3600), (72, 72, 4, 100), (73, 73, 0, 3),
       (80, 80, 5000, 40000), (81, 81, 500, 5000), (82, 82, 500, 40000), (83, 83, 3000, 30000), (84, 84, 100, 10000), (85, 85, 0, 500),
       (86, 86, 100, 3000), (90, 95, 1, 1048575), (96, 104, 2048, 8191), (105, 105, 1, 500), (106, 106, 0, 500), (107, 107, 0, 500),
       (108, 108, 1, 50), (109, 109, 500, 3000), (110, 110, 500, 10000), (120, 122, 500, 20000), (123, 123, 1000, 100000),
       (124, 124, 1, 13), (127, 127, 20, 2000), (140, 140, 0, 100), (141, 141, 300, 10000), (142, 142, 30, 3600), (143, 143, 100, 5000),
       (150, 150, 5000, 200000), (151, 151, 1, 8), (152, 152, 10, 3600), (153, 153, 0, 600), (154, 154, 10, 1800), (155, 155, 0, 3600),
       (156, 156, 10, 3600), (157, 157, 10, 3600), (158, 158, 30, 7200), (159, 159, 1000, 100000), (160, 160, 0, 2), (161, 161, 0, 63),
       (170, 170, 9600, 115200), (171, 171, 5, 3600)]
    let takes : Nat → Int → Prop := fun n v =>
      (∃ x ∈ ranges, x.1 ≤ n ∧ n ≤ x.2.1 ∧ x.2.2.1 ≤ v ∧ v ≤ x.2.2.2) ∧ (n = 23 → v ≠ 0) ∧
      (n = 170 → v = 9600 ∨ v = 19200 ∨ v = 38400 ∨ v = 57600 ∨ v = 115200)
    (Asks 0x33 r s → r.payload.length = 6 →
      let n := u16At r.payload 0
      let v := (BitVec.ofNat 32 (u32At r.payload 2)).toInt
      ∃ t, exec .paramWrite s = .next t ∧ refusals t ∧
        (s.sst.storeBusy = false → s.cmn.mode = .setup →
          (∀ w, s.sst.working = some w → takes n v → ∃ p, Param.ofNumber n = some p ∧ written (Param.set w v p) t) ∧
          (¬ takes n v → bad t))) ∧
    (Asks 0x35 r s → tableWriteFits r.payload = true →
      let n := u16At r.payload 0
      let e := byteAt r.payload 2
      let field : Nat → Nat := byteAt r.payload
      let limit : Nat → Int := s32At r.payload
      ∃ t, exec .tableWrite s = .next t ∧ refusals t ∧
        (s.sst.storeBusy = false → s.cmn.mode = .setup →
          (∀ w, s.sst.working = some w →
            (∀ (j : Fin 16) (c : Fin 8) (g : Fin 4), n = 21 → j.val = e → c.val = field 3 → g.val = field 4 →
              1 ≤ field 5 → field 6 ≤ 1 →
              let x : ScanEntry := ⟨c, g, field 5, field 6 == 1⟩
              written { w with conv := { w.conv with scanList := put w.conv.scanList j x } } t) ∧
            (∀ j : Fin 8, n = 126 → j.val = e → 1000 ≤ limit 3 → limit 3 ≤ 200000 → 1000 ≤ limit 7 → limit 7 ≤ 60000 →
              1000 ≤ limit 11 → limit 11 ≤ 120000 → 1000 ≤ limit 15 → limit 15 ≤ 180000 →
              let row : LimitRow := ⟨(limit 3).toNat, (limit 7).toNat, (limit 11).toNat, (limit 15).toNat⟩
              written { w with dec := { w.dec with limitRows := put w.dec.limitRows j row } } t) ∧
            (∀ (j : Fin 16) (row : Fin 8), n = 125 → j.val = e → field 3 ≤ 1 → 1 ≤ field 4 → field 4 ≤ 12 → 1 ≤ field 5 →
              field 5 ≤ 12 → (∀ i : Fin 8, field (6 + i.val) ≤ 3 ∧ field (14 + i.val) ≤ 3) → row.val = field 22 → field 23 ≤ 1 →
              let x : ClassEntry :=
                { valid := field 3 == 1, axMin := field 4, axMax := field 5, pattern := Vector.ofFn fun i => field (6 + i.val)
                  mask := Vector.ofFn fun i => field (14 + i.val), row := row, heavy := field 23 == 1 }
              written { w with dec := { w.dec with classTable := put w.dec.classTable j x } } t)) ∧
          (n = 21 → 15 < e ∨ 7 < field 3 ∨ 3 < field 4 ∨ field 5 = 0 ∨ 1 < field 6 → bad t) ∧
          (n = 126 → 7 < e ∨ limit 3 < 1000 ∨ 200000 < limit 3 ∨ limit 7 < 1000 ∨ 60000 < limit 7 ∨ limit 11 < 1000 ∨
            120000 < limit 11 ∨ limit 15 < 1000 ∨ 180000 < limit 15 → bad t) ∧
          (n = 125 → 15 < e ∨ 1 < field 3 ∨ field 4 = 0 ∨ 12 < field 4 ∨ field 5 = 0 ∨ 12 < field 5 ∨
            (∃ j : Fin 8, 3 < field (6 + j.val) ∨ 3 < field (14 + j.val)) ∨ 7 < field 22 ∨ 1 < field 23 → bad t) ∧
          (n ≠ 21 → n ≠ 125 → n ≠ 126 → bad t)))

/-- Every parameter is named by its own number and by no other, and what a write in range stores is what a read gives (12, section 12.7).
PARAM_READ and TABLE_READ, at every access level, give a setting of the live settings in every device mode, or of the working copy in
SETUP, and change nothing; an unknown number or entry is BAD_VALUE, and WORKING outside SETUP is STATE (R177). That BAD_VALUE comes first where both
hold, and is given for a source that is neither LIVE nor WORKING, is the model's choice (log entry 63). -/
def Obligations.ParamsReadBack : Prop :=
  (∀ p : Param, Param.ofNumber p.number = some p) ∧
  (∀ (n : Nat) (p : Param), Param.ofNumber n = some p → n = p.number) ∧
  (∀ (p : Param) (v : Int) (st : Settings), p.accepts v = true → Param.get (Param.set st v p) p = v) ∧
  (∀ (r : Request) (s : State),
    let answered : Nat → (Settings → AnswerBody) → State → Prop := fun source body t =>
      (source = 0 → AnsweredFrom r .ok (body s.sst.live) [] s t) ∧
      (source = 1 → s.cmn.mode = .setup → ∀ w, s.sst.working = some w → AnsweredFrom r .ok (body w) [] s t) ∧
      (source = 1 → s.cmn.mode ≠ .setup → AnsweredFrom r .state .empty [] s t) ∧
      (1 < source → AnsweredFrom r .badValue .empty [] s t)
    (Asks 0x34 r s → r.payload.length = 3 →
      ∃ t, exec .paramRead s = .next t ∧
        (∀ p, Param.ofNumber (u16At r.payload 0) = some p →
          answered (byteAt r.payload 2) (fun st => .param (Param.get st p)) t) ∧
        (Param.ofNumber (u16At r.payload 0) = none → AnsweredFrom r .badValue .empty [] s t)) ∧
    (Asks 0x36 r s → r.payload.length = 4 →
      let n := u16At r.payload 0
      let e := byteAt r.payload 2
      ∃ t, exec .tableRead s = .next t ∧
        (∀ j : Fin 16, n = 21 → j.val = e → answered (byteAt r.payload 3) (fun st => .scanEntry st.conv.scanList[j]) t) ∧
        (∀ j : Fin 16, n = 125 → j.val = e → answered (byteAt r.payload 3) (fun st => .classEntry st.dec.classTable[j]) t) ∧
        (∀ j : Fin 8, n = 126 → j.val = e → answered (byteAt r.payload 3) (fun st => .limitRow st.dec.limitRows[j]) t) ∧
        ((n ≠ 21 ∧ n ≠ 125 ∧ n ≠ 126) ∨ 15 < e ∨ (n = 126 ∧ 7 < e) → AnsweredFrom r .badValue .empty [] s t)))

/-- The end of a store write (R179, R180): the working copy is live as the next generation, the one before it is kept only while a record or
an unrecorded vehicle needs it, the image and its good mark are replaced, SETUP and the safe flag end, STORE_FAULT takes a fault cause where
the image does not read back, the commit is answered OK before the answers that waited behind it, a lane made present has its closed mark set
(R163), idle detectors run under the new detector settings (R34), and the converter settings in force wait for the next scan tick (R16).
A loop that goes out of use loses its candidate, edge times, chatter, stuck grade and announcement, with a clear notice for each of LOOP_STUCK
and LOOP_CHATTER that was raised; one that comes into use takes its level without an event; one whose LOOP_POL changes is read again, the
commit being a raw edge for its debounce alone; the others stay (R54). A lane made absent has its deck list flushed, its records there
closed (R142), and no camera pulse (log entry 35); unless it was CLOSED its assembler is emptied, the records it held leave the pool, those
of several such lanes together (log entry 38), no record awaits one of them, and its detectors go OFF (R73, R33). A TRACE_MODE other than
HOLD_ON_DIVERT leaves no hold (R172), also where the commit gives a divert notice (log entry 43). The deck settings apply: a shorter WIN_LEN removes grant times, the overload condition is
formed afresh, the arbiter has examined the head, grants and the last grant time are kept, and a longer DECK_OVERSTAY is tested from the
entry times (R151; the latch of each entry, log entry 34). Log entries 34, 35 and 38 are readings of the model, 43 its choice. -/
def Obligations.StoreWriteEnds : Prop :=
  ∀ (good : Bool) (w : Settings) (s : State), s.sst.storeBusy = true → s.sst.working = some w →
    ∃ t, exec (.storeWriteEnd good) s = .next t ∧ Formed t ∧
      t.sst.live = w ∧ t.sst.liveGen = s.sst.liveGen + 1 ∧ t.sst.working = none ∧ t.sst.storeBusy = false ∧
      t.sst.image = w ∧ t.sst.imageGood = good ∧
      (t.sst.retained = none ∨ t.sst.retained = some (s.sst.liveGen, s.sst.live)) ∧
      t.cmn.safeFlag = false ∧ t.cmn.mode = .normal ∧
      t.cmn.conds[storeFaultIx] =
        (if good then s.cmn.conds[storeFaultIx] else causedEntry true s.tbu.time s.cmn.conds[storeFaultIx]) ∧
      (∀ tag, s.lki.heldCommit = some tag →
        t.lki.heldCommit = none ∧ t.lki.behind = [] ∧
        answerPath t = (match s.lki.tx with | some (.answer a) => [a] | _ => []) ++ s.lki.ready ++
          [⟨0xB1, tag, .ok, .empty⟩] ++ s.lki.behind) ∧
      (∀ l : Lane, t.cmn.closedMark[l] =
        if s.sst.live.site.laneCount ≤ l.val ∧ l.val < w.site.laneCount then true else s.cmn.closedMark[l]) ∧
      (∀ c : Chan, t.scu[c].det = .idle → t.scu[c].cfg = w.det) ∧
      (w.link.traceMode ≠ .holdOnDivert → t.trs.held = none) ∧
      t.liu.pins = s.liu.pins ∧
      (∀ l : Loop,
        let used := loopInUse s.sst.live l
        let uses := loopInUse w l
        let i := loopInput l
        let level := levelUnder w i s.liu.pins[i]
        let x := s.liu.loops[l]
        let d := s.liu.deb[i]
        let noticed : CondIx → Bool → Prop := fun ix raised =>
          t.cmn.conds[ix] = if raised then clearedEntry s.tbu.time s.cmn.conds[ix] else s.cmn.conds[ix]
        (used = true → uses = false →
          t.liu.loops[l] = { x with announced := false, stuck := .none, chatter := none, edges := [] } ∧
          t.liu.deb[i] = { d with level := false, cand := none } ∧
          noticed (loopStuckIx l) (x.stuck != .none) ∧ noticed (chatterIx l) x.chatter.isSome) ∧
        (used = false → uses = true →
          t.liu.loops[l] = { x with
            occStart := if level then s.tbu.time else x.occStart, announced := false, stuck := .none, chatter := none, edges := [] } ∧
          t.liu.deb[i] = { d with level := level, cand := none }) ∧
        (used = uses → t.liu.loops[l] = x ∧
          t.liu.deb[i] = if used = true ∧ s.sst.live.loop.loopPol[l] ≠ w.loop.loopPol[l] ∧ level ≠ d.level then
            { d with lastEdge := s.tbu.time, cand := if d.cand.isSome then d.cand else some ⟨level, s.tbu.time⟩ } else d)) ∧
      (∀ l : Lane, l.val < s.sst.live.site.laneCount → w.site.laneCount ≤ l.val →
        let held : Nat → Prop := fun id => (∃ v ∈ s.las[l].openVeh, v.owner = .recorded id) ∨
          (∃ v ∈ s.las[l].sealed, v.owner = .recorded id) ∨ ∃ p ∈ s.las[l].pendingList, p.id = id
        t.dcu.camera[l] = none ∧ t.dkc.lists[l] = [] ∧
        (∀ e ∈ s.dkc.lists[l], ∀ id, e.recId = some id → findRec t id = none) ∧
        (laneModeOf s l ≠ .closed →
          t.las[l] = { s.las[l] with
            fifo := [], openVeh := none, sealed := [], pendingList := [], vref := none, silentS1 := 0, silentS2 := 0 } ∧
          (∀ id, held id → findRec t id = none) ∧
          (∀ k : Lane, ∀ p ∈ t.las[k].pendingList, ¬ held p.awaits) ∧
          (∀ c : Chan, chanLane c = l → t.scu[c].det = .off ∧ t.scu[c].cur = none ∧ t.scu[c].stuckRun = 0) ∧
          (∀ m, t.zsc.meas = some m → chanLane m.chan ≠ l))) ∧
      t.dkc.blind = blindNow t ∧
      (∃ n : Nat, t.dkc.grantTimes =
        (s.dkc.grantTimes.filter fun x => decide ((s.tbu.time - x).toNat < w.deck.winLen * 100000)) ++
          List.replicate n s.tbu.time) ∧
      (t.dkc.overload = true ↔ w.deck.budget < t.dkc.onDeck ∨ t.dkc.listFull = true) ∧
      (∀ i u, headUpper t = some (i, u) → mayGrant u t = false) ∧
      (∀ g ∈ t.dkc.grants, g ∈ s.dkc.grants ∨ g.time = s.tbu.time) ∧
      (t.dkc.lastGrant = s.dkc.lastGrant ∨ ∃ g, t.dkc.lastGrant = some g ∧ g.time = s.tbu.time) ∧
      (∀ l : Lane, ∀ e ∈ t.dkc.lists[l], ∃ old ∈ s.dkc.lists[l], e.recId = old.recId ∧ e.entryTime = old.entryTime ∧
        e.aged = if s.sst.live.deck.overstay < w.deck.overstay then
          old.agedFull || decide (w.deck.overstay * 100000 ≤ (s.tbu.time - old.entryTime).toNat) else old.aged) ∧
      t.csq = s.csq ∧ t.tbu = s.tbu ∧ t.lki.requests = s.lki.requests

/-! ### Starts -/

/-- A cold start with no store write interrupted (R181, R5, R26, R36, R44, R74, R113, R152, R164, R166). With a good image the controller
runs on it as generation 1 in NORMAL, the deck in RESYNC; with a bad checksum it runs in SAFE mode on the default settings with the deck
CLOSED and STORE_FAULT in FAULT. Time is 0, nothing is recorded, queued or reported but the start.
The DECK report of START_SAFE carries no previous state, by the model's choice (log entry 7). That a cold start which interrupts a store
write finds the old image, the new one, or a bad checksum is the model's reading (log entry 9); for every value of the free value that
says which, it runs on the image it finds as generation 1, or in SAFE mode on the defaults. That the scan divider is 0 until the first scan
tick is its choice (log entry 66). -/
def Obligations.ColdStart : Prop :=
  (∀ s : State, s.sst.storeBusy = false →
     ∃ t, exec .coldStart s = .next t ∧ Formed t ∧
       t.tbu = ⟨0, 0, 0, 0, true⟩ ∧ t.rtb = ⟨[], Vector.replicate 3 [], [], 1⟩ ∧
       t.lki.requests = [] ∧ answerPath t = [] ∧ t.lki.heldCommit = none ∧ t.lki.coldInd = true ∧ t.lki.lastWarm = false ∧
       t.dkc.queue = [] ∧ t.dkc.grants = [] ∧ t.dkc.grantTimes = [] ∧ t.dkc.onDeck = 0 ∧ t.dkc.committed = 0 ∧
       (∀ l : Lane, t.las[l].fifo = [] ∧ t.las[l].openVeh = none ∧ t.dkc.lists[l] = []) ∧
       t.liu.pins = s.liu.pins ∧ t.sst.image = s.sst.image ∧ t.sst.working = none ∧ t.pending = s.pending ∧
       (s.sst.imageGood = true →
         t.sst.live = s.sst.image ∧ t.sst.liveGen = 1 ∧ t.cmn.mode = .normal ∧ t.cmn.safeFlag = false ∧
         t.dkc.st = .resync ∧ t.dkc.timer = some (BitVec.ofNat 32 (s.sst.image.deck.resyncTime * 100000)) ∧
         t.cmn.conds = Vector.replicate 65 CondEntry.initial ∧ reportPath t = [.start false false 1 0] ∧
         (∀ c : Chan, t.zsc.chans[c].baseline = s.sst.image.zero.baseRef[c])) ∧
       (s.sst.imageGood = false →
         t.sst.live = blankSettings ∧ t.sst.liveGen = 0 ∧ t.cmn.mode = .safe ∧ t.cmn.safeFlag = true ∧
         t.dkc.st = .closed ∧ t.dkc.timer = none ∧
         t.cmn.conds = put (Vector.replicate 65 CondEntry.initial) storeFaultIx ⟨.fault, 1, some 0, some 0, true, none, false⟩ ∧
         reportPath t = [.start false true 0 0, .deck ⟨.closed, none, .startSafe, .allStop, 0, 0, 0, 0⟩,
           .condition ⟨storeFaultIx, .fault, .clear, 1, some 0, some 0, 0⟩])) ∧
  (∀ (w : Settings) (s : State), s.sst.storeBusy = true → s.sst.working = some w →
     ∃ t, exec .coldStart s = .next t ∧ Formed t ∧ t.sst.storeBusy = false ∧ t.tbu = ⟨0, 0, 0, 0, true⟩ ∧
       ((t.cmn.safeFlag = true ∧ t.cmn.mode = .safe ∧ t.sst.live = blankSettings ∧ t.dkc.st = .closed) ∨
        (t.cmn.safeFlag = false ∧ t.cmn.mode = .normal ∧ t.sst.liveGen = 1 ∧ t.dkc.st = .resync ∧
         ((t.sst.live = s.sst.image ∧ s.sst.imageGood = true) ∨ t.sst.live = w))))

/-- A warm start, due once the OK answer to RESTART is sent (R182): the settings, their generation, the safe
flag, the masks, the history and the next record id are kept; a latching condition in FAULT or RECOVERING is FAULT with its count kept and
its times 0, every other entry is as after a cold start (R166; log entry 31 for its counts); time is 0, the pool and the queues are
empty, and START, marked warm, is the first report. The image stays, but that a store write which began after RESTART was taken is cut short
and leaves the old image, the new one or a bad checksum is the model's reading (log entries 9 and 30). That the scan divider is 0 until the
first scan tick is its choice (log entry 66). -/
def Obligations.WarmStartKeeps : Prop :=
  ∀ s : State, s.lki.warmDue = true → s.lki.tx = none →
    ∃ t, exec .warmStart s = .next t ∧ Formed t ∧
      t.tbu = ⟨0, 0, 0, 0, true⟩ ∧ t.sst.live = s.sst.live ∧ t.sst.liveGen = s.sst.liveGen ∧ t.sst.retained = none ∧
      t.sst.working = none ∧ t.sst.storeBusy = false ∧ t.lki.heldCommit = none ∧
      (s.sst.storeBusy = false →
        t.sst.image = s.sst.image ∧ t.sst.imageGood = s.sst.imageGood ∧ t.sst.checksum = s.sst.checksum) ∧
      (∀ w, s.sst.storeBusy = true → s.sst.working = some w → t.sst.imageGood = false ∨ (t.sst.image = w ∧ t.sst.imageGood = true) ∨
        (t.sst.image = s.sst.image ∧ t.sst.imageGood = s.sst.imageGood ∧ t.sst.checksum = s.sst.checksum)) ∧
      t.rtb = ⟨[], Vector.replicate 3 [], s.rtb.history, s.rtb.nextId⟩ ∧
      t.cmn.safeFlag = s.cmn.safeFlag ∧ t.cmn.mode = (if s.cmn.safeFlag then .safe else .normal) ∧ t.cmn.mask = s.cmn.mask ∧
      t.dkc.st = (if s.cmn.safeFlag then .closed else .resync) ∧ t.dkc.queue = [] ∧ t.dkc.grants = [] ∧
      (∀ ix : CondIx, t.cmn.conds[ix] =
        if (kindOf ix).1.latching = true ∧ (s.cmn.conds[ix].st = .fault ∨ s.cmn.conds[ix].st = .recovering) then
          ⟨.fault, s.cmn.conds[ix].count, some 0, some 0, true, none, false⟩
        else ⟨.clear, 0, none, none, false, none, false⟩) ∧
      (reportPath t).head? = some (.start true s.cmn.safeFlag s.sst.liveGen 0) ∧
      t.lki.requests = [] ∧ answerPath t = [] ∧ t.lki.coldInd = s.lki.coldInd ∧ t.lki.lastWarm = true ∧ t.lki.warmDue = false ∧
      t.liu.pins = s.liu.pins ∧ (∀ l : Lane, t.las[l].fifo = [] ∧ t.dkc.lists[l] = [])
end

