-- ==== Sys2Proof/Laws/State.lean ====
section
/-! SUPPORT. One lemma per field for each named update of the state: the fields it leaves alone. -/

namespace Sys2Proof.Machine

variable (s : State)

@[simp] theorem changeRec_tbu (id : Nat) (f : VRecord → VRecord) : (changeRec id f s).tbu = s.tbu := rfl
@[simp] theorem changeRec_csq (id : Nat) (f : VRecord → VRecord) : (changeRec id f s).csq = s.csq := rfl
@[simp] theorem changeRec_scu (id : Nat) (f : VRecord → VRecord) : (changeRec id f s).scu = s.scu := rfl
@[simp] theorem changeRec_zsc (id : Nat) (f : VRecord → VRecord) : (changeRec id f s).zsc = s.zsc := rfl
@[simp] theorem changeRec_liu (id : Nat) (f : VRecord → VRecord) : (changeRec id f s).liu = s.liu := rfl
@[simp] theorem changeRec_las (id : Nat) (f : VRecord → VRecord) : (changeRec id f s).las = s.las := rfl
@[simp] theorem changeRec_dcu (id : Nat) (f : VRecord → VRecord) : (changeRec id f s).dcu = s.dcu := rfl
@[simp] theorem changeRec_rtk (id : Nat) (f : VRecord → VRecord) : (changeRec id f s).rtk = s.rtk := rfl
@[simp] theorem changeRec_dkc (id : Nat) (f : VRecord → VRecord) : (changeRec id f s).dkc = s.dkc := rfl
@[simp] theorem changeRec_cmn (id : Nat) (f : VRecord → VRecord) : (changeRec id f s).cmn = s.cmn := rfl
@[simp] theorem changeRec_trs (id : Nat) (f : VRecord → VRecord) : (changeRec id f s).trs = s.trs := rfl
@[simp] theorem changeRec_lki (id : Nat) (f : VRecord → VRecord) : (changeRec id f s).lki = s.lki := rfl
@[simp] theorem changeRec_sst (id : Nat) (f : VRecord → VRecord) : (changeRec id f s).sst = s.sst := rfl
@[simp] theorem changeRec_freeIndex (id : Nat) (f : VRecord → VRecord) : (changeRec id f s).freeIndex = s.freeIndex := rfl
@[simp] theorem changeRec_pending (id : Nat) (f : VRecord → VRecord) : (changeRec id f s).pending = s.pending := rfl

@[simp] theorem changeLas_tbu (l : Lane) (f : LasState → LasState) : (changeLas l f s).tbu = s.tbu := rfl
@[simp] theorem changeLas_csq (l : Lane) (f : LasState → LasState) : (changeLas l f s).csq = s.csq := rfl
@[simp] theorem changeLas_scu (l : Lane) (f : LasState → LasState) : (changeLas l f s).scu = s.scu := rfl
@[simp] theorem changeLas_zsc (l : Lane) (f : LasState → LasState) : (changeLas l f s).zsc = s.zsc := rfl
@[simp] theorem changeLas_liu (l : Lane) (f : LasState → LasState) : (changeLas l f s).liu = s.liu := rfl
@[simp] theorem changeLas_dcu (l : Lane) (f : LasState → LasState) : (changeLas l f s).dcu = s.dcu := rfl
@[simp] theorem changeLas_rtb (l : Lane) (f : LasState → LasState) : (changeLas l f s).rtb = s.rtb := rfl
@[simp] theorem changeLas_rtk (l : Lane) (f : LasState → LasState) : (changeLas l f s).rtk = s.rtk := rfl
@[simp] theorem changeLas_dkc (l : Lane) (f : LasState → LasState) : (changeLas l f s).dkc = s.dkc := rfl
@[simp] theorem changeLas_cmn (l : Lane) (f : LasState → LasState) : (changeLas l f s).cmn = s.cmn := rfl
@[simp] theorem changeLas_trs (l : Lane) (f : LasState → LasState) : (changeLas l f s).trs = s.trs := rfl
@[simp] theorem changeLas_lki (l : Lane) (f : LasState → LasState) : (changeLas l f s).lki = s.lki := rfl
@[simp] theorem changeLas_sst (l : Lane) (f : LasState → LasState) : (changeLas l f s).sst = s.sst := rfl
@[simp] theorem changeLas_freeIndex (l : Lane) (f : LasState → LasState) : (changeLas l f s).freeIndex = s.freeIndex := rfl
@[simp] theorem changeLas_pending (l : Lane) (f : LasState → LasState) : (changeLas l f s).pending = s.pending := rfl

@[simp] theorem changeScu_tbu (c : Chan) (f : ScuState → ScuState) : (changeScu c f s).tbu = s.tbu := rfl
@[simp] theorem changeScu_csq (c : Chan) (f : ScuState → ScuState) : (changeScu c f s).csq = s.csq := rfl
@[simp] theorem changeScu_zsc (c : Chan) (f : ScuState → ScuState) : (changeScu c f s).zsc = s.zsc := rfl
@[simp] theorem changeScu_liu (c : Chan) (f : ScuState → ScuState) : (changeScu c f s).liu = s.liu := rfl
@[simp] theorem changeScu_las (c : Chan) (f : ScuState → ScuState) : (changeScu c f s).las = s.las := rfl
@[simp] theorem changeScu_dcu (c : Chan) (f : ScuState → ScuState) : (changeScu c f s).dcu = s.dcu := rfl
@[simp] theorem changeScu_rtb (c : Chan) (f : ScuState → ScuState) : (changeScu c f s).rtb = s.rtb := rfl
@[simp] theorem changeScu_rtk (c : Chan) (f : ScuState → ScuState) : (changeScu c f s).rtk = s.rtk := rfl
@[simp] theorem changeScu_dkc (c : Chan) (f : ScuState → ScuState) : (changeScu c f s).dkc = s.dkc := rfl
@[simp] theorem changeScu_cmn (c : Chan) (f : ScuState → ScuState) : (changeScu c f s).cmn = s.cmn := rfl
@[simp] theorem changeScu_trs (c : Chan) (f : ScuState → ScuState) : (changeScu c f s).trs = s.trs := rfl
@[simp] theorem changeScu_lki (c : Chan) (f : ScuState → ScuState) : (changeScu c f s).lki = s.lki := rfl
@[simp] theorem changeScu_sst (c : Chan) (f : ScuState → ScuState) : (changeScu c f s).sst = s.sst := rfl
@[simp] theorem changeScu_freeIndex (c : Chan) (f : ScuState → ScuState) : (changeScu c f s).freeIndex = s.freeIndex := rfl
@[simp] theorem changeScu_pending (c : Chan) (f : ScuState → ScuState) : (changeScu c f s).pending = s.pending := rfl

@[simp] theorem changeZero_tbu (c : Chan) (f : ZeroChan → ZeroChan) : (changeZero c f s).tbu = s.tbu := rfl
@[simp] theorem changeZero_csq (c : Chan) (f : ZeroChan → ZeroChan) : (changeZero c f s).csq = s.csq := rfl
@[simp] theorem changeZero_scu (c : Chan) (f : ZeroChan → ZeroChan) : (changeZero c f s).scu = s.scu := rfl
@[simp] theorem changeZero_liu (c : Chan) (f : ZeroChan → ZeroChan) : (changeZero c f s).liu = s.liu := rfl
@[simp] theorem changeZero_las (c : Chan) (f : ZeroChan → ZeroChan) : (changeZero c f s).las = s.las := rfl
@[simp] theorem changeZero_dcu (c : Chan) (f : ZeroChan → ZeroChan) : (changeZero c f s).dcu = s.dcu := rfl
@[simp] theorem changeZero_rtb (c : Chan) (f : ZeroChan → ZeroChan) : (changeZero c f s).rtb = s.rtb := rfl
@[simp] theorem changeZero_rtk (c : Chan) (f : ZeroChan → ZeroChan) : (changeZero c f s).rtk = s.rtk := rfl
@[simp] theorem changeZero_dkc (c : Chan) (f : ZeroChan → ZeroChan) : (changeZero c f s).dkc = s.dkc := rfl
@[simp] theorem changeZero_cmn (c : Chan) (f : ZeroChan → ZeroChan) : (changeZero c f s).cmn = s.cmn := rfl
@[simp] theorem changeZero_trs (c : Chan) (f : ZeroChan → ZeroChan) : (changeZero c f s).trs = s.trs := rfl
@[simp] theorem changeZero_lki (c : Chan) (f : ZeroChan → ZeroChan) : (changeZero c f s).lki = s.lki := rfl
@[simp] theorem changeZero_sst (c : Chan) (f : ZeroChan → ZeroChan) : (changeZero c f s).sst = s.sst := rfl
@[simp] theorem changeZero_freeIndex (c : Chan) (f : ZeroChan → ZeroChan) : (changeZero c f s).freeIndex = s.freeIndex := rfl
@[simp] theorem changeZero_pending (c : Chan) (f : ZeroChan → ZeroChan) : (changeZero c f s).pending = s.pending := rfl

@[simp] theorem changeDeb_tbu (i : Input) (f : Debounce → Debounce) : (changeDeb i f s).tbu = s.tbu := rfl
@[simp] theorem changeDeb_csq (i : Input) (f : Debounce → Debounce) : (changeDeb i f s).csq = s.csq := rfl
@[simp] theorem changeDeb_scu (i : Input) (f : Debounce → Debounce) : (changeDeb i f s).scu = s.scu := rfl
@[simp] theorem changeDeb_zsc (i : Input) (f : Debounce → Debounce) : (changeDeb i f s).zsc = s.zsc := rfl
@[simp] theorem changeDeb_las (i : Input) (f : Debounce → Debounce) : (changeDeb i f s).las = s.las := rfl
@[simp] theorem changeDeb_dcu (i : Input) (f : Debounce → Debounce) : (changeDeb i f s).dcu = s.dcu := rfl
@[simp] theorem changeDeb_rtb (i : Input) (f : Debounce → Debounce) : (changeDeb i f s).rtb = s.rtb := rfl
@[simp] theorem changeDeb_rtk (i : Input) (f : Debounce → Debounce) : (changeDeb i f s).rtk = s.rtk := rfl
@[simp] theorem changeDeb_dkc (i : Input) (f : Debounce → Debounce) : (changeDeb i f s).dkc = s.dkc := rfl
@[simp] theorem changeDeb_cmn (i : Input) (f : Debounce → Debounce) : (changeDeb i f s).cmn = s.cmn := rfl
@[simp] theorem changeDeb_trs (i : Input) (f : Debounce → Debounce) : (changeDeb i f s).trs = s.trs := rfl
@[simp] theorem changeDeb_lki (i : Input) (f : Debounce → Debounce) : (changeDeb i f s).lki = s.lki := rfl
@[simp] theorem changeDeb_sst (i : Input) (f : Debounce → Debounce) : (changeDeb i f s).sst = s.sst := rfl
@[simp] theorem changeDeb_freeIndex (i : Input) (f : Debounce → Debounce) : (changeDeb i f s).freeIndex = s.freeIndex := rfl
@[simp] theorem changeDeb_pending (i : Input) (f : Debounce → Debounce) : (changeDeb i f s).pending = s.pending := rfl

@[simp] theorem changeLoop_tbu (l : Loop) (f : LoopState → LoopState) : (changeLoop l f s).tbu = s.tbu := rfl
@[simp] theorem changeLoop_csq (l : Loop) (f : LoopState → LoopState) : (changeLoop l f s).csq = s.csq := rfl
@[simp] theorem changeLoop_scu (l : Loop) (f : LoopState → LoopState) : (changeLoop l f s).scu = s.scu := rfl
@[simp] theorem changeLoop_zsc (l : Loop) (f : LoopState → LoopState) : (changeLoop l f s).zsc = s.zsc := rfl
@[simp] theorem changeLoop_las (l : Loop) (f : LoopState → LoopState) : (changeLoop l f s).las = s.las := rfl
@[simp] theorem changeLoop_dcu (l : Loop) (f : LoopState → LoopState) : (changeLoop l f s).dcu = s.dcu := rfl
@[simp] theorem changeLoop_rtb (l : Loop) (f : LoopState → LoopState) : (changeLoop l f s).rtb = s.rtb := rfl
@[simp] theorem changeLoop_rtk (l : Loop) (f : LoopState → LoopState) : (changeLoop l f s).rtk = s.rtk := rfl
@[simp] theorem changeLoop_dkc (l : Loop) (f : LoopState → LoopState) : (changeLoop l f s).dkc = s.dkc := rfl
@[simp] theorem changeLoop_cmn (l : Loop) (f : LoopState → LoopState) : (changeLoop l f s).cmn = s.cmn := rfl
@[simp] theorem changeLoop_trs (l : Loop) (f : LoopState → LoopState) : (changeLoop l f s).trs = s.trs := rfl
@[simp] theorem changeLoop_lki (l : Loop) (f : LoopState → LoopState) : (changeLoop l f s).lki = s.lki := rfl
@[simp] theorem changeLoop_sst (l : Loop) (f : LoopState → LoopState) : (changeLoop l f s).sst = s.sst := rfl
@[simp] theorem changeLoop_freeIndex (l : Loop) (f : LoopState → LoopState) : (changeLoop l f s).freeIndex = s.freeIndex := rfl
@[simp] theorem changeLoop_pending (l : Loop) (f : LoopState → LoopState) : (changeLoop l f s).pending = s.pending := rfl

@[simp] theorem countLane_tbu (l : Lane) (f : LaneCounters → LaneCounters) : (countLane l f s).tbu = s.tbu := rfl
@[simp] theorem countLane_csq (l : Lane) (f : LaneCounters → LaneCounters) : (countLane l f s).csq = s.csq := rfl
@[simp] theorem countLane_scu (l : Lane) (f : LaneCounters → LaneCounters) : (countLane l f s).scu = s.scu := rfl
@[simp] theorem countLane_zsc (l : Lane) (f : LaneCounters → LaneCounters) : (countLane l f s).zsc = s.zsc := rfl
@[simp] theorem countLane_liu (l : Lane) (f : LaneCounters → LaneCounters) : (countLane l f s).liu = s.liu := rfl
@[simp] theorem countLane_las (l : Lane) (f : LaneCounters → LaneCounters) : (countLane l f s).las = s.las := rfl
@[simp] theorem countLane_dcu (l : Lane) (f : LaneCounters → LaneCounters) : (countLane l f s).dcu = s.dcu := rfl
@[simp] theorem countLane_rtb (l : Lane) (f : LaneCounters → LaneCounters) : (countLane l f s).rtb = s.rtb := rfl
@[simp] theorem countLane_rtk (l : Lane) (f : LaneCounters → LaneCounters) : (countLane l f s).rtk = s.rtk := rfl
@[simp] theorem countLane_dkc (l : Lane) (f : LaneCounters → LaneCounters) : (countLane l f s).dkc = s.dkc := rfl
@[simp] theorem countLane_trs (l : Lane) (f : LaneCounters → LaneCounters) : (countLane l f s).trs = s.trs := rfl
@[simp] theorem countLane_lki (l : Lane) (f : LaneCounters → LaneCounters) : (countLane l f s).lki = s.lki := rfl
@[simp] theorem countLane_sst (l : Lane) (f : LaneCounters → LaneCounters) : (countLane l f s).sst = s.sst := rfl
@[simp] theorem countLane_freeIndex (l : Lane) (f : LaneCounters → LaneCounters) : (countLane l f s).freeIndex = s.freeIndex := rfl
@[simp] theorem countLane_pending (l : Lane) (f : LaneCounters → LaneCounters) : (countLane l f s).pending = s.pending := rfl

@[simp] theorem countUnadmitted_tbu : (countUnadmitted s).tbu = s.tbu := rfl
@[simp] theorem countUnadmitted_csq : (countUnadmitted s).csq = s.csq := rfl
@[simp] theorem countUnadmitted_scu : (countUnadmitted s).scu = s.scu := rfl
@[simp] theorem countUnadmitted_zsc : (countUnadmitted s).zsc = s.zsc := rfl
@[simp] theorem countUnadmitted_liu : (countUnadmitted s).liu = s.liu := rfl
@[simp] theorem countUnadmitted_las : (countUnadmitted s).las = s.las := rfl
@[simp] theorem countUnadmitted_dcu : (countUnadmitted s).dcu = s.dcu := rfl
@[simp] theorem countUnadmitted_rtb : (countUnadmitted s).rtb = s.rtb := rfl
@[simp] theorem countUnadmitted_rtk : (countUnadmitted s).rtk = s.rtk := rfl
@[simp] theorem countUnadmitted_dkc : (countUnadmitted s).dkc = s.dkc := rfl
@[simp] theorem countUnadmitted_trs : (countUnadmitted s).trs = s.trs := rfl
@[simp] theorem countUnadmitted_lki : (countUnadmitted s).lki = s.lki := rfl
@[simp] theorem countUnadmitted_sst : (countUnadmitted s).sst = s.sst := rfl
@[simp] theorem countUnadmitted_freeIndex : (countUnadmitted s).freeIndex = s.freeIndex := rfl
@[simp] theorem countUnadmitted_pending : (countUnadmitted s).pending = s.pending := rfl

@[simp] theorem leaveQueue_tbu (id : Nat) : (leaveQueue id s).tbu = s.tbu := rfl
@[simp] theorem leaveQueue_csq (id : Nat) : (leaveQueue id s).csq = s.csq := rfl
@[simp] theorem leaveQueue_scu (id : Nat) : (leaveQueue id s).scu = s.scu := rfl
@[simp] theorem leaveQueue_zsc (id : Nat) : (leaveQueue id s).zsc = s.zsc := rfl
@[simp] theorem leaveQueue_liu (id : Nat) : (leaveQueue id s).liu = s.liu := rfl
@[simp] theorem leaveQueue_las (id : Nat) : (leaveQueue id s).las = s.las := rfl
@[simp] theorem leaveQueue_dcu (id : Nat) : (leaveQueue id s).dcu = s.dcu := rfl
@[simp] theorem leaveQueue_rtb (id : Nat) : (leaveQueue id s).rtb = s.rtb := rfl
@[simp] theorem leaveQueue_rtk (id : Nat) : (leaveQueue id s).rtk = s.rtk := rfl
@[simp] theorem leaveQueue_cmn (id : Nat) : (leaveQueue id s).cmn = s.cmn := rfl
@[simp] theorem leaveQueue_trs (id : Nat) : (leaveQueue id s).trs = s.trs := rfl
@[simp] theorem leaveQueue_lki (id : Nat) : (leaveQueue id s).lki = s.lki := rfl
@[simp] theorem leaveQueue_sst (id : Nat) : (leaveQueue id s).sst = s.sst := rfl
@[simp] theorem leaveQueue_freeIndex (id : Nat) : (leaveQueue id s).freeIndex = s.freeIndex := rfl
@[simp] theorem leaveQueue_pending (id : Nat) : (leaveQueue id s).pending = s.pending := rfl

@[simp] theorem leaveApproach_tbu (id : Nat) : (leaveApproach id s).tbu = s.tbu := rfl
@[simp] theorem leaveApproach_csq (id : Nat) : (leaveApproach id s).csq = s.csq := rfl
@[simp] theorem leaveApproach_scu (id : Nat) : (leaveApproach id s).scu = s.scu := rfl
@[simp] theorem leaveApproach_zsc (id : Nat) : (leaveApproach id s).zsc = s.zsc := rfl
@[simp] theorem leaveApproach_liu (id : Nat) : (leaveApproach id s).liu = s.liu := rfl
@[simp] theorem leaveApproach_las (id : Nat) : (leaveApproach id s).las = s.las := rfl
@[simp] theorem leaveApproach_dcu (id : Nat) : (leaveApproach id s).dcu = s.dcu := rfl
@[simp] theorem leaveApproach_rtk (id : Nat) : (leaveApproach id s).rtk = s.rtk := rfl
@[simp] theorem leaveApproach_dkc (id : Nat) : (leaveApproach id s).dkc = s.dkc := rfl
@[simp] theorem leaveApproach_cmn (id : Nat) : (leaveApproach id s).cmn = s.cmn := rfl
@[simp] theorem leaveApproach_trs (id : Nat) : (leaveApproach id s).trs = s.trs := rfl
@[simp] theorem leaveApproach_lki (id : Nat) : (leaveApproach id s).lki = s.lki := rfl
@[simp] theorem leaveApproach_sst (id : Nat) : (leaveApproach id s).sst = s.sst := rfl
@[simp] theorem leaveApproach_freeIndex (id : Nat) : (leaveApproach id s).freeIndex = s.freeIndex := rfl
@[simp] theorem leaveApproach_pending (id : Nat) : (leaveApproach id s).pending = s.pending := rfl

@[simp] theorem leavePending_tbu (id : Nat) : (leavePending id s).tbu = s.tbu := rfl
@[simp] theorem leavePending_csq (id : Nat) : (leavePending id s).csq = s.csq := rfl
@[simp] theorem leavePending_scu (id : Nat) : (leavePending id s).scu = s.scu := rfl
@[simp] theorem leavePending_zsc (id : Nat) : (leavePending id s).zsc = s.zsc := rfl
@[simp] theorem leavePending_liu (id : Nat) : (leavePending id s).liu = s.liu := rfl
@[simp] theorem leavePending_dcu (id : Nat) : (leavePending id s).dcu = s.dcu := rfl
@[simp] theorem leavePending_rtb (id : Nat) : (leavePending id s).rtb = s.rtb := rfl
@[simp] theorem leavePending_rtk (id : Nat) : (leavePending id s).rtk = s.rtk := rfl
@[simp] theorem leavePending_dkc (id : Nat) : (leavePending id s).dkc = s.dkc := rfl
@[simp] theorem leavePending_cmn (id : Nat) : (leavePending id s).cmn = s.cmn := rfl
@[simp] theorem leavePending_trs (id : Nat) : (leavePending id s).trs = s.trs := rfl
@[simp] theorem leavePending_lki (id : Nat) : (leavePending id s).lki = s.lki := rfl
@[simp] theorem leavePending_sst (id : Nat) : (leavePending id s).sst = s.sst := rfl
@[simp] theorem leavePending_freeIndex (id : Nat) : (leavePending id s).freeIndex = s.freeIndex := rfl
@[simp] theorem leavePending_pending (id : Nat) : (leavePending id s).pending = s.pending := rfl

@[simp] theorem enterApproach_tbu (l : Lane) (id : Nat) : (enterApproach l id s).tbu = s.tbu := rfl
@[simp] theorem enterApproach_csq (l : Lane) (id : Nat) : (enterApproach l id s).csq = s.csq := rfl
@[simp] theorem enterApproach_scu (l : Lane) (id : Nat) : (enterApproach l id s).scu = s.scu := rfl
@[simp] theorem enterApproach_zsc (l : Lane) (id : Nat) : (enterApproach l id s).zsc = s.zsc := rfl
@[simp] theorem enterApproach_liu (l : Lane) (id : Nat) : (enterApproach l id s).liu = s.liu := rfl
@[simp] theorem enterApproach_las (l : Lane) (id : Nat) : (enterApproach l id s).las = s.las := rfl
@[simp] theorem enterApproach_dcu (l : Lane) (id : Nat) : (enterApproach l id s).dcu = s.dcu := rfl
@[simp] theorem enterApproach_rtk (l : Lane) (id : Nat) : (enterApproach l id s).rtk = s.rtk := rfl
@[simp] theorem enterApproach_dkc (l : Lane) (id : Nat) : (enterApproach l id s).dkc = s.dkc := rfl
@[simp] theorem enterApproach_cmn (l : Lane) (id : Nat) : (enterApproach l id s).cmn = s.cmn := rfl
@[simp] theorem enterApproach_trs (l : Lane) (id : Nat) : (enterApproach l id s).trs = s.trs := rfl
@[simp] theorem enterApproach_lki (l : Lane) (id : Nat) : (enterApproach l id s).lki = s.lki := rfl
@[simp] theorem enterApproach_sst (l : Lane) (id : Nat) : (enterApproach l id s).sst = s.sst := rfl
@[simp] theorem enterApproach_freeIndex (l : Lane) (id : Nat) : (enterApproach l id s).freeIndex = s.freeIndex := rfl
@[simp] theorem enterApproach_pending (l : Lane) (id : Nat) : (enterApproach l id s).pending = s.pending := rfl

@[simp] theorem appendEntry_tbu (l : Lane) (e : DeckEntry) : (appendEntry l e s).tbu = s.tbu := rfl
@[simp] theorem appendEntry_csq (l : Lane) (e : DeckEntry) : (appendEntry l e s).csq = s.csq := rfl
@[simp] theorem appendEntry_scu (l : Lane) (e : DeckEntry) : (appendEntry l e s).scu = s.scu := rfl
@[simp] theorem appendEntry_zsc (l : Lane) (e : DeckEntry) : (appendEntry l e s).zsc = s.zsc := rfl
@[simp] theorem appendEntry_liu (l : Lane) (e : DeckEntry) : (appendEntry l e s).liu = s.liu := rfl
@[simp] theorem appendEntry_las (l : Lane) (e : DeckEntry) : (appendEntry l e s).las = s.las := rfl
@[simp] theorem appendEntry_dcu (l : Lane) (e : DeckEntry) : (appendEntry l e s).dcu = s.dcu := rfl
@[simp] theorem appendEntry_rtb (l : Lane) (e : DeckEntry) : (appendEntry l e s).rtb = s.rtb := rfl
@[simp] theorem appendEntry_rtk (l : Lane) (e : DeckEntry) : (appendEntry l e s).rtk = s.rtk := rfl
@[simp] theorem appendEntry_cmn (l : Lane) (e : DeckEntry) : (appendEntry l e s).cmn = s.cmn := rfl
@[simp] theorem appendEntry_trs (l : Lane) (e : DeckEntry) : (appendEntry l e s).trs = s.trs := rfl
@[simp] theorem appendEntry_lki (l : Lane) (e : DeckEntry) : (appendEntry l e s).lki = s.lki := rfl
@[simp] theorem appendEntry_sst (l : Lane) (e : DeckEntry) : (appendEntry l e s).sst = s.sst := rfl
@[simp] theorem appendEntry_freeIndex (l : Lane) (e : DeckEntry) : (appendEntry l e s).freeIndex = s.freeIndex := rfl
@[simp] theorem appendEntry_pending (l : Lane) (e : DeckEntry) : (appendEntry l e s).pending = s.pending := rfl

@[simp] theorem formOverload_tbu : (formOverload s).tbu = s.tbu := rfl
@[simp] theorem formOverload_csq : (formOverload s).csq = s.csq := rfl
@[simp] theorem formOverload_scu : (formOverload s).scu = s.scu := rfl
@[simp] theorem formOverload_zsc : (formOverload s).zsc = s.zsc := rfl
@[simp] theorem formOverload_liu : (formOverload s).liu = s.liu := rfl
@[simp] theorem formOverload_las : (formOverload s).las = s.las := rfl
@[simp] theorem formOverload_dcu : (formOverload s).dcu = s.dcu := rfl
@[simp] theorem formOverload_rtb : (formOverload s).rtb = s.rtb := rfl
@[simp] theorem formOverload_rtk : (formOverload s).rtk = s.rtk := rfl
@[simp] theorem formOverload_cmn : (formOverload s).cmn = s.cmn := rfl
@[simp] theorem formOverload_trs : (formOverload s).trs = s.trs := rfl
@[simp] theorem formOverload_lki : (formOverload s).lki = s.lki := rfl
@[simp] theorem formOverload_sst : (formOverload s).sst = s.sst := rfl
@[simp] theorem formOverload_freeIndex : (formOverload s).freeIndex = s.freeIndex := rfl
@[simp] theorem formOverload_pending : (formOverload s).pending = s.pending := rfl

@[simp] theorem formModes_tbu : (formModes s).tbu = s.tbu := rfl
@[simp] theorem formModes_csq : (formModes s).csq = s.csq := rfl
@[simp] theorem formModes_scu : (formModes s).scu = s.scu := rfl
@[simp] theorem formModes_zsc : (formModes s).zsc = s.zsc := rfl
@[simp] theorem formModes_liu : (formModes s).liu = s.liu := rfl
@[simp] theorem formModes_las : (formModes s).las = s.las := rfl
@[simp] theorem formModes_dcu : (formModes s).dcu = s.dcu := rfl
@[simp] theorem formModes_rtb : (formModes s).rtb = s.rtb := rfl
@[simp] theorem formModes_rtk : (formModes s).rtk = s.rtk := rfl
@[simp] theorem formModes_dkc : (formModes s).dkc = s.dkc := rfl
@[simp] theorem formModes_trs : (formModes s).trs = s.trs := rfl
@[simp] theorem formModes_lki : (formModes s).lki = s.lki := rfl
@[simp] theorem formModes_sst : (formModes s).sst = s.sst := rfl
@[simp] theorem formModes_freeIndex : (formModes s).freeIndex = s.freeIndex := rfl
@[simp] theorem formModes_pending : (formModes s).pending = s.pending := rfl

@[simp] theorem formSignal_tbu : (formSignal s).tbu = s.tbu := rfl
@[simp] theorem formSignal_csq : (formSignal s).csq = s.csq := rfl
@[simp] theorem formSignal_scu : (formSignal s).scu = s.scu := rfl
@[simp] theorem formSignal_zsc : (formSignal s).zsc = s.zsc := rfl
@[simp] theorem formSignal_liu : (formSignal s).liu = s.liu := rfl
@[simp] theorem formSignal_las : (formSignal s).las = s.las := rfl
@[simp] theorem formSignal_dcu : (formSignal s).dcu = s.dcu := rfl
@[simp] theorem formSignal_rtb : (formSignal s).rtb = s.rtb := rfl
@[simp] theorem formSignal_rtk : (formSignal s).rtk = s.rtk := rfl
@[simp] theorem formSignal_cmn : (formSignal s).cmn = s.cmn := rfl
@[simp] theorem formSignal_trs : (formSignal s).trs = s.trs := rfl
@[simp] theorem formSignal_lki : (formSignal s).lki = s.lki := rfl
@[simp] theorem formSignal_sst : (formSignal s).sst = s.sst := rfl
@[simp] theorem formSignal_freeIndex : (formSignal s).freeIndex = s.freeIndex := rfl
@[simp] theorem formSignal_pending : (formSignal s).pending = s.pending := rfl

@[simp] theorem formSigns_tbu : (formSigns s).tbu = s.tbu := rfl
@[simp] theorem formSigns_csq : (formSigns s).csq = s.csq := rfl
@[simp] theorem formSigns_scu : (formSigns s).scu = s.scu := rfl
@[simp] theorem formSigns_zsc : (formSigns s).zsc = s.zsc := rfl
@[simp] theorem formSigns_liu : (formSigns s).liu = s.liu := rfl
@[simp] theorem formSigns_las : (formSigns s).las = s.las := rfl
@[simp] theorem formSigns_rtb : (formSigns s).rtb = s.rtb := rfl
@[simp] theorem formSigns_rtk : (formSigns s).rtk = s.rtk := rfl
@[simp] theorem formSigns_dkc : (formSigns s).dkc = s.dkc := rfl
@[simp] theorem formSigns_cmn : (formSigns s).cmn = s.cmn := rfl
@[simp] theorem formSigns_trs : (formSigns s).trs = s.trs := rfl
@[simp] theorem formSigns_lki : (formSigns s).lki = s.lki := rfl
@[simp] theorem formSigns_sst : (formSigns s).sst = s.sst := rfl
@[simp] theorem formSigns_freeIndex : (formSigns s).freeIndex = s.freeIndex := rfl
@[simp] theorem formSigns_pending : (formSigns s).pending = s.pending := rfl

@[simp] theorem advanceSecond_csq : (advanceSecond s).csq = s.csq := rfl
@[simp] theorem advanceSecond_scu : (advanceSecond s).scu = s.scu := rfl
@[simp] theorem advanceSecond_zsc : (advanceSecond s).zsc = s.zsc := rfl
@[simp] theorem advanceSecond_liu : (advanceSecond s).liu = s.liu := rfl
@[simp] theorem advanceSecond_las : (advanceSecond s).las = s.las := rfl
@[simp] theorem advanceSecond_dcu : (advanceSecond s).dcu = s.dcu := rfl
@[simp] theorem advanceSecond_rtb : (advanceSecond s).rtb = s.rtb := rfl
@[simp] theorem advanceSecond_rtk : (advanceSecond s).rtk = s.rtk := rfl
@[simp] theorem advanceSecond_dkc : (advanceSecond s).dkc = s.dkc := rfl
@[simp] theorem advanceSecond_cmn : (advanceSecond s).cmn = s.cmn := rfl
@[simp] theorem advanceSecond_trs : (advanceSecond s).trs = s.trs := rfl
@[simp] theorem advanceSecond_lki : (advanceSecond s).lki = s.lki := rfl
@[simp] theorem advanceSecond_sst : (advanceSecond s).sst = s.sst := rfl
@[simp] theorem advanceSecond_freeIndex : (advanceSecond s).freeIndex = s.freeIndex := rfl
@[simp] theorem advanceSecond_pending : (advanceSecond s).pending = s.pending := rfl

@[simp] theorem latchTimes_tbu : (latchTimes s).tbu = s.tbu := rfl
@[simp] theorem latchTimes_csq : (latchTimes s).csq = s.csq := rfl
@[simp] theorem latchTimes_scu : (latchTimes s).scu = s.scu := rfl
@[simp] theorem latchTimes_zsc : (latchTimes s).zsc = s.zsc := rfl
@[simp] theorem latchTimes_las : (latchTimes s).las = s.las := rfl
@[simp] theorem latchTimes_dcu : (latchTimes s).dcu = s.dcu := rfl
@[simp] theorem latchRecord_id (now : Time) (r : VRecord) : (latchRecord now r).id = r.id := rfl
@[simp] theorem latchRecord_lane (now : Time) (r : VRecord) : (latchRecord now r).lane = r.lane := rfl
@[simp] theorem latchRecord_weighTime (now : Time) (r : VRecord) : (latchRecord now r).weighTime = r.weighTime := rfl
@[simp] theorem latchRecord_gen (now : Time) (r : VRecord) : (latchRecord now r).gen = r.gen := rfl
@[simp] theorem latchRecord_st (now : Time) (r : VRecord) : (latchRecord now r).st = r.st := rfl
@[simp] theorem latchRecord_speed (now : Time) (r : VRecord) : (latchRecord now r).speed = r.speed := rfl
@[simp] theorem latchRecord_axles (now : Time) (r : VRecord) : (latchRecord now r).axles = r.axles := rfl
@[simp] theorem latchRecord_gross (now : Time) (r : VRecord) : (latchRecord now r).gross = r.gross := rfl
@[simp] theorem latchRecord_upper (now : Time) (r : VRecord) : (latchRecord now r).upper = r.upper := rfl
@[simp] theorem latchRecord_quality (now : Time) (r : VRecord) : (latchRecord now r).quality = r.quality := rfl
@[simp] theorem latchRecord_cls (now : Time) (r : VRecord) : (latchRecord now r).cls = r.cls := rfl
@[simp] theorem latchRecord_decision (now : Time) (r : VRecord) : (latchRecord now r).decision = r.decision := rfl
@[simp] theorem latchRecord_decTime (now : Time) (r : VRecord) : (latchRecord now r).decTime = r.decTime := rfl
@[simp] theorem latchRecord_reasons (now : Time) (r : VRecord) : (latchRecord now r).reasons = r.reasons := rfl
@[simp] theorem latchRecord_flags (now : Time) (r : VRecord) : (latchRecord now r).flags = r.flags := rfl
@[simp] theorem latchRecord_windows (now : Time) (r : VRecord) : (latchRecord now r).windows = r.windows := rfl
@[simp] theorem latchRecord_admission (now : Time) (r : VRecord) : (latchRecord now r).admission = r.admission := rfl
@[simp] theorem latchRecord_deckLane (now : Time) (r : VRecord) : (latchRecord now r).deckLane = r.deckLane := rfl
@[simp] theorem latchRecord_reading (now : Time) (r : VRecord) : (latchRecord now r).reading = r.reading := rfl
@[simp] theorem latchTimes_rtb_pool : (latchTimes s).rtb.pool = s.rtb.pool.map (latchRecord s.now) := rfl
@[simp] theorem latchTimes_rtb_approach : (latchTimes s).rtb.approach = s.rtb.approach := rfl
@[simp] theorem latchTimes_rtb_history : (latchTimes s).rtb.history = s.rtb.history := rfl
@[simp] theorem latchTimes_rtb_nextId : (latchTimes s).rtb.nextId = s.rtb.nextId := rfl
@[simp] theorem latchTimes_rtk : (latchTimes s).rtk = s.rtk := rfl
@[simp] theorem latchTimes_trs : (latchTimes s).trs = s.trs := rfl
@[simp] theorem latchTimes_lki : (latchTimes s).lki = s.lki := rfl
@[simp] theorem latchTimes_sst : (latchTimes s).sst = s.sst := rfl
@[simp] theorem latchTimes_freeIndex : (latchTimes s).freeIndex = s.freeIndex := rfl
@[simp] theorem latchTimes_pending : (latchTimes s).pending = s.pending := rfl
@[simp] theorem latchTimes_liu_pins : (latchTimes s).liu.pins = s.liu.pins := rfl
@[simp] theorem latchTimes_liu_deb : (latchTimes s).liu.deb = s.liu.deb := rfl
@[simp] theorem latchTimes_dkc_st : (latchTimes s).dkc.st = s.dkc.st := rfl
@[simp] theorem latchTimes_dkc_signal : (latchTimes s).dkc.signal = s.dkc.signal := rfl
@[simp] theorem latchTimes_dkc_queue : (latchTimes s).dkc.queue = s.dkc.queue := rfl
@[simp] theorem latchTimes_dkc_grants : (latchTimes s).dkc.grants = s.dkc.grants := rfl
@[simp] theorem latchTimes_dkc_grantTimes : (latchTimes s).dkc.grantTimes = s.dkc.grantTimes := rfl
@[simp] theorem latchTimes_dkc_lastGrant : (latchTimes s).dkc.lastGrant = s.dkc.lastGrant := rfl
@[simp] theorem latchTimes_dkc_committed : (latchTimes s).dkc.committed = s.dkc.committed := rfl
@[simp] theorem latchTimes_dkc_onDeck : (latchTimes s).dkc.onDeck = s.dkc.onDeck := rfl
@[simp] theorem latchTimes_dkc_overstayGiven : (latchTimes s).dkc.overstayGiven = s.dkc.overstayGiven := rfl
@[simp] theorem latchTimes_dkc_listFull : (latchTimes s).dkc.listFull = s.dkc.listFull := rfl
@[simp] theorem latchTimes_dkc_overload : (latchTimes s).dkc.overload = s.dkc.overload := rfl
@[simp] theorem latchTimes_dkc_blind : (latchTimes s).dkc.blind = s.dkc.blind := rfl
@[simp] theorem latchTimes_dkc_resyncOwed : (latchTimes s).dkc.resyncOwed = s.dkc.resyncOwed := rfl
@[simp] theorem latchTimes_dkc_timer : (latchTimes s).dkc.timer = s.dkc.timer := rfl
/-- A latch changes no entry but in its latch. -/
@[simp] theorem latchTimes_entry (ix : CondIx) : (latchTimes s).cmn.conds[ix] = latchEntry s.now ix s.cmn.conds[ix] := by
  simp [latchTimes]
@[simp] theorem latchEntry_st (now : Time) (ix : CondIx) (e : CondEntry) : (latchEntry now ix e).st = e.st := rfl
@[simp] theorem latchTimes_inFault (ix : CondIx) : inFault (latchTimes s) ix = inFault s ix := by
  simp only [inFault, latchTimes_entry, latchEntry_st]
@[simp] theorem latchTimes_cmn_nonIds : (latchTimes s).cmn.nonIds = s.cmn.nonIds := rfl
@[simp] theorem latchTimes_cmn_tempLostTime : (latchTimes s).cmn.tempLostTime = s.cmn.tempLostTime := rfl
@[simp] theorem latchTimes_cmn_windows : (latchTimes s).cmn.windows = s.cmn.windows := rfl
@[simp] theorem latchTimes_cmn_mask : (latchTimes s).cmn.mask = s.cmn.mask := rfl
@[simp] theorem latchTimes_cmn_closedMark : (latchTimes s).cmn.closedMark = s.cmn.closedMark := rfl
@[simp] theorem latchTimes_cmn_laneMode : (latchTimes s).cmn.laneMode = s.cmn.laneMode := rfl
@[simp] theorem latchTimes_cmn_safeFlag : (latchTimes s).cmn.safeFlag = s.cmn.safeFlag := rfl
@[simp] theorem latchTimes_cmn_mode : (latchTimes s).cmn.mode = s.cmn.mode := rfl
@[simp] theorem latchTimes_cmn_lanes : (latchTimes s).cmn.lanes = s.cmn.lanes := rfl
@[simp] theorem latchTimes_cmn_grants : (latchTimes s).cmn.grants = s.cmn.grants := rfl
@[simp] theorem latchTimes_cmn_unadmitted : (latchTimes s).cmn.unadmitted = s.cmn.unadmitted := rfl
@[simp] theorem latchTimes_cmn_ghosts : (latchTimes s).cmn.ghosts = s.cmn.ghosts := rfl

@[simp] theorem tick_csq : (tick s).csq = s.csq := rfl
@[simp] theorem tick_scu : (tick s).scu = s.scu := rfl
@[simp] theorem tick_zsc : (tick s).zsc = s.zsc := rfl
@[simp] theorem tick_las : (tick s).las = s.las := rfl
@[simp] theorem tick_dcu : (tick s).dcu = s.dcu := rfl
@[simp] theorem tick_rtb_pool : (tick s).rtb.pool = s.rtb.pool.map (latchRecord (s.tbu.time + 1)) := rfl
@[simp] theorem tick_rtb_approach : (tick s).rtb.approach = s.rtb.approach := rfl
@[simp] theorem tick_rtb_history : (tick s).rtb.history = s.rtb.history := rfl
@[simp] theorem tick_rtb_nextId : (tick s).rtb.nextId = s.rtb.nextId := rfl
/-- A tick changes a record only in its latch. -/
@[simp] theorem tick_findRec (id : Nat) : findRec (tick s) id = (findRec s id).map (latchRecord (s.tbu.time + 1)) := by
  simp only [findRec, tick_rtb_pool, List.find?_map]; rfl
@[simp] theorem tick_divertAhead (l : Lane) : divertAhead (tick s) l = divertAhead s l := by
  simp only [divertAhead, tick_rtb_approach, tick_findRec, Option.any_map]; rfl
@[simp] theorem tick_retainNeeded (gen : Nat) : retainNeeded (tick s) gen = retainNeeded s gen := by
  simp only [retainNeeded, tick_rtb_pool, List.any_map]; rfl
@[simp] theorem tick_rtk : (tick s).rtk = s.rtk := rfl
@[simp] theorem tick_trs : (tick s).trs = s.trs := rfl
@[simp] theorem tick_lki : (tick s).lki = s.lki := rfl
@[simp] theorem tick_sst : (tick s).sst = s.sst := rfl
@[simp] theorem tick_freeIndex : (tick s).freeIndex = s.freeIndex := rfl
@[simp] theorem tick_pending : (tick s).pending = s.pending := rfl
@[simp] theorem tick_liu_pins : (tick s).liu.pins = s.liu.pins := rfl
@[simp] theorem tick_liu_deb : (tick s).liu.deb = s.liu.deb := rfl
@[simp] theorem tick_dkc_st : (tick s).dkc.st = s.dkc.st := rfl
@[simp] theorem tick_dkc_signal : (tick s).dkc.signal = s.dkc.signal := rfl
@[simp] theorem tick_dkc_queue : (tick s).dkc.queue = s.dkc.queue := rfl
@[simp] theorem tick_dkc_grants : (tick s).dkc.grants = s.dkc.grants := rfl
@[simp] theorem tick_dkc_grantTimes : (tick s).dkc.grantTimes = s.dkc.grantTimes := rfl
@[simp] theorem tick_dkc_lastGrant : (tick s).dkc.lastGrant = s.dkc.lastGrant := rfl
@[simp] theorem tick_dkc_committed : (tick s).dkc.committed = s.dkc.committed := rfl
@[simp] theorem tick_dkc_onDeck : (tick s).dkc.onDeck = s.dkc.onDeck := rfl
@[simp] theorem tick_dkc_overstayGiven : (tick s).dkc.overstayGiven = s.dkc.overstayGiven := rfl
@[simp] theorem tick_dkc_listFull : (tick s).dkc.listFull = s.dkc.listFull := rfl
@[simp] theorem tick_dkc_overload : (tick s).dkc.overload = s.dkc.overload := rfl
@[simp] theorem tick_dkc_blind : (tick s).dkc.blind = s.dkc.blind := rfl
@[simp] theorem tick_dkc_resyncOwed : (tick s).dkc.resyncOwed = s.dkc.resyncOwed := rfl
@[simp] theorem tick_dkc_timer : (tick s).dkc.timer = s.dkc.timer := rfl
@[simp] theorem tick_entry (ix : CondIx) : (tick s).cmn.conds[ix] = latchEntry (s.tbu.time + 1) ix s.cmn.conds[ix] := by
  simp only [tick, latchTimes_entry]; rfl
@[simp] theorem tick_inFault (ix : CondIx) : inFault (tick s) ix = inFault s ix := by
  simp only [inFault, tick_entry, latchEntry_st]
@[simp] theorem tick_laneModeOf (l : Lane) : laneModeOf (tick s) l = laneModeOf s l := by
  have h : inFault (tick s) = inFault s := funext (tick_inFault s)
  simp only [laneModeOf, blanketFault, degradedFault, h]; rfl
@[simp] theorem tick_signalOf : signalOf (tick s) = signalOf s := rfl
@[simp] theorem tick_aspectOf (l : Lane) : aspectOf (tick s) l = aspectOf s l := by
  simp only [aspectOf, tick_laneModeOf, tick_divertAhead, tick_signalOf]; rfl
@[simp] theorem tick_cmn_nonIds : (tick s).cmn.nonIds = s.cmn.nonIds := rfl
@[simp] theorem tick_cmn_tempLostTime : (tick s).cmn.tempLostTime = s.cmn.tempLostTime := rfl
@[simp] theorem tick_cmn_windows : (tick s).cmn.windows = s.cmn.windows := rfl
@[simp] theorem tick_cmn_mask : (tick s).cmn.mask = s.cmn.mask := rfl
@[simp] theorem tick_cmn_closedMark : (tick s).cmn.closedMark = s.cmn.closedMark := rfl
@[simp] theorem tick_cmn_laneMode : (tick s).cmn.laneMode = s.cmn.laneMode := rfl
@[simp] theorem tick_cmn_safeFlag : (tick s).cmn.safeFlag = s.cmn.safeFlag := rfl
@[simp] theorem tick_cmn_mode : (tick s).cmn.mode = s.cmn.mode := rfl
@[simp] theorem tick_cmn_lanes : (tick s).cmn.lanes = s.cmn.lanes := rfl
@[simp] theorem tick_cmn_grants : (tick s).cmn.grants = s.cmn.grants := rfl
@[simp] theorem tick_cmn_unadmitted : (tick s).cmn.unadmitted = s.cmn.unadmitted := rfl
@[simp] theorem tick_cmn_ghosts : (tick s).cmn.ghosts = s.cmn.ghosts := rfl

@[simp] theorem useFree_tbu : (useFree s).tbu = s.tbu := rfl
@[simp] theorem useFree_csq : (useFree s).csq = s.csq := rfl
@[simp] theorem useFree_scu : (useFree s).scu = s.scu := rfl
@[simp] theorem useFree_zsc : (useFree s).zsc = s.zsc := rfl
@[simp] theorem useFree_liu : (useFree s).liu = s.liu := rfl
@[simp] theorem useFree_las : (useFree s).las = s.las := rfl
@[simp] theorem useFree_dcu : (useFree s).dcu = s.dcu := rfl
@[simp] theorem useFree_rtb : (useFree s).rtb = s.rtb := rfl
@[simp] theorem useFree_rtk : (useFree s).rtk = s.rtk := rfl
@[simp] theorem useFree_dkc : (useFree s).dkc = s.dkc := rfl
@[simp] theorem useFree_cmn : (useFree s).cmn = s.cmn := rfl
@[simp] theorem useFree_trs : (useFree s).trs = s.trs := rfl
@[simp] theorem useFree_lki : (useFree s).lki = s.lki := rfl
@[simp] theorem useFree_sst : (useFree s).sst = s.sst := rfl
@[simp] theorem useFree_pending : (useFree s).pending = s.pending := rfl

@[simp] theorem dropRequest_tbu : (dropRequest s).tbu = s.tbu := rfl
@[simp] theorem dropRequest_csq : (dropRequest s).csq = s.csq := rfl
@[simp] theorem dropRequest_scu : (dropRequest s).scu = s.scu := rfl
@[simp] theorem dropRequest_zsc : (dropRequest s).zsc = s.zsc := rfl
@[simp] theorem dropRequest_liu : (dropRequest s).liu = s.liu := rfl
@[simp] theorem dropRequest_las : (dropRequest s).las = s.las := rfl
@[simp] theorem dropRequest_dcu : (dropRequest s).dcu = s.dcu := rfl
@[simp] theorem dropRequest_rtb : (dropRequest s).rtb = s.rtb := rfl
@[simp] theorem dropRequest_rtk : (dropRequest s).rtk = s.rtk := rfl
@[simp] theorem dropRequest_dkc : (dropRequest s).dkc = s.dkc := rfl
@[simp] theorem dropRequest_cmn : (dropRequest s).cmn = s.cmn := rfl
@[simp] theorem dropRequest_trs : (dropRequest s).trs = s.trs := rfl
@[simp] theorem dropRequest_sst : (dropRequest s).sst = s.sst := rfl
@[simp] theorem dropRequest_freeIndex : (dropRequest s).freeIndex = s.freeIndex := rfl
@[simp] theorem dropRequest_pending : (dropRequest s).pending = s.pending := rfl

@[simp] theorem dropWorking_tbu : (dropWorking s).tbu = s.tbu := rfl
@[simp] theorem dropWorking_csq : (dropWorking s).csq = s.csq := rfl
@[simp] theorem dropWorking_scu : (dropWorking s).scu = s.scu := rfl
@[simp] theorem dropWorking_zsc : (dropWorking s).zsc = s.zsc := rfl
@[simp] theorem dropWorking_liu : (dropWorking s).liu = s.liu := rfl
@[simp] theorem dropWorking_las : (dropWorking s).las = s.las := rfl
@[simp] theorem dropWorking_dcu : (dropWorking s).dcu = s.dcu := rfl
@[simp] theorem dropWorking_rtb : (dropWorking s).rtb = s.rtb := rfl
@[simp] theorem dropWorking_rtk : (dropWorking s).rtk = s.rtk := rfl
@[simp] theorem dropWorking_dkc : (dropWorking s).dkc = s.dkc := rfl
@[simp] theorem dropWorking_trs : (dropWorking s).trs = s.trs := rfl
@[simp] theorem dropWorking_lki : (dropWorking s).lki = s.lki := rfl
@[simp] theorem dropWorking_freeIndex : (dropWorking s).freeIndex = s.freeIndex := rfl
@[simp] theorem dropWorking_pending : (dropWorking s).pending = s.pending := rfl

end Sys2Proof.Machine
end

