-- ==== Sys2Proof/Laws/Frame.lean ====
section
/-! SUPPORT. What each shared operation can touch, said once: `SameA` leaves all but the Condition Monitor and the Link Interface,
`SameB` also admits the assemblers, the Record Table and the Deck Controller, `SameC` also the Decision Unit and the Trace Store,
`SameD` also the strip channels and the Zero Scheduler. -/

namespace Sys2Proof.Machine

/-- Only the Condition Monitor and the Link Interface differ. -/
structure SameA (s t : State) : Prop where
  tbu : t.tbu = s.tbu
  csq : t.csq = s.csq
  scu : t.scu = s.scu
  zsc : t.zsc = s.zsc
  liu : t.liu = s.liu
  las : t.las = s.las
  dcu : t.dcu = s.dcu
  rtb : t.rtb = s.rtb
  rtk : t.rtk = s.rtk
  dkc : t.dkc = s.dkc
  trs : t.trs = s.trs
  sst : t.sst = s.sst
  freeIndex : t.freeIndex = s.freeIndex
  pending : t.pending = s.pending

theorem SameA.rfl' (s : State) : SameA s s := by constructor <;> rfl
theorem SameA.trans {s t u : State} (h : SameA s t) (k : SameA t u) : SameA s u := by
  constructor
  · exact k.tbu.trans h.tbu
  · exact k.csq.trans h.csq
  · exact k.scu.trans h.scu
  · exact k.zsc.trans h.zsc
  · exact k.liu.trans h.liu
  · exact k.las.trans h.las
  · exact k.dcu.trans h.dcu
  · exact k.rtb.trans h.rtb
  · exact k.rtk.trans h.rtk
  · exact k.dkc.trans h.dkc
  · exact k.trs.trans h.trs
  · exact k.sst.trans h.sst
  · exact k.freeIndex.trans h.freeIndex
  · exact k.pending.trans h.pending
theorem SameA.foldl {β : Type} (f : State → β → State) (h : ∀ s b, SameA s (f s b)) (bs : List β) (s : State) :
    SameA s (bs.foldl f s) := by
  induction bs generalizing s with
  | nil => exact .rfl' s
  | cons b bs ih => exact (h s b).trans (ih (f s b))

/-- Only assemblers, Record Table, Deck Controller, Condition Monitor and Link Interface differ. -/
structure SameB (s t : State) : Prop where
  tbu : t.tbu = s.tbu
  csq : t.csq = s.csq
  scu : t.scu = s.scu
  zsc : t.zsc = s.zsc
  liu : t.liu = s.liu
  dcu : t.dcu = s.dcu
  rtk : t.rtk = s.rtk
  trs : t.trs = s.trs
  sst : t.sst = s.sst
  freeIndex : t.freeIndex = s.freeIndex
  pending : t.pending = s.pending

theorem SameB.rfl' (s : State) : SameB s s := by constructor <;> rfl
theorem SameB.trans {s t u : State} (h : SameB s t) (k : SameB t u) : SameB s u := by
  constructor
  · exact k.tbu.trans h.tbu
  · exact k.csq.trans h.csq
  · exact k.scu.trans h.scu
  · exact k.zsc.trans h.zsc
  · exact k.liu.trans h.liu
  · exact k.dcu.trans h.dcu
  · exact k.rtk.trans h.rtk
  · exact k.trs.trans h.trs
  · exact k.sst.trans h.sst
  · exact k.freeIndex.trans h.freeIndex
  · exact k.pending.trans h.pending
theorem SameB.foldl {β : Type} (f : State → β → State) (h : ∀ s b, SameB s (f s b)) (bs : List β) (s : State) :
    SameB s (bs.foldl f s) := by
  induction bs generalizing s with
  | nil => exact .rfl' s
  | cons b bs ih => exact (h s b).trans (ih (f s b))

/-- As `SameB`, and Decision Unit and Trace Store. -/
structure SameC (s t : State) : Prop where
  tbu : t.tbu = s.tbu
  csq : t.csq = s.csq
  scu : t.scu = s.scu
  zsc : t.zsc = s.zsc
  liu : t.liu = s.liu
  rtk : t.rtk = s.rtk
  sst : t.sst = s.sst
  freeIndex : t.freeIndex = s.freeIndex
  pending : t.pending = s.pending

theorem SameC.rfl' (s : State) : SameC s s := by constructor <;> rfl
theorem SameC.trans {s t u : State} (h : SameC s t) (k : SameC t u) : SameC s u := by
  constructor
  · exact k.tbu.trans h.tbu
  · exact k.csq.trans h.csq
  · exact k.scu.trans h.scu
  · exact k.zsc.trans h.zsc
  · exact k.liu.trans h.liu
  · exact k.rtk.trans h.rtk
  · exact k.sst.trans h.sst
  · exact k.freeIndex.trans h.freeIndex
  · exact k.pending.trans h.pending
theorem SameC.foldl {β : Type} (f : State → β → State) (h : ∀ s b, SameC s (f s b)) (bs : List β) (s : State) :
    SameC s (bs.foldl f s) := by
  induction bs generalizing s with
  | nil => exact .rfl' s
  | cons b bs ih => exact (h s b).trans (ih (f s b))

/-- As `SameC`, and Strip Channel Units and Zero Scheduler. -/
structure SameD (s t : State) : Prop where
  tbu : t.tbu = s.tbu
  csq : t.csq = s.csq
  liu : t.liu = s.liu
  rtk : t.rtk = s.rtk
  sst : t.sst = s.sst
  freeIndex : t.freeIndex = s.freeIndex
  pending : t.pending = s.pending

theorem SameD.rfl' (s : State) : SameD s s := by constructor <;> rfl
theorem SameD.trans {s t u : State} (h : SameD s t) (k : SameD t u) : SameD s u := by
  constructor
  · exact k.tbu.trans h.tbu
  · exact k.csq.trans h.csq
  · exact k.liu.trans h.liu
  · exact k.rtk.trans h.rtk
  · exact k.sst.trans h.sst
  · exact k.freeIndex.trans h.freeIndex
  · exact k.pending.trans h.pending
theorem SameD.foldl {β : Type} (f : State → β → State) (h : ∀ s b, SameD s (f s b)) (bs : List β) (s : State) :
    SameD s (bs.foldl f s) := by
  induction bs generalizing s with
  | nil => exact .rfl' s
  | cons b bs ih => exact (h s b).trans (ih (f s b))

theorem SameA.toB {s t : State} (h : SameA s t) : SameB s t := by
  constructor
  · exact h.tbu
  · exact h.csq
  · exact h.scu
  · exact h.zsc
  · exact h.liu
  · exact h.dcu
  · exact h.rtk
  · exact h.trs
  · exact h.sst
  · exact h.freeIndex
  · exact h.pending

theorem SameB.toC {s t : State} (h : SameB s t) : SameC s t := by
  constructor
  · exact h.tbu
  · exact h.csq
  · exact h.scu
  · exact h.zsc
  · exact h.liu
  · exact h.rtk
  · exact h.sst
  · exact h.freeIndex
  · exact h.pending

theorem SameC.toD {s t : State} (h : SameC s t) : SameD s t := by
  constructor
  · exact h.tbu
  · exact h.csq
  · exact h.liu
  · exact h.rtk
  · exact h.sst
  · exact h.freeIndex
  · exact h.pending
theorem SameB.setRtb {s t : State} (h : SameB s t) (r : RtbState) : SameB s { t with rtb := r } := by
  constructor
  · exact h.tbu
  · exact h.csq
  · exact h.scu
  · exact h.zsc
  · exact h.liu
  · exact h.dcu
  · exact h.rtk
  · exact h.trs
  · exact h.sst
  · exact h.freeIndex
  · exact h.pending

theorem SameB.setDkc {s t : State} (h : SameB s t) (d : DkcState) : SameB s { t with dkc := d } := by
  constructor
  · exact h.tbu
  · exact h.csq
  · exact h.scu
  · exact h.zsc
  · exact h.liu
  · exact h.dcu
  · exact h.rtk
  · exact h.trs
  · exact h.sst
  · exact h.freeIndex
  · exact h.pending

/-! ### Reports, answers and conditions -/

theorem kick_same (s : State) : SameA s (kick s) := by
  unfold kick; split
  · exact .rfl' s
  · split <;> constructor <;> rfl

theorem enqueueReport_same (r : Report) (s : State) : SameA s (enqueueReport r s) := by
  unfold enqueueReport; split <;> constructor <;> rfl

theorem placeReport_same (r : Report) (s : State) : SameA s (placeReport r s) :=
  (enqueueReport_same r s).trans (kick_same _)

theorem giveAnswer_same (a : Answer) (s : State) : SameA s (giveAnswer a s) := by
  unfold giveAnswer; split
  · constructor <;> rfl
  · exact SameA.trans (t := { s with lki.ready := s.lki.ready ++ [a] }) (by constructor <;> rfl) (kick_same _)

theorem reply_same (r : Request) (c : StatusCode) (b : AnswerBody) (s : State) : SameA s (reply r c b s) :=
  giveAnswer_same _ s
theorem refuse_same (r : Request) (c : StatusCode) (s : State) : SameA s (refuse r c s) := giveAnswer_same _ s
theorem accept_same (r : Request) (s : State) : SameA s (accept r s) := giveAnswer_same _ s

theorem setCond_same (ix : CondIx) (new : CondState) (s : State) : SameA s (setCond ix new s) := by
  unfold setCond; dsimp only; split
  · exact .rfl' s
  · split
    · refine SameA.trans ?_ (placeReport_same _ _); constructor <;> rfl
    · constructor <;> rfl

theorem giveCause_same (ix : CondIx) (t : Time) (s : State) : SameA s (giveCause ix t s) := by
  refine SameA.trans ?_ (setCond_same _ _ _); constructor <;> rfl

theorem giveFault_same (ix : CondIx) (t : Time) (s : State) : SameA s (giveFault ix t s) := by
  refine SameA.trans ?_ (setCond_same _ _ _); constructor <;> rfl

theorem giveGraded_same (ix : CondIx) (b : Bool) (t : Time) (s : State) : SameA s (giveGraded ix b t s) := by
  unfold giveGraded; split
  · exact giveFault_same ..
  · exact giveCause_same ..

theorem giveClear_same (ix : CondIx) (s : State) : SameA s (giveClear ix s) := by
  unfold giveClear; split
  · exact setCond_same ..
  · exact setCond_same ..
  · exact .rfl' s
  · exact .rfl' s

theorem convLinkCause_same (t : Time) (s : State) : SameA s (convLinkCause t s) := by
  refine SameA.trans ?_ (giveGraded_same _ _ _ _); constructor <;> rfl

theorem desyncCause_same (s : State) : SameA s (desyncCause s) := by
  refine SameA.trans ?_ (giveGraded_same _ _ _ _); constructor <;> rfl

theorem desyncClear_same (s : State) : SameA s (desyncClear s) := by
  refine (giveClear_same desyncIx s).trans ?_; constructor <;> rfl

theorem noncomplianceCause_same (l : Lane) (id : Nat) (s : State) : SameA s (noncomplianceCause l id s) := by
  refine SameA.trans ?_ (giveCause_same _ _ _); constructor <;> rfl

theorem noncomplianceClear_same (l : Lane) (id : Nat) (s : State) : SameA s (noncomplianceClear l id s) := by
  unfold noncomplianceClear; split
  · dsimp only; split
    · refine SameA.trans ?_ (giveClear_same _ _); constructor <;> rfl
    · constructor <;> rfl
  · exact .rfl' s

theorem agreementSample_same (l : Lane) (b : Bool) (s : State) : SameA s (agreementSample l b s) := by
  unfold agreementSample; dsimp only; split
  · refine SameA.trans ?_ (giveClear_same _ _); constructor <;> rfl
  · split
    · constructor <;> rfl
    · refine SameA.trans ?_ (giveGraded_same _ _ _ _); constructor <;> rfl

theorem freeNotice_same (s : State) : SameA s (freeNotice s) := by
  unfold freeNotice; split
  · refine SameA.foldl _ (fun s l => ?_) _ s
    split
    · exact giveClear_same ..
    · exact .rfl' s
  · exact .rfl' s

theorem tempLostCause_same (s : State) : SameA s (tempLostCause s) := by
  unfold tempLostCause; split
  · refine SameA.trans ?_ (giveCause_same _ _ _); constructor <;> rfl
  · exact giveCause_same ..

theorem tempLostClear_same (s : State) : SameA s (tempLostClear s) := by
  refine SameA.trans ?_ (giveClear_same _ _); constructor <;> rfl

/-! ### Records -/

theorem changeRec_same (id : Nat) (f : VRecord → VRecord) (s : State) : SameB s (changeRec id f s) := by constructor <;> rfl
theorem leavePending_same (id : Nat) (s : State) : SameB s (leavePending id s) := by constructor <;> rfl
theorem leaveApproach_same (id : Nat) (s : State) : SameB s (leaveApproach id s) := by constructor <;> rfl
theorem enterApproach_same (l : Lane) (id : Nat) (s : State) : SameB s (enterApproach l id s) := by constructor <;> rfl
theorem changeLas_same (l : Lane) (f : LasState → LasState) (s : State) : SameB s (changeLas l f s) := by constructor <;> rfl

theorem closeRecord_same (id : Nat) (d : Disposition) (s : State) : SameB s (closeRecord id d s) := by
  unfold closeRecord; split
  · exact .rfl' s
  · refine SameB.trans ?_ (freeNotice_same _).toB
    refine SameB.setRtb (SameB.trans ?_ (placeReport_same _ _).toB) _
    exact SameB.setRtb ((leaveApproach_same id s).trans (leavePending_same id _)) _

/-! ### The deck -/

theorem grantHead_same (id u : Nat) (s : State) : SameB s (grantHead id u s) := by constructor <;> rfl

theorem arbitrateUpTo_same (n : Nat) (s : State) : SameB s (arbitrateUpTo n s) := by
  induction n generalizing s with
  | zero => exact .rfl' s
  | succ n ih =>
    unfold arbitrateUpTo; split
    · split
      · exact (grantHead_same ..).trans (ih _)
      · exact .rfl' s
    · exact .rfl' s

theorem arbitrate_same (s : State) : SameB s (arbitrate s) := arbitrateUpTo_same ..

theorem endGrant_same (id : Nat) (s : State) : SameB s (endGrant id s) := by
  unfold endGrant; split
  · exact .rfl' s
  · constructor <;> rfl

theorem leaveQueue_same (id : Nat) (s : State) : SameB s (leaveQueue id s) := by constructor <;> rfl

theorem releaseEntry_same (l : Lane) (d : Disposition) (e : DeckEntry) (s : State) : SameB s (releaseEntry l d e s) := by
  unfold releaseEntry; dsimp only; split
  · constructor <;> rfl
  · split
    · refine SameB.trans ?_ (noncomplianceClear_same _ _ _).toB
      refine SameB.trans ?_ (closeRecord_same _ _ _); constructor <;> rfl
    · refine SameB.trans ?_ (closeRecord_same _ _ _); constructor <;> rfl

theorem flushLane_same (s : State) (l : Lane) : SameB s (flushLane s l) := by
  unfold flushLane; dsimp only
  refine SameB.trans ?_ (giveClear_same _ _).toB
  refine SameB.trans ?_ (SameB.foldl _ (fun s e => releaseEntry_same l .flushed e s) _ _)
  constructor <;> rfl

theorem flushOut_same (s : State) : SameB s (flushOut s) := SameB.foldl _ flushLane_same _ s

theorem watchHead_same (l : Lane) (s : State) : SameB s (watchHead l s) := by
  unfold watchHead; split
  · exact SameB.trans (SameB.setDkc (.rfl' s) _) (giveCause_same _ _ _).toB
  · exact .rfl' s

theorem headChanged_same (l : Lane) (s : State) : SameB s (headChanged l s) := by
  have h1 : SameB s (if s.dkc.overstayGiven[l] then
      giveClear (overstayIx l) { s with dkc.overstayGiven := put s.dkc.overstayGiven l false } else s) := by
    split
    · refine SameB.trans ?_ (giveClear_same _ _).toB; constructor <;> rfl
    · exact .rfl' s
  exact SameB.trans h1 (watchHead_same l _)

theorem appendEntry_same (l : Lane) (e : DeckEntry) (s : State) : SameB s (appendEntry l e s) := by constructor <;> rfl

theorem enterDeck_same (l : Lane) (e : DeckEntry) (s : State) : SameB s (enterDeck l e s) := by
  unfold enterDeck; dsimp only; split
  · exact SameB.trans (appendEntry_same l e s) (watchHead_same l _)
  · exact appendEntry_same l e s

theorem changeDeck_same (new : DeckSt) (c : DeckCause) (s : State) : SameB s (changeDeck new c s) := by
  refine SameB.trans ?_ (placeReport_same _ _).toB
  refine SameB.trans ?_ (arbitrate_same _); constructor <;> rfl

theorem cancelGrants_same (s : State) : SameB s (cancelGrants s) := by
  unfold cancelGrants; extract_lets ids s1
  exact SameB.setDkc (SameB.foldl _ (fun s id => changeRec_same id _ s) ids s) _

theorem formOverload_same (s : State) : SameB s (formOverload s) := by constructor <;> rfl

theorem enterResync_same (c : DeckCause) (s : State) : SameB s (enterResync c s) := by
  unfold enterResync; extract_lets s1 s2
  refine SameB.trans (SameB.trans (SameB.setDkc (t := s1) ?_ _) (formOverload_same _)) (changeDeck_same _ _ _)
  exact (SameB.foldl _ flushLane_same allLanes s).trans (cancelGrants_same _)

theorem enterBlind_same (c : DeckCause) (s : State) : SameB s (enterBlind c s) := by
  refine SameB.trans ?_ (changeDeck_same _ _ _)
  refine SameB.trans ?_ (formOverload_same _)
  refine (flushOut_same s).trans ?_
  constructor <;> rfl

theorem endResting_same (s : State) : SameB s (endResting s) := by
  have h : SameB s (formOverload { s with dkc.timer := none }) := by constructor <;> rfl
  unfold endResting; dsimp only; split
  · exact h.trans (enterBlind_same _ _)
  · split
    · exact h.trans (enterResync_same _ _)
    · split
      · exact h.trans (changeDeck_same _ _ _)
      · exact h.trans (changeDeck_same _ _ _)

theorem endIsolation_same (s : State) : SameB s (endIsolation s) := by
  have h : SameB s (changeDeck .resting .isolationEnd
      { s with dkc.timer := some (after s.now (secs s.sst.live.deck.restTime)) }) := by
    refine SameB.trans ?_ (changeDeck_same _ _ _); constructor <;> rfl
  unfold endIsolation; dsimp only; split
  · exact h.trans (endResting_same _)
  · exact h

theorem endResync_same (s : State) : SameB s (endResync s) := by
  have h : SameB s (formOverload (desyncClear { s with dkc.timer := none })) := by
    refine SameB.trans ?_ (formOverload_same _)
    refine SameB.trans ?_ (desyncClear_same _).toB; constructor <;> rfl
  unfold endResync; dsimp only; split
  · exact h.trans (changeDeck_same _ _ _)
  · split
    · exact h.trans (enterBlind_same _ _)
    · split
      · exact h.trans (changeDeck_same _ _ _)
      · exact h.trans (changeDeck_same _ _ _)

theorem deckReview_same (s : State) : SameB s (deckReview s) := by
  have h := formOverload_same s
  unfold deckReview; dsimp only; split
  · split
    · exact h.trans (changeDeck_same _ _ _)
    · exact h.trans (arbitrate_same _)
  · split
    · exact h
    · exact h.trans (changeDeck_same _ _ _)
  · split
    · exact h
    · exact h.trans (endIsolation_same _)
  · exact h.trans (arbitrate_same _)
  · exact h
  · exact h
  · exact h

theorem blindBegins_same (s : State) : SameB s (blindBegins s) := by
  have h : SameB s { s with dkc.resyncOwed := true } := by constructor <;> rfl
  unfold blindBegins; split
  · exact enterBlind_same _ _
  · exact enterBlind_same _ _
  · exact enterBlind_same _ _
  · exact h.trans ((flushOut_same _).trans (deckReview_same _))
  · exact h.trans ((flushOut_same _).trans (deckReview_same _))
  · exact (flushOut_same _).trans (deckReview_same _)
  · exact (flushOut_same _).trans (deckReview_same _)

theorem reviewBlind_same (b : Bool) (s : State) : SameB s (reviewBlind b s) := by
  have h : SameB s { s with dkc.blind := blindNow s } := by constructor <;> rfl
  unfold reviewBlind; extract_lets s1; split
  · split
    · exact h.trans (blindBegins_same _)
    · split
      · exact h.trans ((flushOut_same _).trans (deckReview_same _))
      · exact h
  · split
    · exact h.trans (enterResync_same _ _)
    · exact h

theorem deckLoopLost_same (l : Lane) (s : State) : SameB s (deckLoopLost l s) := by
  unfold deckLoopLost; split
  · exact .rfl' s
  · exact reviewBlind_same _ _

theorem desyncNotice_same (s : State) : SameB s (desyncNotice s) := by
  unfold desyncNotice; split
  · exact enterResync_same _ _
  · exact enterResync_same _ _
  · exact enterResync_same _ _
  · exact enterResync_same _ _
  · exact enterResync_same _ _
  · exact .rfl' s
  · exact .rfl' s

theorem spuriousExit_same (s : State) : SameB s (spuriousExit s) := by
  unfold spuriousExit; dsimp only; split
  · exact (desyncCause_same s).toB.trans (desyncNotice_same _)
  · exact (desyncCause_same s).toB

theorem listOverflow_same (s : State) : SameB s (listOverflow s) := by
  unfold listOverflow; dsimp only; split
  · exact (giveFault_same _ _ _).toB
  · exact (giveFault_same _ _ _).toB.trans (enterResync_same _ _)

theorem offer_same (id : Nat) (s : State) : SameB s (offer id s).2 := by
  unfold offer; split
  · refine SameB.trans ?_ (deckReview_same _)
    refine SameB.trans ?_ (changeRec_same _ _ _); constructor <;> rfl
  · exact .rfl' s

theorem withdraw_same (r : VRecord) (s : State) : SameB s (withdraw r s) := by
  unfold withdraw; split
  · exact (leaveQueue_same _ _).trans (deckReview_same _)
  · exact (endGrant_same _ _).trans (deckReview_same _)
  all_goals exact .rfl' s

theorem isolate_same (s : State) : SameB s (isolate s) := by
  unfold isolate; split
  case h_4 => refine SameB.trans ?_ (changeDeck_same _ _ _); constructor <;> rfl
  all_goals first
    | exact .rfl' s
    | (refine SameB.trans ?_ (changeDeck_same _ _ _); constructor <;> rfl)

theorem ghostVerdict_same (l : Lane) (b : Bool) (s : State) : SameB s (ghostVerdict l b s) := by
  unfold ghostVerdict; dsimp only; split
  · split
    · exact .rfl' s
    · refine SameB.trans ?_ (deckReview_same _); constructor <;> rfl
  · split
    · exact .rfl' s
    · constructor <;> rfl

theorem removeHead_same (l : Lane) (d : DeckEntry → Disposition) (s : State) : SameB s (removeHead l d s) := by
  unfold removeHead; split
  · exact .rfl' s
  · refine SameB.trans ?_ (deckReview_same _)
    refine SameB.trans ?_ (headChanged_same _ _)
    refine SameB.trans ?_ (releaseEntry_same _ _ _ _); constructor <;> rfl

theorem exitArrive_same (l : Lane) (s : State) : SameB s (exitArrive l s) := by
  unfold exitArrive; split
  · split
    · exact .rfl' s
    · exact spuriousExit_same s
  · exact removeHead_same _ _ _

/-! ### Weighing and deciding -/

theorem storePulse_same (c : Chan) (t : Time) (b : Bool) (sp : List Sample) (s : State) : SameC s (storePulse c t b sp s) := by
  unfold storePulse; dsimp only; split
  · exact .rfl' s
  · constructor <;> rfl

theorem idNotice_same (c : Chan) (t : Time) (id : Nat) (s : State) : SameC s (idNotice c t id s) := by
  unfold idNotice; split <;> constructor <;> rfl

theorem divertNotice_same (id : Nat) (s : State) : SameC s (divertNotice id s) := by
  unfold divertNotice; split
  · refine SameC.trans ?_ (placeReport_same _ _).toB.toC; constructor <;> rfl
  · exact .rfl' s

theorem expireRecord_same (id : Nat) (s : State) : SameB s (expireRecord id s) := by
  unfold expireRecord; split
  · exact .rfl' s
  · exact (withdraw_same _ _).trans (closeRecord_same _ _ _)

theorem offerDecision_same (id : Nat) (d : Decision) (r : Reasons) (s : State) : SameB s (offerDecision id d r s).2.2 := by
  unfold offerDecision; split
  · dsimp only; split
    · exact offer_same _ _
    · exact offer_same _ _
  · exact .rfl' s
  · exact .rfl' s

theorem startCamera_same (l : Lane) (s : State) : SameC s (startCamera l s) := by
  unfold startCamera; split
  · constructor <;> rfl
  · exact .rfl' s

theorem divertHandOff_same (r : VRecord) (s : State) : SameC s (divertHandOff r s) := by
  unfold divertHandOff; split
  · exact (divertNotice_same _ _).trans (startCamera_same _ _)
  · exact .rfl' s

theorem updateSnapshot_same (r : VRecord) (s : State) : SameC s (updateSnapshot r s) := by
  unfold updateSnapshot; split
  · exact .rfl' s
  · constructor <;> rfl

theorem countDecision_same (r : VRecord) (s : State) : SameC s (countDecision r s) := by constructor <;> rfl

theorem expireAtDecision_same (id : Nat) (s : State) : SameC s (expireAtDecision id s) := by
  unfold expireAtDecision; split
  · split
    · exact (expireRecord_same _ _).toC
    · exact .rfl' s
  · exact .rfl' s

theorem decideRecord_same (id : Nat) (s : State) : SameC s (decideRecord id s) := by
  unfold decideRecord; split
  · exact .rfl' s
  · extract_lets st
    split; split; split
    rename_i d0 reasons0 _ _ d reasons s1 heq
    have h1 : SameB s s1 := by
      have h := offerDecision_same id d0 reasons0 s
      rw [heq] at h; exact h
    extract_lets s2
    have h2 : SameC s s2 := (h1.trans ((changeRec_same id _ _).trans (leavePending_same id _))).toC
    split
    · exact h2
    · extract_lets s3 s4
      exact h2.trans ((enterApproach_same _ _ _).toC.trans ((placeReport_same _ _).toB.toC.trans
        ((countDecision_same _ _).trans ((divertHandOff_same _ _).trans
          ((updateSnapshot_same _ _).trans (expireAtDecision_same _ _))))))

theorem giveSamples_same (l : Lane) (bs : List Bool) (s : State) : SameA s (giveSamples l bs s) :=
  SameA.foldl _ (fun s b => agreementSample_same l b s) bs s

theorem weighRecord_same (id : Nat) (s : State) : SameB s (weighRecord id s) := by
  unfold weighRecord; split
  · exact .rfl' s
  · exact (changeRec_same _ _ _).trans (giveSamples_same _ _ _).toB

theorem finishRecord_same (id : Nat) (s : State) : SameB s (finishRecord id s) := by
  unfold finishRecord; split
  · exact .rfl' s
  · exact changeRec_same _ _ _

theorem weighAndDecide_same (id : Nat) (s : State) : SameC s (weighAndDecide id s) :=
  ((weighRecord_same id s).trans (finishRecord_same id _)).toC.trans (decideRecord_same id _)

theorem decideSuspect_same (id : Nat) (s : State) : SameC s (decideSuspect id s) :=
  ((leavePending_same id s).trans (changeRec_same id _ _)).toC.trans (weighAndDecide_same id _)

/-! ### Assemblers -/

theorem mergeRecords_same (y x : Nat) (s : State) : SameC s (mergeRecords y x s) := by
  have h := (weighRecord_same y s).trans (weighRecord_same x _)
  unfold mergeRecords; dsimp only; split
  · refine h.toC.trans (SameC.trans ?_ (decideRecord_same _ _))
    refine SameB.toC (SameB.trans ?_ (finishRecord_same _ _))
    exact ((changeRec_same _ _ _).trans (leavePending_same _ _)).trans (closeRecord_same _ _ _)
  · exact h.toC

theorem mergeOrPart_same (y x : VRecord) (s : State) : SameC s (mergeOrPart y x s) := by
  unfold mergeOrPart; split
  · exact mergeRecords_same _ _ _
  · exact (decideSuspect_same _ _).trans (decideSuspect_same _ _)

theorem straddleCheck_same (id : Nat) (s : State) : SameC s (straddleCheck id s) := by
  unfold straddleCheck; split
  · exact .rfl' s
  · dsimp only; split
    · exact (mergeOrPart_same _ _ _).trans (SameC.foldl _ (fun s o => decideSuspect_same o s) _ _)
    · split
      · exact weighAndDecide_same _ _
      · split
        · exact ((changeRec_same _ _ _).trans (changeLas_same _ _ _)).toC
        · exact weighAndDecide_same _ _

theorem completeClose_same (s : State) (v : SealedVehicle) : SameC s (completeClose s v) := by
  unfold completeClose; split
  · exact (changeRec_same _ _ _).toC.trans (straddleCheck_same _ _)
  · exact .rfl' s
  · exact .rfl' s

theorem completeCloses_same (l : Lane) (s : State) : SameC s (completeCloses l s) :=
  (changeLas_same l _ s).toC.trans (SameC.foldl _ completeClose_same _ _)

theorem sealOpen_same (l : Lane) (s : State) : SameC s (sealOpen l s) := by
  unfold sealOpen; split
  · exact .rfl' s
  · split
    · exact (changeLas_same _ _ _).toC
    · exact (changeLas_same _ _ _).toC.trans (completeCloses_same _ _)
    · exact (changeLas_same _ _ _).toC.trans (completeCloses_same _ _)

theorem orphan_same (l : Lane) (e : FifoEntry) (s : State) : SameC s (orphan l e s) := by
  have ha : ∀ u, SameB u (orphanAxle e u) := fun u => by
    unfold orphanAxle; split
    · exact (changeRec_same _ _ _).trans (changeRec_same _ _ _)
    · exact .rfl' _
  have hc : ∀ c n u, SameB u (silentCause c n u) := fun c n u => (giveGraded_same _ _ _ _).toB
  exact ((changeLas_same l _ s).trans ((hc _ _ _).trans (ha _))).toC.trans (completeCloses_same _ _)

theorem orphanFirst_same (l : Lane) (p : FifoEntry → Bool) (s : State) : SameC s (orphanFirst l p s) := by
  unfold orphanFirst; split
  · exact .rfl' s
  · exact (changeLas_same _ _ _).toC.trans (orphan_same _ _ _)

theorem orphanWaiting_same (n : Nat) (l : Lane) (s : State) : SameC s (orphanWaiting n l s) := by
  induction n generalizing s with
  | zero => exact .rfl' s
  | succ n ih =>
    unfold orphanWaiting; split
    · exact (orphanFirst_same _ _ _).trans (ih _)
    · exact .rfl' s

theorem enterHit_same (l : Lane) (h : Hit) (v : OpenVehicle) (a : Option Nat) (s : State) : SameC s (enterHit l h v a s) :=
  (changeLas_same l _ s).toC.trans (idNotice_same _ _ _ _)

theorem openRecord_same {l : Lane} {t : Time} {a : Nat} {s s' : State} {id : Nat} (h : openRecord l t a s = some (id, s')) :
    SameB s s' := by
  unfold openRecord at h; split at h
  · cases h
  · obtain ⟨-, rfl⟩ := Prod.mk.inj (Option.some.inj h)
    refine SameB.trans ?_ (freeNotice_same _).toB
    unfold advanceId; split <;> constructor <;> rfl

theorem firstHit_same (l : Lane) (h : Hit) (v : OpenVehicle) (s : State) : SameC s (firstHit l h v s) := by
  unfold firstHit; dsimp only; split
  · exact (openRecord_same ‹_›).toC.trans (enterHit_same _ _ _ _ _)
  · exact (giveFault_same _ _ _).toB.toC.trans (enterHit_same _ _ _ _ _)

theorem laterHit_same (l : Lane) (h : Hit) (v : OpenVehicle) (s : State) : SameC s (laterHit l h v s) := by
  unfold laterHit; split
  · dsimp only; split
    · exact (changeRec_same _ _ _).toC.trans (enterHit_same _ _ _ _ _)
    · exact (changeRec_same _ _ _).toC.trans (enterHit_same _ _ _ _ _)
  · exact enterHit_same _ _ _ _ _
  · exact enterHit_same _ _ _ _ _

theorem openWith_same (l : Lane) (b : Bool) (h : Hit) (s : State) : SameC s (openWith l b h s) :=
  (changeLas_same l _ s).toC.trans (firstHit_same _ _ _ _)

theorem takeS1_same (l : Lane) (h : Hit) (s : State) : SameC s (takeS1 l h s) := by
  have h1 : SameC s (makeFifoRoom l s) := by
    unfold makeFifoRoom; split
    · exact orphanFirst_same _ _ _
    · exact .rfl' s
  unfold takeS1; dsimp only; split
  · exact h1.trans (openWith_same _ _ _ _)
  · split
    · exact h1.trans (firstHit_same _ _ _ _)
    all_goals
      split
      · exact h1.trans ((sealOpen_same _ _).trans (openWith_same _ _ _ _))
      · exact h1.trans (laterHit_same _ _ _ _)

theorem takeS2_same (l : Lane) (h : Hit) (s : State) : SameC s (takeS2 l h s) := by
  have ha : ∀ e a v u, SameB u (pairAxle e a v u) := fun e a v u => by
    unfold pairAxle; split
    · exact changeRec_same _ _ _
    · exact .rfl' _
  have hc : ∀ c n u, SameB u (silentCause c n u) := fun c n u => (giveGraded_same _ _ _ _).toB
  unfold takeS2; split
  · exact ((changeLas_same l _ s).trans (ha _ _ _ _)).toC.trans
      ((idNotice_same _ _ _ _).trans (completeCloses_same _ _))
  · exact (changeLas_same l _ s).toC.trans ((hc _ _ _).toC.trans (idNotice_same _ _ _ _))

theorem lasArrive_same (l : Lane) (t : Time) (s : State) : SameC s (lasArrive l t s) := by
  have h : ∀ u, SameC u (openCovered l u) := fun u => (changeLas_same l _ u).toC.trans (changeLas_same l _ _).toC
  unfold lasArrive; split
  · exact h s
  · split
    · exact (changeLas_same _ _ _).toC
    · exact (sealOpen_same _ _).trans (h _)

theorem lasDepart_same (l : Lane) (s : State) : SameC s (lasDepart l s) := by
  unfold lasDepart; split
  · exact sealOpen_same _ _
  · exact .rfl' s

theorem flagSuspect_same (s : State) (id : Nat) : SameB s (flagSuspect s id) := changeRec_same id _ s

theorem abandonLanes_same (lanes : List Lane) (s : State) : SameC s (abandonLanes lanes s) := by
  unfold abandonLanes; dsimp only
  refine SameC.trans ?_ (SameC.foldl _ (fun s id => decideSuspect_same id s) _ _)
  refine SameB.toC (SameB.trans ?_ (SameB.foldl _ flagSuspect_same _ _))
  exact (SameB.foldl _ (fun s l => changeLas_same l _ s) _ _).trans
    (SameB.foldl _ (fun s id => closeRecord_same id .abandoned s) _ _)

/-! ### Strip channels and zeroing -/

theorem changeScu_same (c : Chan) (f : ScuState → ScuState) (s : State) : SameD s (changeScu c f s) := by constructor <;> rfl
theorem changeZero_same (c : Chan) (f : ZeroChan → ZeroChan) (s : State) : SameD s (changeZero c f s) := by constructor <;> rfl

theorem abandonZero_same (s : State) : SameD s (abandonZero s) := by
  unfold abandonZero; split
  · constructor <;> rfl
  · exact .rfl' s

theorem abandonLaneZero_same (l : Lane) (s : State) : SameD s (abandonLaneZero l s) := by
  unfold abandonLaneZero; split
  · exact abandonZero_same s
  · exact .rfl' s

theorem gradeNotices_same (c : Chan) (old new : ZeroGrade) (s : State) : SameA s (gradeNotices c old new s) := by
  unfold gradeNotices; dsimp only; split
  · exact giveCause_same _ _ _
  · exact (giveCause_same _ _ _).trans (giveFault_same _ _ _)
  · exact giveFault_same _ _ _
  · exact giveClear_same _ _
  · exact giveClear_same _ _
  · exact (giveClear_same _ _).trans (giveCause_same _ _ _)
  all_goals exact .rfl' _

theorem gradeChannel_same (c : Chan) (s : State) : SameD s (gradeChannel c s) :=
  (changeZero_same c _ s).trans (gradeNotices_same _ _ _ _).toB.toC.toD

theorem gradeAll_same (s : State) : SameD s (gradeAll s) := by
  refine SameD.foldl _ (fun s c => ?_) _ s
  split
  · exact .rfl' s
  · exact gradeChannel_same c s

theorem zeroSample_same (c : Chan) (v : Int) (b : Bool) (s : State) : SameD s (zeroSample c v b s) := by
  unfold zeroSample; split
  · exact .rfl' s
  · split
    · exact .rfl' s
    · split
      · exact abandonZero_same s
      · dsimp only; split
        · unfold endMeasurement; dsimp only
          have h : ∀ m, SameD s (clearMeasurement m s) := fun m => by constructor <;> rfl
          split
          · exact h _
          · split
            · exact (h _).trans ((changeZero_same _ _ _).trans (giveGraded_same _ _ _ _).toB.toC.toD)
            · unfold acceptZero; dsimp only; split
              · exact (h _).trans (changeZero_same _ _ _)
              · exact (h _).trans ((changeZero_same _ _ _).trans (gradeChannel_same _ _))
        · constructor <;> rfl

theorem zeroLaneClosed_same (l : Lane) (s : State) : SameD s (zeroLaneClosed l s) := by
  have h : ∀ c u, SameD u (stopGrading c u) := fun c u => by
    unfold stopGrading; dsimp only; split
    · exact (changeZero_same _ _ _).trans (giveClear_same _ _).toB.toC.toD
    · exact changeZero_same _ _ _
  exact (abandonLaneZero_same l s).trans ((h _ _).trans (h _ _))

theorem zeroLaneOpened_same (l : Lane) (s : State) : SameD s (zeroLaneOpened l s) :=
  (abandonLaneZero_same l s).trans ((gradeChannel_same _ _).trans (gradeChannel_same _ _))

theorem pulseOver_same (c : Chan) (s : State) : SameC s (pulseOver c s) := by
  unfold pulseOver; split
  · exact orphanWaiting_same _ _ _
  · exact .rfl' s

theorem handHit_same (c : Chan) (h : Hit) (s : State) : SameC s (handHit c h s) := by
  unfold handHit; split
  · exact takeS2_same _ _ _
  · exact takeS1_same _ _ _

theorem endTail_same (c : Chan) (t : Time) (s : State) : SameD s (endTail c t s) := by
  unfold endTail; dsimp only; split
  · exact (changeScu_same _ _ _).trans (pulseOver_same _ _).toD
  · exact (changeScu_same _ _ _).trans
      ((storePulse_same _ _ _ _ _).trans ((handHit_same _ _ _).trans (pulseOver_same _ _))).toD

theorem stickPulse_same (c : Chan) (s : State) : SameD s (stickPulse c s) :=
  (changeScu_same _ _ s).trans
    ((storePulse_same _ _ _ _ _).trans ((giveGraded_same _ _ _ _).toB.toC.trans (pulseOver_same _ _))).toD

theorem detectorSample_same (c : Chan) (t : Time) (v : Int) (b : Bool) (s : State) : SameD s (detectorSample c t v b s) := by
  have hc : ∀ u, SameD u (judgeCount c u) := fun u => by
    unfold judgeCount; split
    · exact stickPulse_same _ _
    · exact .rfl' u
  have ht : ∀ u, SameD u (judgeTail c t u) := fun u => by
    unfold judgeTail; split
    · exact endTail_same _ _ _
    · exact .rfl' u
  unfold detectorSample; dsimp only; split
  · exact .rfl' s
  · split
    · exact (changeScu_same _ _ _).trans (abandonLaneZero_same _ _)
    · exact .rfl' s
  · split
    · exact (changeScu_same _ _ _).trans (hc _)
    · exact (changeScu_same _ _ _).trans (ht _)
  · split
    · exact (changeScu_same _ _ _).trans (hc _)
    · exact (changeScu_same _ _ _).trans (ht _)
  · split
    · exact .rfl' s
    · exact changeScu_same _ _ _

theorem detectorOff_same (c : Chan) (s : State) : SameD s (detectorOff c s) := by
  unfold detectorOff; dsimp only; split
  · exact (changeScu_same _ _ _).trans ((storePulse_same _ _ _ _ _).trans (pulseOver_same _ _)).toD
  · exact (changeScu_same _ _ _).trans ((storePulse_same _ _ _ _ _).trans (pulseOver_same _ _)).toD
  all_goals exact changeScu_same _ _ _

theorem detectorOn_same (c : Chan) (s : State) : SameD s (detectorOn c s) := by
  unfold detectorOn; split
  · exact changeScu_same _ _ _
  · exact .rfl' s

theorem shutLane_same (l : Lane) (s : State) : SameD s (shutLane l s) :=
  (detectorOff_same _ s).trans ((detectorOff_same _ _).trans (zeroLaneClosed_same _ _))

end Sys2Proof.Machine
end

