-- ==== Sys2Proof/Laws/Ops.lean ====
section
/-! SUPPORT. What the shared operations of every command do, said once: the forming of the outputs at the end of a command, the placing
of reports and answers on their paths, and the taking of a request. -/

namespace Sys2Proof.Machine

open Sys2Proof.Safety

/-! ### Vectors -/

@[simp] theorem put_getElem_self {α : Type} {n : Nat} (v : Vector α n) (i : Fin n) (x : α) : (put v i x)[i] = x := by
  simp [put]

theorem put_getElem_other {α : Type} {n : Nat} (v : Vector α n) (i j : Fin n) (x : α) (h : j ≠ i) : (put v i x)[j] = v[j] := by
  have : ¬ i.val = j.val := fun e => h (Fin.ext e.symm)
  simp [put, this]

@[simp] theorem change_getElem_self {α : Type} {n : Nat} (v : Vector α n) (i : Fin n) (f : α → α) : (change v i f)[i] = f v[i] :=
  put_getElem_self v i _

theorem change_getElem_other {α : Type} {n : Nat} (v : Vector α n) (i j : Fin n) (f : α → α) (h : j ≠ i) :
    (change v i f)[j] = v[j] := put_getElem_other v i j _ h

@[simp] theorem mapVec_getElem {α β : Type} {n : Nat} (f : α → β) (v : Vector α n) (i : Fin n) : (mapVec f v)[i] = f v[i] := by
  simp [mapVec]

/-! ### The end of a command -/

theorem dropRetained_retained (s : State) :
    (dropRetained s).sst.retained = s.sst.retained.filter fun g => retainNeeded s g.1 := by
  unfold dropRetained
  split
  · rename_i g st h
    split <;> simp_all [Option.filter]
  · simp_all

theorem dropRetained_rest (s : State) : sansOutputs (dropRetained s) = sansOutputs s := by
  unfold dropRetained
  split
  · split <;> rfl
  · rfl

/-- What the forming of the outputs does, whole: `settle` gives a state with its outputs as the rules form them and all else kept. -/
theorem settle_formedFrom (s : State) : FormedFrom s (settle s) := by
  have hd : ∀ u : State, (dropRetained u).cmn = u.cmn ∧ (dropRetained u).dkc = u.dkc ∧ (dropRetained u).dcu = u.dcu ∧
      (∀ l, laneModeOf (dropRetained u) l = laneModeOf u l) ∧ signalOf (dropRetained u) = signalOf u ∧
      (∀ l, aspectOf (dropRetained u) l = aspectOf u l) := by
    intro u
    unfold dropRetained
    split
    · split <;> exact ⟨rfl, rfl, rfl, fun _ => rfl, rfl, fun _ => rfl⟩
    · exact ⟨rfl, rfl, rfl, fun _ => rfl, rfl, fun _ => rfl⟩
  have hr : (settle s).sst.retained = s.sst.retained.filter fun g => retainNeeded s g.1 := dropRetained_retained _
  obtain ⟨h1, h2, h3, h4, h5, h6⟩ := hd (formSigns (formSignal (formModes s)))
  refine ⟨⟨fun l => ?_, ?_, fun l => ?_, fun g st h => ?_⟩, hr, dropRetained_rest _⟩
  · show (dropRetained _).cmn.laneMode[l] = laneModeOf (dropRetained _) l
    rw [h4, h1]; simp [formSigns, formSignal, formModes]; rfl
  · show (dropRetained _).dkc.signal = signalOf (dropRetained _)
    rw [h5, h2]; rfl
  · show (dropRetained _).dcu.aspect[l] = aspectOf (dropRetained _) l
    rw [h6, h3]; simp [formSigns]; rfl
  · have hp : ∀ g, retainNeeded (settle s) g = retainNeeded s g := fun g => by
      show retainNeeded (dropRetained _) g = _
      unfold dropRetained
      split
      · split <;> rfl
      · rfl
    rw [hr] at h
    rw [hp]
    cases hs : s.sst.retained with
    | none => simp [hs] at h
    | some x =>
      rw [hs] at h
      simp only [Option.filter_some] at h
      split at h
      · injection h with h; subst h; assumption
      · cases h

/-- What a command that acts on its occasion does, whole. -/
theorem when'_cases (due : Bool) (s x : State) :
    (due = true → ∃ t, when' due s x = .next t ∧ FormedFrom x t) ∧ (due = false → when' due s x = .next s) :=
  ⟨fun h => ⟨_, by simp [when', done, h], settle_formedFrom x⟩, fun h => by simp [when', idle, h]⟩

/-! ### Paths of answers and reports -/

/-- What the transmitter's choice does, whole: both paths are kept, and only transmission, ready answers and reports change. -/
theorem kick_spec (s : State) :
    answerPath (kick s) = answerPath s ∧ reportPath (kick s) = reportPath s ∧ sansLink (kick s) = sansLink s ∧
      (kick s).lki.requests = s.lki.requests ∧ (kick s).lki.noticeLoss = s.lki.noticeLoss ∧
      (kick s).lki.reports.length ≤ s.lki.reports.length := by
  unfold kick
  split
  · exact ⟨rfl, rfl, rfl, rfl, rfl, Nat.le_refl _⟩
  · rename_i h
    have h : s.lki.tx = none := by
      cases ht : s.lki.tx <;> simp_all
    split
    · rename_i a as hr
      simp [answerPath, reportPath, sansLink, *]
    · rename_i r rs hr1 hr2
      simp [answerPath, reportPath, sansLink, *]
    · exact ⟨rfl, rfl, rfl, rfl, rfl, Nat.le_refl _⟩

/-- What the placing of a report does, whole. -/
theorem placeReport_spec (r : Report) (s : State) :
    answerPath (placeReport r s) = answerPath s ∧ Reported [r] s (placeReport r s) ∧
      sansLink (placeReport r s) = sansLink s ∧ (placeReport r s).lki.requests = s.lki.requests ∧
      (placeReport r s).lki.reports.length ≤ max (s.lki.reports.length) (min (s.lki.reports.length + 1) 32) := by
  obtain ⟨h1, h2, h3, h4, h5, h6⟩ := kick_spec (enqueueReport r s)
  have he : answerPath (enqueueReport r s) = answerPath s ∧ sansLink (enqueueReport r s) = sansLink s ∧
      (enqueueReport r s).lki.requests = s.lki.requests := by
    unfold enqueueReport; split <;> exact ⟨rfl, rfl, rfl⟩
  refine ⟨h1.trans he.1, fun hl => ?_, h3.trans he.2.1, h4.trans he.2.2, ?_⟩
  · have hn : ¬ Config.reportCap ≤ s.lki.reports.length := by
      simp only [List.length_singleton] at hl; show ¬ 32 ≤ _; omega
    refine ⟨h2.trans ?_, h5.trans ?_⟩
    · unfold enqueueReport; rw [if_neg hn]; simp [reportPath]
    · unfold enqueueReport; rw [if_neg hn]
  · refine h6.trans ?_
    unfold enqueueReport
    split
    · rename_i hc
      have hc : 32 ≤ s.lki.reports.length := hc
      simp; omega
    · rename_i hc
      have hc : ¬ 32 ≤ s.lki.reports.length := hc
      simp; omega

/-- What the forming of an answer does, whole. -/
theorem giveAnswer_spec (a : Answer) (s : State) (h : s.lki.heldCommit = none → s.lki.behind = []) :
    answerPath (giveAnswer a s) = answerPath s ++ [a] ∧ reportPath (giveAnswer a s) = reportPath s ∧
      sansLink (giveAnswer a s) = sansLink s ∧ (giveAnswer a s).lki.requests = s.lki.requests ∧
      (giveAnswer a s).lki.noticeLoss = s.lki.noticeLoss := by
  unfold giveAnswer
  split
  · simp [answerPath, reportPath, sansLink]
  · rename_i hc
    have hb : s.lki.behind = [] := h (by simpa using hc)
    obtain ⟨h1, h2, h3, h4, h5, -⟩ := kick_spec { s with lki.ready := s.lki.ready ++ [a] }
    exact ⟨by rw [h1]; simp [answerPath, hb], by rw [h2]; rfl, by rw [h3]; rfl, by rw [h4], by rw [h5]⟩

end Sys2Proof.Machine
end

