-- ==== Sys2Proof/WellFormed.lean ====
section
/-! DEFINITION. Which commands are well formed. Lanes, channels, loops, inputs and condition indexes are bounded by their
types; what remains is checked here. -/

namespace Sys2Proof

/-- An id of a record: 1 to 4,294,967,295; id 0 is never given (R113). -/
def goodId (id : Nat) : Bool := 1 ≤ id && id ≤ Config.lastId

/-- An answer echoes a channel in three bits and a gain code in two (R12). -/
def goodAnswer (a : Option ConvAnswer) : Bool := a.all fun x => x.channel < 8 && x.gain < 4

/-- At least one byte arrives with an event of the receiver (R173). -/
def goodBytes (bs : List Byte) : Bool := !bs.isEmpty

/-- The well-formed commands. -/
def Instr.wellFormed : Instr → Bool
  | .conversionSlot a | .singleConversion a => goodAnswer a
  | .straddleWaitExpiry id | .recordExpiry id | .grantExpiry id => goodId id
  | .frameReceived bs | .lenOutOfRange bs => goodBytes bs
  | .coldStart | .restart | .warmStart | .deviceSecondsAdvance | .scanTick | .tempStaleExpiry => true
  | .fifoEntryExpiry _ | .closeGapExpiry _ | .rawEdge _ _ | .candidateAccepted _ | .candidateCancelled _ => true
  | .loopStuckAlert _ | .loopStuckFault _ | .chatterQuiet _ | .cameraPulseEnd _ | .signForceExpiry _ => true
  | .headwayElapsed | .blindClearElapsed | .grantTimeExpiry | .overstayExpiry _ | .resyncEnd | .restEnd => true
  | .alertDecay _ | .convLinkClear | .tempLostFault | .recoverWatchEnd _ => true
  | .frameGapTimeout | .linkSilentExpiry | .frameSent | .unknownType | .status | .ident => true
  | .conditions | .ackConditions | .recover | .reportMask | .record | .history | .deckView | .queueView => true
  | .snapshot | .snapshotRelease | .laneOpen | .laneClose | .deckClose | .deckRelease | .deckClearHead => true
  | .signForce | .setupBegin | .setupCommit | .setupAbandon | .paramWrite | .paramRead | .tableWrite => true
  | .tableRead | .storeWriteEnd _ | .convertOne | .zeroNow | .traceRead | .traceRelease => true

end Sys2Proof
end

