-- ==== Sys2Proof/Laws/PerInstr.lean ====
section
/-! SUPPORT. The per-command family `WellFormedHolds`: what well-formedness asks of each command's operands, in terms of the operands. -/

namespace Sys2Proof.Laws.WellFormedHolds

/-- The converter's answer among a command's operands. -/
def answerOf : Instr → Option ConvAnswer
  | .conversionSlot a | .singleConversion a => a
  | _ => none

/-- The record id among a command's operands. -/
def idOf : Instr → Option Nat
  | .straddleWaitExpiry id | .recordExpiry id | .grantExpiry id => some id
  | _ => none

/-- The bytes among a command's operands. -/
def bytesOf : Instr → Option (List Byte)
  | .frameReceived bs | .lenOutOfRange bs => some bs
  | _ => none

/-- A command is well formed exactly when its answer echoes a channel of three bits and a gain code of two, its record id is one that can
be given, and its bytes are at least one. -/
def Statement (i : Instr) : Prop :=
  i.wellFormed = true ↔
    (∀ a, answerOf i = some a → a.channel < 8 ∧ a.gain < 4) ∧ (∀ id, idOf i = some id → 1 ≤ id ∧ id ≤ 4294967295) ∧
      (∀ bs, bytesOf i = some bs → bs ≠ [])

/-- A command without such operands is well formed as it stands. -/
theorem of_plain {i : Instr} (h : i.wellFormed = true) (ha : answerOf i = none) (hi : idOf i = none) (hb : bytesOf i = none) :
    Statement i := by
  simp [Statement, h, ha, hi, hb]

/-- What well-formedness asks of a command with an answer, an id, or bytes. -/
theorem of_answer {i : Instr} {a : Option ConvAnswer} (h : i.wellFormed = goodAnswer a) (ha : answerOf i = a)
    (hi : idOf i = none) (hb : bytesOf i = none) : Statement i := by
  cases a <;> simp [Statement, h, ha, hi, hb, goodAnswer]

theorem of_id {i : Instr} {id : Nat} (h : i.wellFormed = goodId id) (ha : answerOf i = none) (hi : idOf i = some id)
    (hb : bytesOf i = none) : Statement i := by
  simp [Statement, h, ha, hi, hb, goodId, Config.lastId]
  exact fun _ => decide_eq_true_iff

theorem of_bytes {i : Instr} {bs : List Byte} (h : i.wellFormed = goodBytes bs) (ha : answerOf i = none)
    (hi : idOf i = none) (hb : bytesOf i = some bs) : Statement i := by
  simp [Statement, h, ha, hi, hb, goodBytes]

theorem coldStart : Statement (.coldStart) := of_plain rfl rfl rfl rfl
theorem restart : Statement (.restart) := of_plain rfl rfl rfl rfl
theorem warmStart : Statement (.warmStart) := of_plain rfl rfl rfl rfl
theorem deviceSecondsAdvance : Statement (.deviceSecondsAdvance) := of_plain rfl rfl rfl rfl
theorem scanTick : Statement (.scanTick) := of_plain rfl rfl rfl rfl
theorem conversionSlot (ans : Option ConvAnswer) : Statement (.conversionSlot ans) := of_answer rfl rfl rfl rfl
theorem singleConversion (ans : Option ConvAnswer) : Statement (.singleConversion ans) := of_answer rfl rfl rfl rfl
theorem tempStaleExpiry : Statement (.tempStaleExpiry) := of_plain rfl rfl rfl rfl
theorem fifoEntryExpiry (lane : Lane) : Statement (.fifoEntryExpiry lane) := of_plain rfl rfl rfl rfl
theorem closeGapExpiry (lane : Lane) : Statement (.closeGapExpiry lane) := of_plain rfl rfl rfl rfl
theorem straddleWaitExpiry (id : Nat) : Statement (.straddleWaitExpiry id) := of_id rfl rfl rfl rfl
theorem rawEdge (input : Input) (level : Bool) : Statement (.rawEdge input level) := of_plain rfl rfl rfl rfl
theorem candidateAccepted (input : Input) : Statement (.candidateAccepted input) := of_plain rfl rfl rfl rfl
theorem candidateCancelled (input : Input) : Statement (.candidateCancelled input) := of_plain rfl rfl rfl rfl
theorem loopStuckAlert (loop : Loop) : Statement (.loopStuckAlert loop) := of_plain rfl rfl rfl rfl
theorem loopStuckFault (loop : Loop) : Statement (.loopStuckFault loop) := of_plain rfl rfl rfl rfl
theorem chatterQuiet (loop : Loop) : Statement (.chatterQuiet loop) := of_plain rfl rfl rfl rfl
theorem cameraPulseEnd (lane : Lane) : Statement (.cameraPulseEnd lane) := of_plain rfl rfl rfl rfl
theorem signForceExpiry (lane : Lane) : Statement (.signForceExpiry lane) := of_plain rfl rfl rfl rfl
theorem recordExpiry (id : Nat) : Statement (.recordExpiry id) := of_id rfl rfl rfl rfl
theorem headwayElapsed : Statement (.headwayElapsed) := of_plain rfl rfl rfl rfl
theorem blindClearElapsed : Statement (.blindClearElapsed) := of_plain rfl rfl rfl rfl
theorem grantTimeExpiry : Statement (.grantTimeExpiry) := of_plain rfl rfl rfl rfl
theorem grantExpiry (id : Nat) : Statement (.grantExpiry id) := of_id rfl rfl rfl rfl
theorem overstayExpiry (lane : Lane) : Statement (.overstayExpiry lane) := of_plain rfl rfl rfl rfl
theorem resyncEnd : Statement (.resyncEnd) := of_plain rfl rfl rfl rfl
theorem restEnd : Statement (.restEnd) := of_plain rfl rfl rfl rfl
theorem alertDecay (ix : CondIx) : Statement (.alertDecay ix) := of_plain rfl rfl rfl rfl
theorem convLinkClear : Statement (.convLinkClear) := of_plain rfl rfl rfl rfl
theorem tempLostFault : Statement (.tempLostFault) := of_plain rfl rfl rfl rfl
theorem recoverWatchEnd (ix : CondIx) : Statement (.recoverWatchEnd ix) := of_plain rfl rfl rfl rfl
theorem frameReceived (bytes : List Byte) : Statement (.frameReceived bytes) := of_bytes rfl rfl rfl rfl
theorem frameGapTimeout : Statement (.frameGapTimeout) := of_plain rfl rfl rfl rfl
theorem linkSilentExpiry : Statement (.linkSilentExpiry) := of_plain rfl rfl rfl rfl
theorem frameSent : Statement (.frameSent) := of_plain rfl rfl rfl rfl
theorem unknownType : Statement (.unknownType) := of_plain rfl rfl rfl rfl
theorem status : Statement (.status) := of_plain rfl rfl rfl rfl
theorem ident : Statement (.ident) := of_plain rfl rfl rfl rfl
theorem conditions : Statement (.conditions) := of_plain rfl rfl rfl rfl
theorem ackConditions : Statement (.ackConditions) := of_plain rfl rfl rfl rfl
theorem recover : Statement (.recover) := of_plain rfl rfl rfl rfl
theorem reportMask : Statement (.reportMask) := of_plain rfl rfl rfl rfl
theorem record : Statement (.record) := of_plain rfl rfl rfl rfl
theorem history : Statement (.history) := of_plain rfl rfl rfl rfl
theorem deckView : Statement (.deckView) := of_plain rfl rfl rfl rfl
theorem queueView : Statement (.queueView) := of_plain rfl rfl rfl rfl
theorem snapshot : Statement (.snapshot) := of_plain rfl rfl rfl rfl
theorem snapshotRelease : Statement (.snapshotRelease) := of_plain rfl rfl rfl rfl
theorem laneOpen : Statement (.laneOpen) := of_plain rfl rfl rfl rfl
theorem laneClose : Statement (.laneClose) := of_plain rfl rfl rfl rfl
theorem deckClose : Statement (.deckClose) := of_plain rfl rfl rfl rfl
theorem deckRelease : Statement (.deckRelease) := of_plain rfl rfl rfl rfl
theorem deckClearHead : Statement (.deckClearHead) := of_plain rfl rfl rfl rfl
theorem signForce : Statement (.signForce) := of_plain rfl rfl rfl rfl
theorem setupBegin : Statement (.setupBegin) := of_plain rfl rfl rfl rfl
theorem setupCommit : Statement (.setupCommit) := of_plain rfl rfl rfl rfl
theorem setupAbandon : Statement (.setupAbandon) := of_plain rfl rfl rfl rfl
theorem paramWrite : Statement (.paramWrite) := of_plain rfl rfl rfl rfl
theorem paramRead : Statement (.paramRead) := of_plain rfl rfl rfl rfl
theorem tableWrite : Statement (.tableWrite) := of_plain rfl rfl rfl rfl
theorem tableRead : Statement (.tableRead) := of_plain rfl rfl rfl rfl
theorem storeWriteEnd (good : Bool) : Statement (.storeWriteEnd good) := of_plain rfl rfl rfl rfl
theorem convertOne : Statement (.convertOne) := of_plain rfl rfl rfl rfl
theorem zeroNow : Statement (.zeroNow) := of_plain rfl rfl rfl rfl
theorem traceRead : Statement (.traceRead) := of_plain rfl rfl rfl rfl
theorem traceRelease : Statement (.traceRelease) := of_plain rfl rfl rfl rfl
theorem lenOutOfRange (bytes : List Byte) : Statement (.lenOutOfRange bytes) := of_bytes rfl rfl rfl rfl

end Sys2Proof.Laws.WellFormedHolds
end

