-- ==== Sys2Proof/Laws/Placed.lean ====
section
/-! SUPPORT. What the operations of the Condition Monitor and the taking of a request do, said once in the terms of the statements: the entry
as a cause, a fault cause or a clear notice leaves it with the CONDITION report the mask selects, the request taken and its answer, and
nothing else. -/

namespace Sys2Proof.Machine

open Sys2Proof.Safety

/-! ### Placing without a change of the rest -/

/-- An operation that changes nothing places nothing. -/
theorem placed_refl (x : State) : PlacedFrom [] x x := ⟨rfl, rfl, rfl, rfl, fun _ => ⟨by simp, rfl⟩⟩

/-- The forming of the lane modes alone changes no more than outputs. -/
theorem formModes_placed (x : State) : PlacedFrom [] x (formModes x) := ⟨rfl, rfl, rfl, rfl, fun _ => ⟨by simp [formModes, reportPath], rfl⟩⟩

/-- What the placing of a report does, as a frame. -/
theorem placeReport_placed (r : Report) (x : State) : PlacedFrom [r] x (placeReport r x) := by
  obtain ⟨h1, h2, h3, h4, -⟩ := placeReport_spec r x
  refine ⟨?_, ?_, h4, h1, h2⟩
  · have := congrArg sansOutputs h3; exact this
  · have := congrArg (fun u => u.sst.retained) h3; exact this

/-- A report placed after the lane modes are formed. -/
theorem placeReport_formModes_placed (r : Report) (x : State) : PlacedFrom [r] x (placeReport r (formModes x)) := by
  obtain ⟨h1, h2, h3, h4, h5⟩ := placeReport_placed r (formModes x)
  exact ⟨h1, h2, h3, h4, h5⟩

/-- The end of a command whose operation placed reports: its outputs are formed and nothing else differs. -/
theorem placed_settled {rs : List Report} {x t : State} (h : PlacedFrom rs x t) : ReportedFrom rs x (settle t) := by
  obtain ⟨hf, hr, hs⟩ := settle_formedFrom t
  have hn : ∀ g, retainNeeded t g = retainNeeded x g := fun g => by
    have hp : t.rtb = x.rtb := (congrArg (fun u : State => u.rtb) h.rest :)
    have hl : t.las = x.las := (congrArg (fun u : State => u.las) h.rest :)
    simp [retainNeeded, hp, hl]
  have hk : (settle t).lki = t.lki := (congrArg (fun u : State => u.lki) hs :)
  refine ⟨hf, ?_, (congrArg sansLink hs).trans h.rest, ?_, ?_, fun hc => ?_⟩
  · rw [hr, h.retained]; simp [hn]
  · rw [hk]; exact h.requests
  · have : answerPath (settle t) = answerPath t := by simp only [answerPath, hk]
    rw [this]; exact h.answers
  · have : reportPath (settle t) = reportPath t := by simp only [reportPath, hk]
    rw [this, hk]; exact h.reports hc

/-! ### Entries -/

/-- Two entries of a vector given one after the other: the later stands. -/
@[simp] theorem put_put {α : Type} {n : Nat} (v : Vector α n) (i : Fin n) (x y : α) : put (put v i x) i y = put v i y := by
  apply Vector.ext
  intro j hj
  simp [put]

/-- An entry given as it stands. -/
@[simp] theorem put_self {α : Type} {n : Nat} (v : Vector α n) (i : Fin n) : put v i v[i] = v := by
  apply Vector.ext
  intro j hj
  simp [put]

/-- What a change of an entry's state does, whole: the entry moved, the report of the change, and nothing else. -/
theorem setCond_placed (ix : CondIx) (new : CondState) (s : State) :
    let e := movedEntry new s.tbu.time s.cmn.conds[ix]
    PlacedFrom (changeReports ix e s) (withEntry ix e s) (setCond ix new s) := by
  by_cases hc : s.cmn.conds[ix].st = new
  · simp only [setCond, movedEntry, changeReports, withEntry, hc, beq_self_eq_true, if_true, bne_self_eq_false, Bool.false_and,
      Bool.false_eq_true, if_false, put_self]
    exact placed_refl _
  · have hb : (s.cmn.conds[ix].st == new) = false := by simpa using hc
    have hn : (new != s.cmn.conds[ix].st) = true := by simpa using fun h => hc h.symm
    simp only [setCond, movedEntry, changeReports, withEntry, hb, hn, Bool.true_and, Bool.false_eq_true, if_false]
    split
    · rename_i hm
      refine (?_ : conditionReport ix _ _ = _) ▸ placeReport_formModes_placed _ _
      simp only [conditionReport, formModes, change_getElem_self, State.now]
    · exact formModes_placed _


/-- An entry after a cause that carries time t, graded a fault or not, is the one that `causedEntry` gives. -/
theorem caused_eq (isFault : Bool) (t now : Time) (e : CondEntry) :
    movedEntry (if isFault then .fault else afterCause e.st) now (countCause t e) = causedEntry isFault t e := by
  cases isFault <;> cases h : e.st <;> simp [movedEntry, causedEntry, countCause, afterCause, h, Config.countCap]

/-- A cause's count does not change the state of its entry. -/
@[simp] theorem countCause_st (t : Time) (e : CondEntry) : (countCause t e).st = e.st := by unfold countCause; split <;> rfl

/-- What a change of an entry's state does after a cause is counted, whole. -/
theorem setCond_counted_placed (ix : CondIx) (isFault : Bool) (t : Time) (s : State) :
    let e := causedEntry isFault t s.cmn.conds[ix]
    PlacedFrom (changeReports ix e s) (withEntry ix e s)
      (setCond ix (if isFault then .fault else afterCause s.cmn.conds[ix].st)
        { s with cmn.conds := change s.cmn.conds ix (countCause t) }) := by
  have h := setCond_placed ix (if isFault then .fault else afterCause s.cmn.conds[ix].st)
    { s with cmn.conds := change s.cmn.conds ix (countCause t) }
  simp only [withEntry, changeReports, change_getElem_self, caused_eq, countCause_st] at h
  simp only [change, put_put] at h
  exact h

/-- What a cause, graded a fault or not, does, whole: the entry as R153 to R155 and R159 give it, the report the mask selects. -/
theorem giveGraded_placed (ix : CondIx) (isFault : Bool) (t : Time) (s : State) :
    let e := causedEntry isFault t s.cmn.conds[ix]
    PlacedFrom (changeReports ix e s) (withEntry ix e s) (giveGraded ix isFault t s) := by
  have h := setCond_counted_placed ix isFault t s
  cases isFault <;> exact h

/-- What a cause does, whole. -/
theorem giveCause_placed (ix : CondIx) (t : Time) (s : State) :
    let e := causedEntry false t s.cmn.conds[ix]
    PlacedFrom (changeReports ix e s) (withEntry ix e s) (giveCause ix t s) := giveGraded_placed ix false t s

/-- What a fault cause does, whole. -/
theorem giveFault_placed (ix : CondIx) (t : Time) (s : State) :
    let e := causedEntry true t s.cmn.conds[ix]
    PlacedFrom (changeReports ix e s) (withEntry ix e s) (giveFault ix t s) := giveGraded_placed ix true t s

/-- What a clear notice does, whole: ALERT and FAULT return to CLEAR, RECOVERING stands (R154, R159). -/
theorem giveClear_placed (ix : CondIx) (s : State) :
    let e := clearedEntry s.tbu.time s.cmn.conds[ix]
    PlacedFrom (changeReports ix e s) (withEntry ix e s) (giveClear ix s) := by
  have same : PlacedFrom (changeReports ix s.cmn.conds[ix] s) (withEntry ix s.cmn.conds[ix] s) s := by
    simp only [changeReports, withEntry, bne_self_eq_false, Bool.false_and, Bool.false_eq_true, if_false, put_self]
    exact placed_refl s
  have h := setCond_placed ix .clear s
  cases hc : s.cmn.conds[ix].st <;> simp only [giveClear, clearedEntry, hc, beq_self_eq_true, if_true, reduceCtorEq, beq_iff_eq, if_false]
  · have : movedEntry .clear s.tbu.time s.cmn.conds[ix] = s.cmn.conds[ix] := by
      rw [movedEntry, hc]; rfl
    rw [this]; exact same
  · exact h
  · exact h
  · exact same

/-! ### Requests -/

/-- What a request command does with the request that asks, whole: it is taken and judged (R174). -/
theorem serve_spec {code : Nat} {r : Request} {s : State} (fits : List Byte → Bool) (m : Bool) (rule : Request → State → State)
    (h : Asks code r s) : serve code fits m rule s = .next (settle (judgeRequest fits m rule r (dropRequest s))) := by
  have hd : requestDue code s = true := by simp [requestDue, h.next, h.type]
  simp [serve, when', done, hd, takeRequest, h.next]

/-- What an answer to a request taken does, whole: x is the state with the rule's own effect, the request still in its queue. -/
theorem reply_answered (r : Request) (code : StatusCode) (body : AnswerBody) (x : State)
    (h : x.lki.heldCommit = none → x.lki.behind = []) :
    AnsweredFrom r code body [] x (settle (reply r code body (dropRequest x))) := by
  obtain ⟨h1, h2, h3, h4, h5⟩ := giveAnswer_spec ⟨r.type + 0x80, r.tag, code, body⟩ (dropRequest x) h
  obtain ⟨hf, hr, hs⟩ := settle_formedFrom (reply r code body (dropRequest x))
  have hk : (settle (reply r code body (dropRequest x))).lki = (reply r code body (dropRequest x)).lki :=
    (congrArg (fun u : State => u.lki) hs :)
  have hp : (reply r code body (dropRequest x)).rtb = x.rtb := (congrArg (fun u : State => u.rtb) h3 :)
  have hl : (reply r code body (dropRequest x)).las = x.las := (congrArg (fun u : State => u.las) h3 :)
  have hq : (reply r code body (dropRequest x)).sst = x.sst := (congrArg (fun u : State => u.sst) h3 :)
  refine ⟨hf, ?_, (congrArg sansLink hs).trans (congrArg sansOutputs h3 :), ?_, ?_, fun _ => ?_⟩
  · rw [hr, hq]; simp [retainNeeded, hp, hl]
  · rw [hk]; exact h4
  · have : answerPath (settle (reply r code body (dropRequest x))) = answerPath (reply r code body (dropRequest x)) := by
      simp only [answerPath, hk]
    rw [this]; exact h1
  · have : reportPath (settle (reply r code body (dropRequest x))) = reportPath (reply r code body (dropRequest x)) := by
      simp only [reportPath, hk]
    rw [this, hk]
    exact ⟨by rw [List.append_nil]; exact h2, h5⟩

end Sys2Proof.Machine
end

