-- ==== Sys2Proof/Tests/Slice0.lean ====
section
/-! SUPPORT. Tests: the well-formedness checks, single commands against the worked examples of the spec, and for every obligation with
hypotheses a state and operands that meet them, clause by clause. -/

set_option Elab.async false

namespace Sys2Proof.Tests

open Sys2Proof.Machine
open Sys2Proof.Safety

/-! ### Well-formedness: an ill-formed command for each check -/

theorem test_id_zero_refused : (Instr.recordExpiry 0).wellFormed = false := by decide +kernel
theorem test_id_above_last_refused : (Instr.grantExpiry 4294967296).wellFormed = false := by decide +kernel
theorem test_straddle_id_zero_refused : (Instr.straddleWaitExpiry 0).wellFormed = false := by decide +kernel
theorem test_channel_eight_refused : (Instr.conversionSlot (some ⟨8, 0, 0, 0⟩)).wellFormed = false := by decide +kernel
theorem test_gain_four_refused : (Instr.singleConversion (some ⟨0, 4, 0, 0⟩)).wellFormed = false := by decide +kernel
theorem test_no_bytes_refused : (Instr.frameReceived []).wellFormed = false := by decide +kernel
theorem test_no_len_bytes_refused : (Instr.lenOutOfRange []).wellFormed = false := by decide +kernel
theorem test_well_formed_accepted : (Instr.conversionSlot (some ⟨7, 3, 0, 0⟩)).wellFormed = true := by decide +kernel

/-! ### Single commands -/

/-- The state of a command's outcome. -/
def outcome (o : Host.Outcome State Fault Refusal) : State :=
  match o with
  | .next s => s
  | .fault _ | .refused _ => State.reset

/-- The state after reset at a device time. -/
def atTime (t : Nat) : State := { State.reset with tbu := { State.reset.tbu with time := BitVec.ofNat 32 t } }

/-- The check value of the CRC of Table 12-1 (polynomial 0x1021, initial value 0xFFFF) over the digits 1 to 9. -/
theorem test_crc_check_value :
    crc16 [0x31#8, 0x32, 0x33, 0x34, 0x35, 0x36, 0x37, 0x38, 0x39] = 0x29B1#16 := by decide +kernel

/-- Table 1-5, STRIP_SPACING 3,000 mm: the pairing window is 8,334 to 300,000 ticks, the pair speed at its lower end 35,997 mm/s. -/
theorem test_pairing_window :
    dtMin blankSettings 0 = 8334 ∧ dtMax blankSettings 0 = 300000 ∧ pairSpeed blankSettings 0 8334 = 35997 := by decide +kernel

/-- R19: a raw sample of 100 at gain code 1 is a norm value of 400. -/
theorem test_norm_value : normOf 1 100#16 = 400 := by decide +kernel

/-- R12: a wrong check word makes a missing sample. -/
theorem test_wrong_check_word : goodSample 2 1 ⟨2, 1, 100#16, 100#16⟩ = false := by decide +kernel

/-- R23: floor((256,000 - 0) x 256 / 65,536) = 1,000 is clamped to 800 tenths. -/
theorem test_temperature_clamped : temperatureOf blankSettings.conv 256000 = 800 := by decide +kernel

/-- R14: the first scan tick carries number 0, so every used entry is due in it; the default list has 8. -/
theorem test_first_pass_takes_every_entry :
    (dueEntries (defaultScanList (some 7)) 0).length = 8 ∧ (dueEntries (defaultScanList (some 7)) 1).length = 6 := by decide +kernel

/-- Table 4-5 at 500,000: the rise of E1 makes a candidate with that first-edge time. -/
theorem test_rise_makes_candidate :
    (outcome (exec (.rawEdge 4 true) (atTime 500000))).liu.deb[(4 : Input)].cand = some ⟨true, 500000⟩ := by decide +kernel

/-- Table 4-5 at 502,700: 2,000 ticks after the last edge the candidate is accepted. -/
theorem test_candidate_accepted :
    acceptDue 4 { atTime 502700 with
      liu := { State.reset.liu with
        pins := put State.reset.liu.pins 4 true
        deb := put State.reset.liu.deb 4 ⟨false, some ⟨true, 500000⟩, 500700⟩ } } = true := by decide +kernel

/-- R147: a DECK_CLOSE in CLOSED is answered OK and places no report. -/
theorem test_deck_close_in_closed :
    (outcome (exec .deckClose { State.reset with lki := { State.reset.lki with requests := [⟨0x22, 9, []⟩] } })).lki.ready =
      [⟨0xA2, 9, .ok, .empty⟩] := by decide +kernel

/-- R163: a LANE_CLOSE of lane 1 leaves lane 1 alone CLOSED. -/
theorem test_lane_close :
    (outcome (exec .laneClose { State.reset with lki := { State.reset.lki with requests := [⟨0x21, 0, [1]⟩] } })).cmn.laneMode =
      ⟨#[.blanket, .closed, .blanket], rfl⟩ := by decide +kernel

/-- R174: with the key at OPERATE a SETUP_BEGIN is refused with ACCESS, after its length. -/
theorem test_setup_begin_access :
    (outcome (exec .setupBegin { State.reset with lki := { State.reset.lki with requests := [⟨0x30, 1, []⟩] } })).lki.ready =
      [⟨0xB0, 1, .access, .empty⟩] := by decide +kernel

/-- R106: a SIGN_FORCE of 4,000 s is held to 3,600 s. -/
theorem test_sign_force_limit :
    (outcome (exec .signForce { State.reset with
      lki := { State.reset.lki with requests := [⟨0x25, 0, [2, 0x0F, 0xA0]⟩] } })).dcu.force[(2 : Lane)] =
      some (BitVec.ofNat 32 360000000) := by decide +kernel

/-- R176: a STATUS answer has the layout of Table 12-5: 30 bytes to the committed load, 48 of lane counters, 12 of deck counters. -/
theorem test_status_length : (statusPayload (statusBody State.reset)).length = 90 := by decide +kernel

/-- R175: the transmitter that has sent START takes up the DECK report of reset. -/
theorem test_frame_sent :
    (outcome (exec .frameSent State.reset)).lki.tx =
      some (.report (.deck ⟨.closed, none, .startSafe, .allStop, 0, 0, 0, 0⟩)) := by decide +kernel

/-! ### Witnesses: states and operands that meet the hypotheses of the obligations, clause by clause -/

/-- A state whose outputs are formed, from any state. -/
theorem formed_settle (s : State) : Formed (settle s) := (settle_formedFrom s).formed

theorem witness_StepRunsFrontCommand : ∃ s : State, s.pending = [.status, .scanTick] :=
  ⟨{ State.reset with pending := [.status, .scanTick] }, rfl⟩

/-- R8 and R153: LANE_INTRUSION of lane 0 in ALERT since time 0 latches its decay 6,000,000 ticks later, not one tick before. -/
theorem test_decay_latches :
    let e : CondEntry := ⟨.alert, 1, some 0, some 0, true, none, false⟩
    (latchEntry 6000000 50 e).lapsed = true ∧ (latchEntry 5999999 50 e).lapsed = false := by decide +kernel

/-- R49, the list of section 4.7 after tick 700,500: its eight edges stay, the old ones latched, and make no detection at CHATTER_N 10. -/
theorem test_edge_list_keeps_old_edges :
    let add : List StoredTime → Nat → List StoredTime := fun xs t => addTime 10 (BitVec.ofNat 32 t) (latchOld (BitVec.ofNat 32 t) 100000 xs)
    let xs := [500000, 500300, 500700, 620000, 620150, 620400, 700000, 700500].foldl add []
    xs.length = 8 ∧ xs.countP (·.old) = 3 ∧ recentRun 10 100000 700500 xs = false := by decide +kernel

theorem witness_EmptyQueueStep :
    (∃ s : State, s.pending = [] ∧ dueCommands s = []) ∧ (∃ s : State, s.pending = [] ∧ dueCommands s ≠ []) :=
  ⟨⟨{ State.reset with tbu := { State.reset.tbu with scanDue := false } }, rfl, by decide +kernel⟩,
   ⟨State.reset, rfl, by decide +kernel⟩⟩

theorem witness_EveryStepKeepsFormed : ∃ s t : State, Formed s ∧ step s = .next t :=
  ⟨settle (atTime 7), _, formed_settle _, rfl⟩

theorem witness_EveryStepKeepsAccount : ∃ s t : State, AccountHolds s ∧ step s = .next t :=
  ⟨atTime 7, _, ⟨by decide +kernel, by decide +kernel⟩, rfl⟩

theorem witness_EveryStepKeepsLinkQueues : ∃ s t : State, LinkQueues s ∧ step s = .next t :=
  ⟨atTime 7, _, ⟨by decide +kernel, by decide +kernel, by decide +kernel, fun _ => rfl⟩, rfl⟩

theorem witness_EveryStepKeepsStoreSizes : ∃ s t : State, StoreSizes s ∧ step s = .next t :=
  ⟨atTime 7, _, ⟨by decide +kernel, by decide +kernel, by decide +kernel⟩, rfl⟩

theorem witness_EveryStepKeepsSafeDeckClosed :
    ∃ s t : State, SafeDeckClosed s ∧ s.cmn.safeFlag = true ∧ step s = .next t :=
  ⟨atTime 7, _, fun _ => rfl, rfl, rfl⟩

theorem witness_DeviceSecondsAdvance :
    ∃ s : State, 100000 ≤ s.tbu.secTicks ∧ laneModeOf s 0 = .closed ∧ laneModeOf s 1 ≠ .closed :=
  ⟨{ State.reset with
      tbu := { State.reset.tbu with secTicks := 100000 }
      cmn := { State.reset.cmn with closedMark := put State.reset.cmn.closedMark 0 true } },
    by decide +kernel, by decide +kernel, by decide +kernel⟩

/-- Lane 1's first channel before a grading, of an old grade and of an age that is after it 599, 600 or 1,200 s, at ZERO_OVERDUE 600 s. -/
def gradingState (old : ZeroGrade) (age : Nat) : State :=
  { State.reset with
    tbu := { State.reset.tbu with secTicks := 100000, seconds := 4999 }
    zsc := { State.reset.zsc with
      chans := put State.reset.zsc.chans 2 ⟨0, some (BitVec.ofNat 32 (5000 - age)), false, false, old, 0⟩ } }

/-- R37: every change of grade of a channel occurs. -/
theorem witness_DeviceSecondsAdvance_grades :
    ∀ old ∈ [ZeroGrade.fresh, .overdue, .failing], ∀ p ∈ [(599, ZeroGrade.fresh), (600, .overdue), (1199, .overdue), (1200, .failing)],
      100000 ≤ (gradingState old p.1).tbu.secTicks ∧ (gradingState old p.1).zsc.chans[(2 : Chan)].grade = old ∧
      (outcome (exec .deviceSecondsAdvance (gradingState old p.1))).zsc.chans[(2 : Chan)].grade = p.2 := by decide +kernel

/-- The state after reset with lane 0's first channel in a measurement of two samples of which `count` are taken, allowing a spread of 10
and a range of 5 about 0, and lane 0's closed mark as given. -/
def zeroState (count : Nat) (closed : Bool) : State :=
  { State.reset with
    zsc := { State.reset.zsc with meas := some ⟨0, count, 0, 0, 0, 2, 10, 5, 0⟩ }
    cmn := { State.reset.cmn with closedMark := put State.reset.cmn.closedMark 0 closed } }

/-- The state after reset with the default scan list up to entry 7, no channel due, a requested zero of each listed channel, and the round-robin
pointer as given. -/
def requestState (cs : List Chan) (pointer : Fin 6) : State :=
  { State.reset with
    sst := { State.reset.sst with live := defaultsWith (defaultScanList (some 7)) }
    zsc := { State.reset.zsc with
      pointer := pointer, chans := Vector.ofFn fun c => ⟨0, none, cs.contains c, false, .fresh, 0⟩ } }

/-- R39 at a scan tick in an idle site, with channels 1 and 4 requested: from pointer 2 on channel 4, from pointer 5 on, with wraparound, channel 1. -/
theorem test_zero_pointer_wraps :
    ((outcome (exec .scanTick (requestState [1, 4] 2))).zsc.meas.map (·.chan) = some 4) ∧
    ((outcome (exec .scanTick (requestState [1, 4] 5))).zsc.meas.map (·.chan) = some 1) ∧
    ((outcome (exec .scanTick (requestState [] 5))).zsc.meas.map (·.chan) = none) := by decide +kernel

/-- A tick with a channel that is requested, scanned and in an idle lane, and with none requested or due. A first sample, and a last one: 11 is
past the spread; 12 at a spread of 12 past the range, its mean being 6; 10 neither. -/
theorem witness_ScanTickBeginsPass :
    (∃ s : State, s.tbu.scanDue = true ∧ s.csq.slots = []) ∧
    (let s := requestState [1] 5
     s.tbu.scanDue = true ∧ s.csq.slots = [] ∧ s.zsc.meas.isNone = true ∧ (chanLane 1).val < s.sst.live.site.laneCount ∧
     s.zsc.chans[(1 : Chan)].requested = true ∧ (∃ e ∈ usedEntries s.sst.live.conv.scanList, e.channel.val = 1 ∧ e.every = 1) ∧
     s.liu.deb[loopInput (pLoop 0)].level = false ∧ s.scu[s1Chan 0].det = .idle ∧ s.scu[s2Chan 0].det = .idle ∧
     s.las[(0 : Lane)].fifo.isEmpty = true ∧ s.rtb.pool.isEmpty = true) ∧
    (∀ c : Chan, (requestState [] 5).zsc.chans[c].requested = false ∧ (requestState [] 5).zsc.chans[c].due = false) ∧
    (∀ closed : Bool, (zeroState 0 closed).zsc.meas = some ⟨0, 0, 0, 0, 0, 2, 10, 5, 0⟩ ∧ 0 + 1 < 2 ∧
      (zeroState 1 closed).zsc.meas = some ⟨0, 1, 0, 0, 0, 2, 10, 5, 0⟩ ∧ 2 ≤ 1 + 1) ∧
    ((10 : Int) < max 0 11 - min 0 11 ∧ max 0 10 - min 0 10 ≤ (10 : Int) ∧ |Int.fdiv (0 + 10) 2 - 0| ≤ (5 : Int) ∧
      (5 : Int) < |Int.fdiv (0 + 12) 2 - 0| ∧
      laneModeOf (zeroState 1 true) (chanLane 0) = .closed ∧ laneModeOf (zeroState 1 false) (chanLane 0) ≠ .closed ∧
      0 < (zeroState 1 false).sst.live.zero.zeroInterval ∧ 0 < (zeroState 1 false).sst.live.zero.zeroOverdue) :=
  ⟨⟨State.reset, rfl, rfl⟩, by decide +kernel, by decide +kernel, fun _ => ⟨rfl, by omega, rfl, by omega⟩, by decide +kernel⟩

/-- The state after reset in the first slot of a pass that takes one entry. -/
def slotState (j : Nat) : State :=
  { State.reset with csq := { State.reset.csq with slots := [defaultScanEntry j false] } }

/-- The slot's own tick and one past it; an answer as due and none; a temperature that is stale and one that is not; a reference reading at
REF_TOL from REF_NOM and past it, at the default of 1,600 about 196,608. -/
theorem witness_ConversionSlotTakesSample :
    (∀ j, ∀ late ≤ 1, let s := { slotState j with tbu := { State.reset.tbu with time := BitVec.ofNat 32 late } }
      s.csq.slots = [defaultScanEntry j false] ∧ s.csq.slotIx ≤ (s.tbu.time - s.csq.passTime).toNat) ∧
    6 ≤ (defaultScanEntry 6 false).channel.val ∧ (defaultScanEntry 5 false).channel.val = (5 : Chan).val ∧
    ((slotState 5).tbu.time - (slotState 5).csq.passTime).toNat ≤ (slotState 5).csq.slotIx ∧
    goodSample 5 (defaultScanEntry 5 false).gain ⟨5, (defaultScanEntry 5 false).gain.val, 100#16, ~~~100#16⟩ = true ∧
    (∀ stale : Bool, ∃ s : State, s.csq.slots = [defaultScanEntry 6 false] ∧ (defaultScanEntry 6 false).channel = 6 ∧
      s.csq.temp.stale = stale) ∧
    ((defaultScanEntry 7 false).channel = 7 ∧
      (∃ raw : BitVec 16, |normOf 0 raw - (slotState 7).csq.inForce.refNom| ≤ ((slotState 7).csq.inForce.refTol : Int)) ∧
      ∃ raw : BitVec 16, ¬ |normOf 0 raw - (slotState 7).csq.inForce.refNom| ≤ ((slotState 7).csq.inForce.refTol : Int)) :=
  ⟨fun _ _ _ => ⟨rfl, Nat.zero_le _⟩, by decide +kernel, by decide +kernel, by decide +kernel, by decide +kernel,
   fun stale => ⟨{ slotState 6 with csq := { (slotState 6).csq with temp := ⟨none, stale⟩ } }, rfl, rfl, rfl⟩,
   rfl, ⟨24776, by decide +kernel⟩, ⟨24777, by decide +kernel⟩⟩

theorem witness_SingleConversionReports : ∃ (s : State) (p : SingleConv),
    s.csq.slots = [] ∧ s.csq.single = some p ∧ p.armed = true ∧ s.csq.slotIx ≤ (s.tbu.time - s.csq.passTime).toNat :=
  ⟨{ State.reset with csq := { State.reset.csq with single := some ⟨7, 3, true⟩ } }, ⟨7, 3, true⟩, rfl, rfl, rfl, by decide +kernel⟩

/-- A state at a time with one entry of the condition table replaced. -/
def condState (t : Nat) (ix : CondIx) (e : CondEntry) : State := withEntry ix e (atTime t)

/-- An entry that has the state given since time 0, and watch time 0. -/
def sinceZero (st : CondState) : CondEntry := ⟨st, 1, some 0, some 0, true, some 0, false⟩

/-- STRIP_SILENT of channel 5 and LANE_INTRUSION of lane 0 in ALERT, ZERO_RANGE of channel 0 and REF_CHECK RECOVERING, in a present lane, in an
absent one and of a device kind, and one of them latched; TEMP_STALE being 600 s, the site of three lanes. -/
theorem witness_ConditionTimers :
    (∃ s : State, s.csq.temp.stale = false ∧
      s.csq.inForce.tempStale * 100000 ≤ (s.tbu.time - (s.csq.temp.value.map (·.2)).getD 0).toNat) ∧
    (∀ c ∈ [((8 : CondIx), 3000000, CondState.alert), (50, 6000000, .alert), (9, 6000000, .recovering), (29, 6000000, .recovering)],
      let s := condState c.2.1 c.1 (sinceZero c.2.2)
      (∀ l ∈ entryLane c.1, l.val < s.sst.live.site.laneCount) ∧ s.cmn.conds[c.1].st = c.2.2 ∧
      s.cmn.conds[c.1].last = some 0 ∧ s.cmn.conds[c.1].watch = some 0 ∧ c.2.1 ≤ (s.tbu.time - (0 : Time)).toNat ∧
      (c.2.2 = .alert → (kindOf c.1).1.family = .counted ∧ ((kindOf c.1).1 = .laneIntrusion ↔ c.2.1 = 6000000))) ∧
    (∃ s : State, ¬ ∀ l ∈ entryLane 8, l.val < s.sst.live.site.laneCount) ∧
    (∀ st ∈ [CondState.alert, .recovering], ∃ s : State, s.cmn.conds[(8 : CondIx)] = { sinceZero st with lapsed := true }) ∧
    (∃ s : State, s.cmn.conds[convLinkIx].st = .fault ∧ s.cmn.conds[convLinkIx].last = some 0 ∧
      1000000 ≤ (s.tbu.time - (0 : Time)).toNat) ∧
    (∃ s : State, s.cmn.conds[tempLostIx].st = .alert ∧ s.cmn.tempLostTime = some 0 ∧
      s.csq.inForce.tempStale * 100000 ≤ (s.tbu.time - (0 : Time)).toNat) :=
  ⟨⟨atTime 60000000, rfl, by decide +kernel⟩, by decide +kernel,
   ⟨{ State.reset with sst := { State.reset.sst with live := { State.reset.sst.live with
        site := { State.reset.sst.live.site with laneCount := 2 } } } }, by decide +kernel⟩,
   fun st _ => ⟨condState 0 8 { sinceZero st with lapsed := true }, rfl⟩,
   ⟨condState 1000000 28 (sinceZero .fault), by decide +kernel, by decide +kernel, by decide +kernel⟩,
   ⟨{ condState 60000000 27 (sinceZero .alert) with
        cmn := { (condState 60000000 27 (sinceZero .alert)).cmn with tempLostTime := some 0 } },
     by decide +kernel, by decide +kernel, by decide +kernel⟩⟩

/-- The state after reset with one Strip Channel Unit in the state given. -/
def unitState (u : ScuState) : State := { State.reset with scu := put State.reset.scu 0 u }

/-- A unit in a detector state with a sample count and tail samples. -/
def unitOf (det : DetState) (count tail : Nat) : ScuState :=
  { startScu blankSettings 0 with det := det, count := count, tailSamples := tail }

/-- Norm values at the thresholds of the defaults, PULSE_ON 800, PULSE_OFF 400, PULSE_MIN 3, PULSE_MAX 600, PULSE_REJOIN 2: each detector
state; one sample short of PULSE_MAX and at it; TAIL below and at PULSE_REJOIN, with a pulse of 2 and one of 3. The Trace Store with
room, full, OFF and held; a newest record of a channel that fits an id notice and one that does not. -/
theorem witness_DetectorTakesSample :
    ((∀ d ∈ [DetState.off, .idle, .pulse, .tail, .stuck], (unitState (unitOf d 1 1)).scu[(0 : Chan)].det = d) ∧
    State.reset.zsc.chans[(0 : Chan)].baseline = 0 ∧
    (unitOf .idle 0 0).cfg.pulseOn = 800 ∧ (unitOf .idle 0 0).cfg.pulseOff = 400 ∧
    (unitOf .pulse 598 0).count + 1 < (unitOf .pulse 598 0).cfg.pulseMax ∧
    ¬ (unitOf .pulse 599 0).count + 1 < (unitOf .pulse 599 0).cfg.pulseMax ∧
    (unitOf .tail 596 2).count + (unitOf .tail 596 2).tailSamples + 1 < (unitOf .tail 596 2).cfg.pulseMax ∧
    ¬ (unitOf .tail 597 2).count + (unitOf .tail 597 2).tailSamples + 1 < (unitOf .tail 597 2).cfg.pulseMax ∧
    (unitOf .tail 3 1).tailSamples < (unitOf .tail 3 1).cfg.pulseRejoin ∧
    (unitOf .tail 3 2).cfg.pulseRejoin ≤ (unitOf .tail 3 2).tailSamples ∧
    (unitOf .tail 2 2).count < (unitOf .tail 2 2).cfg.pulseMin ∧ (unitOf .tail 3 2).cfg.pulseMin ≤ (unitOf .tail 3 2).count ∧
    State.reset.sst.live.link.traceMode ≠ .off ∧ State.reset.trs.held = none ∧ State.reset.sst.live.link.traceCh[(0 : Chan)] = true) ∧
    (∃ ring : List TraceRecord, ring.reverse.find? (·.chan == 0) = some ⟨1, 0, 5, 0, false, false, []⟩) ∧
    (∀ r, ([] : List TraceRecord).reverse.find? (·.chan == 0) = some r → ¬ (r.start = 5 ∧ r.vehicle = 0)) :=
  ⟨by decide +kernel, ⟨[⟨1, 0, 5, 0, false, false, []⟩], by decide +kernel⟩, fun _ h => nomatch h⟩

/-! Loops and inputs. -/

/-- The state after reset with the settings changed. -/
def withLive (f : Settings → Settings) (s : State) : State := { s with sst := { s.sst with live := f s.sst.live } }

/-- A state at a time with loop P0's state given. -/
def loopState (t : Nat) (x : LoopState) : State :=
  { atTime t with liu := { State.reset.liu with loops := put State.reset.liu.loops 0 x } }

/-- A state at a time with an input's debounce given and its line at a level. -/
def debState (t : Nat) (i : Input) (pin : Bool) (d : Debounce) : State :=
  { atTime t with liu := { State.reset.liu with pins := put State.reset.liu.pins i pin, deb := put State.reset.liu.deb i d } }

/-- Nine edges at a time, one short of CHATTER_N. -/
def nineEdges (t : Nat) : List StoredTime := List.replicate 9 ⟨BitVec.ofNat 32 t, false⟩

/-- Lane 0 with an open ghost or none, CLOSED or not. -/
def ghostState (open' closed : Bool) : State :=
  { State.reset with
    rtk := { ghost := put State.reset.rtk.ghost 0 open' }
    cmn := { State.reset.cmn with closedMark := put State.reset.cmn.closedMark 0 closed } }

/-- An input not in use, MK, and loop P0: no detection, one that begins an episode, and one of a running episode short of 10 s, at 10 s, and
with its fault cause given. A loop of each role at twice LOOP_STUCK; an episode 30 s old in a loop that so returns to service; the E loop with
an open ghost and without, of a lane CLOSED and not. -/
theorem witness_LoopWatches :
    (∃ s : State, s.liu.pins[(1 : Input)] ≠ true ∧ inputInUse s.sst.live 1 = false) ∧
    (∃ s : State, s.liu.pins[(10 : Input)] ≠ true ∧ inputInUse s.sst.live 10 = true ∧ inputLoop 10 = none) ∧
    (∀ c ∈ [(0, (none : Option Episode), ([] : List StoredTime)), (99999, none, nineEdges 0), (999999, some ⟨0, 0, false⟩, nineEdges 999999),
        (1000000, some ⟨0, 0, false⟩, nineEdges 1000000), (1000000, some ⟨0, 0, true⟩, nineEdges 1000000)],
      let s := loopState c.1 ⟨0, false, .none, c.2.1, c.2.2⟩
      s.liu.pins[(0 : Input)] ≠ true ∧ inputLoop 0 = some 0 ∧ inputInUse s.sst.live 0 = true ∧ s.liu.loops[(0 : Loop)].chatter = c.2.1 ∧
      (decide ((keepNewest 10 (c.2.2 ++ [⟨s.tbu.time, false⟩])).length = s.sst.live.loop.chatterN ∧
        (s.tbu.time - (c.2.2.headD ⟨0, false⟩).time).toNat < 100000) = decide (c.1 ≠ 0))) ∧
    (∀ l ∈ [(0 : Loop), 3, 6, 9],
      let s := debState 36000000 (loopInput l) true ⟨true, none, 0⟩
      loopInUse s.sst.live l = true ∧ s.liu.deb[loopInput l].level = true ∧ s.liu.loops[l].stuck ≠ .faulted ∧
      2 * (s.sst.live.loop.loopStuck * 100000) ≤ (s.tbu.time - s.liu.loops[l].occStart).toNat ∧ inService s l = true) ∧
    (∃ s : State, loopInUse s.sst.live 0 = true ∧ s.liu.loops[(0 : Loop)].chatter = some ⟨0, 0, true⟩ ∧
      3000000 ≤ (s.tbu.time - (0 : Time)).toNat ∧ inService s 0 = false) ∧
    (∀ open' closed : Bool, (ghostState open' closed).rtk.ghost[(0 : Lane)] = open' ∧
      decide (laneModeOf (ghostState open' closed) 0 = .closed) = closed) :=
  ⟨⟨withLive (fun st => { st with site := { st.site with laneCount := 1 } }) State.reset, by decide +kernel, by decide +kernel⟩,
   ⟨State.reset, by decide +kernel, by decide +kernel, by decide +kernel⟩, by decide +kernel, by decide +kernel,
   ⟨loopState 3000000 ⟨0, false, .none, some ⟨0, 0, true⟩, []⟩, by decide +kernel, by decide +kernel, by decide +kernel, by decide +kernel⟩,
   by decide +kernel⟩

/-- The hypotheses of `CandidateAccepted` for an input, LOOP_STABLE being 2,000 ticks. -/
theorem witness_CandidateAccepted :
    ∀ i ∈ [(0 : Input), 4, 9, 10, 11], ∀ level : Bool,
      let s := debState 2000 i level ⟨!level, some ⟨level, 0⟩, 0⟩
      inputInUse s.sst.live i = true ∧ s.liu.deb[i].cand = some ⟨level, 0⟩ ∧
      levelUnder s.sst.live i s.liu.pins[i] = level ∧
      s.sst.live.loop.loopStable * 100 ≤ (s.tbu.time - s.liu.deb[i].lastEdge).toNat ∧
      ∀ l ∈ inputLoop i, inService s l = true := by decide +kernel

theorem witness_CancelAndStuckAlert :
    (∃ s : State, inputInUse s.sst.live 0 = true ∧ s.liu.deb[(0 : Input)].cand = some ⟨true, 0⟩ ∧
      levelUnder s.sst.live 0 s.liu.pins[(0 : Input)] = s.liu.deb[(0 : Input)].level ∧
      s.sst.live.loop.loopStable * 100 ≤ (s.tbu.time - s.liu.deb[(0 : Input)].lastEdge).toNat) ∧
    (∃ s : State, loopInUse s.sst.live 0 = true ∧ s.liu.deb[loopInput 0].level = true ∧
      s.liu.loops[(0 : Loop)].stuck = .none ∧
      s.sst.live.loop.loopStuck * 100000 ≤ (s.tbu.time - s.liu.loops[(0 : Loop)].occStart).toNat) :=
  ⟨⟨debState 2000 0 false ⟨false, some ⟨true, 0⟩, 0⟩, by decide +kernel, by decide +kernel, by decide +kernel, by decide +kernel⟩,
   ⟨debState 18000000 0 true ⟨true, none, 0⟩, by decide +kernel, by decide +kernel, by decide +kernel, by decide +kernel⟩⟩

/-- A state at a time with lane 0's deck order list given. -/
def deckState (t : Nat) (st : DeckSt) (es : List DeckEntry) : State :=
  { atTime t with dkc := { State.reset.dkc with st := st, lists := put State.reset.dkc.lists 0 es } }

/-- A LIGHT and a HEAVY entry at time 0. -/
def light0 : DeckEntry := ⟨.light, none, 0, 0, false, false, false, false, false⟩
def heavy0 : DeckEntry := ⟨.heavy, some 1, 0, 9000, false, false, false, false, false⟩

theorem witness_LaneTimersEnd :
    (∃ s : State, earlier s.tbu.time 5 = false ∧ s.dcu.camera[(0 : Lane)] = some 5) ∧
    (∃ s : State, s.dkc.lists[(0 : Lane)] = [light0] ∧ light0.aged = false ∧ s.dkc.overstayGiven[(0 : Lane)] = false ∧
      s.sst.live.deck.overstay * 100000 ≤ (s.tbu.time - light0.entryTime).toNat) ∧
    (∃ s : State, s.dkc.lists[(0 : Lane)] = [light0] ∧ s.dkc.overstayGiven[(0 : Lane)] = true ∧
      s.sst.live.deck.overstay * 100000 ≤ (s.tbu.time - light0.entryTime).toNat) :=
  ⟨⟨{ atTime 5 with dcu := { State.reset.dcu with camera := put State.reset.dcu.camera 0 (some 5) } }, by decide +kernel, by decide +kernel⟩,
   ⟨deckState 60000000 .openDeck [light0], by decide +kernel, by decide +kernel, by decide +kernel, by decide +kernel⟩,
   ⟨{ deckState 60000000 .openDeck [light0] with
        dkc := { (deckState 60000000 .openDeck [light0]).dkc with overstayGiven := put State.reset.dkc.overstayGiven 0 true } },
     by decide +kernel, by decide +kernel, by decide +kernel⟩⟩

/-! Assemblers. -/

/-- A state at a time with lane 0's assembler given. -/
def lasState (t : Nat) (a : LasState) : State := { atTime t with las := put State.reset.las 0 a }

/-- A FIFO entry at time 0 of vehicle 0, which has no record, or has record 1. -/
def entry0 : FifoEntry := ⟨0, 5000, .recorded 1, some 1, 0, 0, false⟩

/-- Record 1 of lane 0, in the state and with the admission and decision given. -/
def record1 (st : RecState) (d : Option Decision) (adm : Admission) : VRecord :=
  { freshRecord 1 0 0 0 5000 with
    st := st, decision := d, admission := adm, upper := some 9000, quality := some .a, windows := some ⟨0, 10, 0, 10⟩ }

/-- The state with one record in the pool. -/
def withRecord (r : VRecord) (s : State) : State := { s with rtb := { s.rtb with pool := [r] } }

/-- The window of STRIP_SPACING 3,000 mm ends at 300,000 ticks, so an entry expires 300,001 after its start. -/
theorem witness_FifoEntryExpires :
    (∃ s : State, s.las[(0 : Lane)].fifo.find? (fun e => !e.waiting && decide
        ((s.settingsOf e.gen).site.stripSpacing[(0 : Lane)] * 100000 / max (s.settingsOf e.gen).asm.vPairMin 1 + 1 ≤
          (s.tbu.time - e.start).toNat)) = some entry0 ∧
      s.scu[s2Chan 0].det = .idle ∧ s.las[(0 : Lane)].sealed = []) ∧
    (∃ s : State, s.las[(0 : Lane)].fifo.find? (fun e => !e.waiting && decide
        ((s.settingsOf e.gen).site.stripSpacing[(0 : Lane)] * 100000 / max (s.settingsOf e.gen).asm.vPairMin 1 + 1 ≤
          (s.tbu.time - e.start).toNat)) = some entry0 ∧ s.scu[s2Chan 0].det = .pulse) :=
  ⟨⟨lasState 300001 { startLas with fifo := [entry0] }, by decide +kernel, by decide +kernel, by decide +kernel⟩,
   ⟨{ lasState 300001 { startLas with fifo := [entry0] } with scu := put State.reset.scu 1 (unitOf .pulse 1 0) },
     by decide +kernel, by decide +kernel⟩⟩

/-- Lane 0's assembler holding one FIFO entry. -/
def pairState : State := lasState 0 { startLas with fifo := [entry0] }

/-- A vehicle of lane 0 open since a hit at time 0, with the FIFO given and a record of a number of axles. -/
def openState (owner : Owner) (fifo : List FifoEntry) (axles : Nat) : State :=
  withRecord { record1 .assembling none .none with axles := List.replicate axles (openAxle 0 5000) }
    (lasState 0 { startLas with fifo := fifo, openVeh := some ⟨0, owner, true, 0, 0, 0, 0⟩ })

/-- S2 hits at both ends of the window pair with the entry, one tick outside them is spurious; a vehicle's first hit finds a free slot, or
finds none. A later hit at the split time, 10,000 mm at V_NOMINAL 22,000 mm/s, and one tick past it; of a record of 11 and of 12 axles, of
an unrecorded vehicle, and of one with no record yet; a vehicle that a split leaves with an entry and without; a FIFO of 3 and of 4. -/
theorem witness_StripHits :
    pairState.las[(0 : Lane)].fifo.find? (pairs pairState 0 8334) = some entry0 ∧
    pairState.las[(0 : Lane)].fifo.find? (pairs pairState 0 300000) = some entry0 ∧
    pairState.las[(0 : Lane)].fifo.find? (pairs pairState 0 8333) = none ∧
    pairState.las[(0 : Lane)].fifo.find? (pairs pairState 0 300001) = none ∧
    (∃ s : State, s.las[(0 : Lane)].openVeh = none ∧ s.las[(0 : Lane)].fifo.length < 4 ∧ s.rtb.pool.length < 48) ∧
    (∃ s : State, s.las[(0 : Lane)].openVeh = none ∧ s.las[(0 : Lane)].fifo.length < 4 ∧ 48 ≤ s.rtb.pool.length) ∧
    (∀ owner ∈ [Owner.noRecord, .unrecorded, .recorded 1], ∀ n ∈ [0, 1, 3, 4], ∀ axles ∈ [11, 12],
      let s := openState owner (List.replicate n entry0) axles
      s.las[(0 : Lane)].openVeh = some ⟨0, owner, true, 0, 0, 0, 0⟩ ∧ s.las[(0 : Lane)].fifo.length = n ∧
      s.las[(0 : Lane)].sealed = [] ∧ (∀ e ∈ s.las[(0 : Lane)].fifo, e.veh = 0) ∧
      (findRec s 1).map (·.axles.length) = some axles ∧
      (s.settingsOf 0).asm.splitGap * 100000 / max (s.las[(0 : Lane)].vref.getD (s.settingsOf 0).asm.vNominal) 1 = 45454) :=
  ⟨by decide +kernel, by decide +kernel, by decide +kernel, by decide +kernel,
   ⟨State.reset, by decide +kernel, by decide +kernel, by decide +kernel⟩,
   ⟨{ State.reset with rtb := { State.reset.rtb with pool := List.replicate 48 (record1 .assembling none .none) } },
     by decide +kernel, by decide +kernel, by decide +kernel⟩, by decide +kernel⟩

/-- R63: an axle opens with the source PAIRED and no speed. R65: a 13th hit sets TRUNCATED and adds no axle. R64: a hit one tick past the
split time opens a second vehicle. -/
theorem test_later_hits :
    (findRec (takeS1 0 ⟨45454, 5000, none, 45454⟩ (openState (.recorded 1) [entry0] 11)) 1).map
      (fun r => (r.axles.length, r.axles.getLast?.map (fun a => (a.source, a.speed)), r.reasons.truncated)) =
        some (12, some (.paired, none), false) ∧
    (findRec (takeS1 0 ⟨45454, 5000, none, 45454⟩ (openState (.recorded 1) [entry0] 12)) 1).map
      (fun r => (r.axles.length, r.reasons.truncated)) = some (12, true) ∧
    (takeS1 0 ⟨45455, 5000, none, 45455⟩ (openState (.recorded 1) [entry0] 11)).las[(0 : Lane)].sealed = [⟨0, .recorded 1, 0⟩] := by
  decide +kernel

theorem witness_CloseGapSeals :
    (∀ fifo ∈ [[entry0], []], ∀ owner ∈ [Owner.unrecorded, .recorded 1],
      let s := lasState 150000 { startLas with fifo := fifo, openVeh := some ⟨0, owner, false, 0, 0, 0, 0⟩ }
      s.las[(0 : Lane)].openVeh = some ⟨0, owner, false, 0, 0, 0, 0⟩ ∧ owner ≠ .noRecord ∧
      (s.settingsOf 0).asm.closeGap * 100 ≤ (s.tbu.time - (0 : Time)).toNat ∧ s.las[(0 : Lane)].sealed = []) ∧
    (∀ sealed ∈ [[], [(⟨7, .recorded 1, 0⟩ : SealedVehicle)], [⟨7, .recorded 1, 0⟩, ⟨8, .unrecorded, 0⟩]],
      let s := lasState 0 { startLas with fifo := [entry0], sealed := sealed }
      s.las[(0 : Lane)].sealed.filter (fun v => !(s.las[(0 : Lane)].fifo.any (·.veh == v.veh))) = sealed) := by
  decide +kernel

/-- R69: of four axles, the second and third paired, the substitutes take the nearer paired speed; with none paired every speed is 0. -/
theorem test_substitute_speeds :
    let axle : Option Nat → SpeedSource → Axle := fun v src => { openAxle 0 5000 with speed := v, source := src }
    (resolveSpeeds [axle none .substitute, axle (some 900) .paired, axle none .substitute, axle (some 800) .paired]).map (·.speed) =
      [some 900, some 900, some 900, some 800] ∧
    (closedRecord State.reset { record1 .assembling none .none with axles := [axle none .substitute] }).speed = some 0 := by
  decide +kernel

/-- An open vehicle of lane 0 whose first and last S1 hits were at 5. -/
def openAt (owner : Owner) (covered : Bool) : OpenVehicle := ⟨0, owner, covered, 5, 5, 5, 0⟩

/-- Record n of a lane with a first axle at a time, in the state given, awaited or not. -/
def straddler (n : Nat) (lane : Lane) (start : Nat) (st : RecState) : VRecord :=
  { freshRecord n lane 0 (BitVec.ofNat 32 start) 5000 with st := st }

/-- The state with two records in the pool, and record 1 awaiting record 2 in lane 0's pending list or not. -/
def straddleState (y x : VRecord) (waits : Bool) : State :=
  { State.reset with
    rtb := { State.reset.rtb with pool := [y, x] }
    las := put State.reset.las 0 { startLas with pendingList := if waits then [⟨1, 2, 0⟩] else [] } }

/-- An arrival in a closed lane; with no vehicle open; with one covered by gap whose first hit is not earlier; and with one covered by the
loop, or earlier, with a record and without. A closed record that is awaited; that is not, with a candidate at STRADDLE_WIN and with none;
that is STRADDLE_SUSPECT. Two records of different lanes within STRADDLE_WIN, and past it. -/
theorem witness_AssemblerArrivalsAndStraddles :
    (∃ s : State, inService s (pLoop 0) = true ∧ laneModeOf s 0 = .closed) ∧
    (inService State.reset (pLoop 0) = true ∧ laneModeOf State.reset 0 ≠ .closed ∧ State.reset.las[(0 : Lane)].openVeh = none) ∧
    (∀ owner ∈ [Owner.noRecord, .recorded 1], ∀ covered : Bool,
      let s := lasState 0 { startLas with openVeh := some (openAt owner covered) }
      inService s (pLoop 0) = true ∧ laneModeOf s 0 ≠ .closed ∧ s.las[(0 : Lane)].openVeh = some (openAt owner covered)) ∧
    earlier (5 : Time) 5 = false ∧ earlier (5 : Time) 6 = true ∧
    (let s := straddleState (straddler 1 0 0 .pending) (straddler 2 1 0 .pending) true
     findRec s 2 = some (straddler 2 1 0 .pending) ∧ findRec s 1 = some (straddler 1 0 0 .pending) ∧
     ∃ p ∈ s.las[(0 : Lane)].pendingList, p.id = 1 ∧ p.awaits = 2) ∧
    (∀ st ∈ [RecState.assembling, .decided],
      let s := straddleState (straddler 1 0 5000 st) (straddler 2 1 0 .pending) false
      findRec s 2 = some (straddler 2 1 0 .pending) ∧ (∀ k : Lane, s.las[k].pendingList = []) ∧
      (s.settingsOf 0).asm.straddleWin * 100 = 5000 ∧ adjacent s.sst.live 1 0 = true ∧
      ((5000 : Time) - 0).toNat = 5000) ∧
    (∃ x : VRecord, x.flags.straddleSuspect = true) ∧
    (∀ start ∈ [5000, 5001],
      let y := straddler 1 0 start .pending
      let x := straddler 2 1 0 .pending
      let s := straddleState y x true
      findRec s y.id = some y ∧ findRec s x.id = some x ∧ y.lane ≠ x.lane ∧ y.id ≠ x.id ∧ (mergeTest s y x ↔ start = 5000)) :=
  ⟨⟨{ State.reset with cmn := { State.reset.cmn with closedMark := put State.reset.cmn.closedMark 0 true } },
     by decide +kernel, by decide +kernel⟩,
   by decide +kernel, by decide +kernel, by decide +kernel, by decide +kernel, by decide +kernel, by decide +kernel,
   ⟨{ straddler 1 0 0 .pending with flags := { (straddler 1 0 0 .pending).flags with straddleSuspect := true } }, rfl⟩,
   by decide +kernel⟩

theorem witness_StraddleWaitDecides :
    ∃ (p : PendingRecord) (r : VRecord) (s : State), pendingEntry s 1 = some p ∧ findRec s 1 = some r ∧ p.awaits ≠ 1 ∧
      (s.settingsOf r.gen).asm.straddleWait * 100 ≤ (s.tbu.time - p.waitStart).toNat :=
  ⟨⟨1, 2, 0⟩, record1 .pending none .none,
    withRecord (record1 .pending none .none) (lasState 100000 { startLas with pendingList := [⟨1, 2, 0⟩] }),
    by decide +kernel, by decide +kernel, by decide +kernel, by decide +kernel⟩

/-! Records and tracking. -/

/-- The default settings with every channel's factor 1. -/
def goodWeigh : Settings := { blankSettings with weigh := { blankSettings.weigh with fch := Vector.replicate 6 (some 65536) } }

/-- Temperatures on both sides of the bounds of Table 6-2 and none, axles with each speed source, with and without an S2 area and a speed, a
record without axles; windows of 16 samples with 2, 3, 5 and 6 disagreements; and a record of the pool with its close readings. The other
clauses have no hypothesis on a record or a state; each clause's form occurs. -/
theorem witness_WeighingRules :
    (∀ T ∈ [(-201 : Int), -200, 599, 600], (T < -200 ∨ 600 ≤ T) ∨ (-200 ≤ T ∧ T < 600)) ∧
    (∀ p ∈ [((2 : Nat), true), (3, false), (5, false), (6, false)], (List.replicate p.1 false).countP (!·) = p.1 ∧
      (p.2 = true ↔ p.1 ≤ 2)) ∧
    (∃ (c : CloseReading) (r : VRecord), c.temp = some 250 ∧
      (weighToAxles goodWeigh c r).axles.map (fun a => (a.w1.isSome, a.w2.isSome)) = [(true, true), (true, false), (false, false)]) ∧
    (let r := { record1 .pending none .none with reading := some ⟨some 250, false, false, .normal⟩ }
     findRec (withRecord r State.reset) 1 = some r ∧ r.reading = some ⟨some 250, false, false, .normal⟩) :=
  ⟨by decide +kernel, by decide +kernel,
   ⟨⟨some 250, false, false, .normal⟩,
    { freshRecord 1 0 0 0 5000 with
      axles := [⟨0, 5000, some 5100, none, none, none, some 10000, .paired, none, none⟩,
        ⟨9, 5000, none, none, none, none, some 10000, .substitute, none, none⟩,
        ⟨99, 5000, none, none, none, none, none, .substitute, none, none⟩] },
    rfl, by decide +kernel⟩, by decide +kernel⟩

/-- R96 and R97: gap codes at the bounds of GAP_B1 to GAP_B3, the masks, and the default table (Table 7-4): two axles 3,499 mm apart are of class
1, 3,500 mm apart of class 2, one with speed 0 of class 255. -/
theorem test_classes :
    let two : Nat → Nat → VRecord := fun spacing v =>
      { record1 .assembling none .none with
        speed := some v, axles := [openAxle 0 5000, { openAxle 0 5000 with spacing := some spacing }] }
    classOf blankSettings (two 3499 10000) = (1, 0, false) ∧ classOf blankSettings (two 3500 10000) = (2, 1, true) ∧
    classOf blankSettings (two 3500 0) = (255, 0, true) := by decide +kernel

/-- The classification has no hypothesis but the outcome of its own tests, of which `test_classes` shows each. -/
theorem witness_DecisionRules :
    (∃ r : VRecord, r.quality = some .u ∧ r.reasons.truncated = true) ∧
    (∃ r : VRecord, r.quality = some .u ∧ r.reasons.truncated = false ∧ r.axles.length = 1) ∧
    (∃ r : VRecord, r.quality = some .a) ∧ (∃ r : VRecord, r.quality = some .b) :=
  ⟨⟨{ record1 .pending none .none with quality := some .u, reasons := { Reasons.empty with truncated := true } }, rfl, rfl⟩,
   ⟨{ record1 .pending none .none with quality := some .u }, rfl, rfl, rfl⟩,
   ⟨record1 .pending none .none, rfl⟩, ⟨{ record1 .pending none .none with quality := some .b }, rfl⟩⟩

/-- A record of class 255 of 9,000 kg is a provisional PASS_HEAVY, which a queue of 15 takes and one of 16 refuses; one of quality U with one
axle is not offered. A record with TRACK_TTL passed and one with the latch, in a pool of one and an empty ring: a DIVERT with the
D loop in service and out of it, and a PASS_HEAVY. -/
theorem witness_DecisionIsWritten :
    (∀ n ∈ [15, 16],
      let r := record1 .assembling none .none
      let s := { withRecord r (atTime 29999999) with dkc := { State.reset.dkc with queue := List.replicate n 7 } }
      findRec s 1 = some r ∧ r.outlived = false ∧ (s.tbu.time - r.weighTime).toNat < s.sst.live.track.trackTtl * 100000 ∧
      (decideOf (s.settingsOf r.gen) (classOf (s.settingsOf r.gen) r).2.1 (classOf (s.settingsOf r.gen) r).2.2 r).1 = .passHeavy ∧
      s.dkc.queue.length = n) ∧
    (∃ (r : VRecord) (s : State), findRec s 1 = some r ∧ r.outlived = false ∧
      (s.tbu.time - r.weighTime).toNat < s.sst.live.track.trackTtl * 100000 ∧
      (decideOf (s.settingsOf r.gen) (classOf (s.settingsOf r.gen) r).2.1 (classOf (s.settingsOf r.gen) r).2.2 r).1 ≠
        .passHeavy) ∧
    (∀ latched : Bool, ∀ q ∈ [Quality.a, .u], ∀ lost : Bool,
      let r := { record1 .assembling none .none with
        quality := some q, reasons := { Reasons.empty with truncated := true }, outlived := latched }
      let s0 := withRecord r (atTime (if latched then 0 else 30000000))
      let s := { s0 with liu := { s0.liu with
        loops := put s0.liu.loops dLoop ⟨0, false, if lost then .faulted else .none, none, []⟩ } }
      findRec s 1 = some r ∧ r.admission = .none ∧ s.rtb.pool.length + s.rtb.history.length ≤ 64 ∧ inService s dLoop = !lost ∧
      (r.outlived = true ∨ s.sst.live.track.trackTtl * 100000 ≤ (s.tbu.time - r.weighTime).toNat) ∧
      (decideOf (s.settingsOf r.gen) (classOf (s.settingsOf r.gen) r).2.1 (classOf (s.settingsOf r.gen) r).2.2 r).1 =
        if q = .u then .divert else .passHeavy) :=
  ⟨by decide +kernel,
   ⟨{ record1 .assembling none .none with quality := some .u },
     withRecord { record1 .assembling none .none with quality := some .u } (atTime 0),
     by decide +kernel, by decide +kernel, by decide +kernel, by decide +kernel⟩, by decide +kernel⟩

/-- R8 and R118: a record weighed at time 0 is marked once 3,600 s, the greatest TRACK_TTL, have passed, not one tick before. -/
theorem test_record_outlives :
    let r := record1 .assembling none .none
    (latchRecord 360000000 r).outlived = true ∧ (latchRecord 359999999 r).outlived = false := by decide +kernel

/-- A ring of 64 summaries, of ids 10, 20 to 640. -/
def fullRing : List Summary :=
  (List.range 64).map fun n => { summaryOf (record1 .decided none .none) .cleared 0 with id := 10 * n + 10 }

/-- R117: id 25 enters the full ring in its place and id 10 leaves; id 5 leaves itself. -/
theorem test_full_ring :
    let x : Nat → Summary := fun n => { summaryOf (record1 .decided none .none) .lost 0 with id := n }
    (insertHistory (x 25) fullRing).length = 64 ∧ ((insertHistory (x 25) fullRing).map (·.id)).take 3 = [20, 25, 30] ∧
    (insertHistory (x 5) fullRing).map (·.id) = fullRing.map (·.id) := by decide +kernel

/-- A record with lane 0's TABLE_FULL in FAULT, and 4 or 3 slots FREE after its close; a ring of none and the full ring, with a new id below all
of it and above its lowest. -/
theorem witness_RecordCloses :
    (∀ n ∈ [44, 45],
      let s := { State.reset with
        rtb := { State.reset.rtb with pool := record1 .decided none .none :: List.replicate n (freshRecord 2 0 0 0 5000) }
        cmn := { State.reset.cmn with conds := put State.reset.cmn.conds (tableFullIx 0) ⟨.fault, 1, none, none, false, none, false⟩ } }
      findRec s 1 = some (record1 .decided none .none) ∧ 0 < s.sst.live.site.laneCount ∧ s.cmn.conds[tableFullIx 0].st = .fault ∧
      (4 ≤ 48 - (s.rtb.pool.filter fun y => y.id != 1).length ↔ n = 44)) ∧
    (∀ n ∈ [5, 25], (∀ y ∈ fullRing, y.id ≠ n) ∧ ((∀ y ∈ fullRing, n < y.id) ↔ n = 5) ∧
      ∀ low ∈ fullRing.head?, low.id < n ↔ n = 25) ∧
    fullRing.length = 64 ∧ fullRing.Pairwise (fun a b => a.id < b.id) ∧ ([] : List Summary).length < 64 :=
  ⟨by decide +kernel, by decide +kernel, by decide +kernel, by decide +kernel, by decide⟩

theorem witness_RecordExpires :
    ∀ d ∈ [Decision.divert, .passLight], ∀ adm ∈ [Admission.none, .queued, .granted],
      let r := record1 .decided (some d) adm
      let s := { withRecord r (atTime 10) with dkc := { State.reset.dkc with grants := [⟨1, 0, 9000, 5⟩] } }
      s.dkc.grants.find? (·.id == 1) = some ⟨1, 0, 9000, 5⟩ ∧ findRec s 1 = some r ∧ r.st = .decided ∧ r.windows = some ⟨0, 10, 0, 10⟩ ∧ earlier s.tbu.time 10 = false := by
  decide +kernel

/-- The state with record 1 in lane 0's approach list. -/
def approachState (d : Decision) (adm : Admission) : State :=
  let s := withRecord (record1 .decided (some d) adm) State.reset
  { s with rtb := { s.rtb with approach := put s.rtb.approach 0 [1] } }

theorem witness_SlipArrivalTakesOldest :
    ∀ d ∈ [Decision.divert, .passHeavy], ∀ adm ∈ [Admission.none, .queued, .granted],
      let s := { approachState d adm with dkc := { State.reset.dkc with grants := [⟨1, 0, 9000, 5⟩] } }
      1 ∈ s.rtb.approach[(0 : Lane)] ∧ s.dkc.grants.find? (·.id == 1) = some ⟨1, 0, 9000, 5⟩ ∧
      findRec s 1 = some (record1 .decided (some d) adm) ∧ slipTaken s 10 = some (record1 .decided (some d) adm) ∧
      ((10 : Time) - 0).toNat ≤ ((10 : Time) - 0).toNat := by decide +kernel

/-- A list of none, 31 and 32 entries; an arrival that matches nothing, and one that matches a record of each decision, in a deck that is OPEN,
OVERLOADED, RESYNC, BLIND, CLOSED or ISOLATED. A record in the approach list of the arrival's lane, of an adjacent lane and of neither. An empty
list with an arrival DECK_OVERSTAY before and one tick less; and an isolated deck with a noncompliant entry. -/
theorem witness_ThresholdArrivalEnters :
    (∀ st ∈ [DeckSt.openDeck, .overloaded, .resync, .blind, .closed, .isolated], ∀ n ∈ [0, 31, 32],
      let s := deckState 0 st (List.replicate n light0)
      s.dkc.lists[(0 : Lane)].length = n ∧ s.dkc.st = st ∧ thresholdTaken s 0 10 = none ∧
      (∀ d ∈ [Decision.divert, .passHeavy, .passLight], ∀ adm ∈ [Admission.none, .queued, .granted],
        let a := { approachState d adm with dkc := { s.dkc with grants := [⟨1, 0, 9000, 5⟩] } }
        a.dkc.lists[(0 : Lane)].length = n ∧ thresholdTaken a 0 10 = some (record1 .decided (some d) adm) ∧
        a.dkc.grants.find? (·.id == 1) = some ⟨1, 0, 9000, 5⟩ ∧ a.rtb.pool.length + a.rtb.history.length ≤ 64)) ∧
    (let s := approachState .passHeavy .none
     1 ∈ s.rtb.approach[(0 : Lane)] ∧ findRec s 1 = some (record1 .decided (some .passHeavy) .none) ∧
     ((10 : Time) - 0).toNat ≤ ((10 : Time) - 0).toNat ∧ s.rtb.approach[(1 : Lane)] = [] ∧ s.rtb.approach[(2 : Lane)] = [] ∧
     1 < s.sst.live.site.laneCount) ∧
    (∀ t ∈ [59999999, 60000000],
      let s := deckState t .openDeck []
      s.dkc.lists[(0 : Lane)] = [] ∧ s.dkc.overstayGiven[(0 : Lane)] = false ∧
      (s.sst.live.deck.overstay * 100000 ≤ (s.tbu.time - (0 : Time)).toNat ↔ t = 60000000)) ∧
    (∃ x ∈ (deckState 0 .isolated [{ heavy0 with noncompliant := true }]).dkc.lists[(0 : Lane)], x.noncompliant = true) := by
  decide +kernel

/-- R46 and R140: an entry of an arrival 600 s before stands in an empty list as a head that old and gives its cause; behind an entry it gives none. -/
theorem test_old_entry_gives_overstay :
    let cause : List DeckEntry → Nat := fun es =>
      (enterDeck 0 (lightEntry 0) (deckState 60000000 .openDeck es)).cmn.conds[overstayIx 0].count
    cause [] = 1 ∧ cause [{ light0 with entryTime := 60000000 }] = 0 := by decide +kernel

theorem witness_GhostVerdict :
    (∃ s : State, s.rtk.ghost[(0 : Lane)] = false) ∧
    (∀ st ∈ [DeckSt.openDeck, .isolated],
      let s := { deckState 0 st [light0, ghostEntry 0, light0] with rtk := { ghost := put State.reset.rtk.ghost 0 true } }
      s.dkc.st = st ∧ s.rtk.ghost[(0 : Lane)] = true ∧
      s.dkc.lists[(0 : Lane)] = [light0] ++ ghostEntry 0 :: [light0] ∧ s.sst.live.track.ghostLong * 100 = 150000) ∧
    (∃ s : State, s.rtk.ghost[(0 : Lane)] = true ∧ s.dkc.lists[(0 : Lane)] = [light0]) :=
  ⟨⟨State.reset, by decide +kernel⟩, by decide +kernel,
   ⟨{ deckState 0 .openDeck [light0] with rtk := { ghost := put State.reset.rtk.ghost 0 true } }, by decide +kernel, by decide +kernel⟩⟩

/-! Deck. -/

/-- The head of a deck that is OPEN; of one that is ISOLATED, with a noncompliant entry left, and with none left at a REST_TIME of 60 s and of
0, each head the entry of a record of the pool; and an empty list in RESYNC, and in each state with both loops in service, the third exit within
60,000,000 ticks, with a record on another lane's list and a granted one. -/
theorem witness_ExitRemovesHead :
    (∃ (r : VRecord) (s : State), s.dkc.lists[(0 : Lane)] = [heavy0] ∧ s.dkc.st ≠ .isolated ∧ heavy0.recId = some 1 ∧
      findRec s 1 = some r) ∧
    (∃ s : State, s.dkc.lists[(0 : Lane)] = [light0] ∧ s.dkc.st ≠ .isolated ∧ light0.recId = none) ∧
    (∀ left ∈ [light0, { heavy0 with noncompliant := true }], ∀ rest ∈ [0, 60],
      let s := withRecord (record1 .onDeck none .used)
        (withLive (fun st => { st with deck := { st.deck with restTime := rest } }) (deckState 0 .isolated [heavy0, left]))
      s.dkc.lists[(0 : Lane)] = [heavy0, left] ∧ s.dkc.st = .isolated ∧ s.sst.live.deck.restTime = rest ∧
      findRec s 1 ≠ none ∧ s.rtb.pool.length + s.rtb.history.length ≤ 64) ∧
    (∃ s : State, s.dkc.lists[(0 : Lane)] = [] ∧ s.dkc.st = .resync) ∧
    (∀ st ∈ [DeckSt.openDeck, .overloaded, .isolated, .resting, .blind, .closed],
      let s0 := deckState 59999999 st []
      let s := { s0 with
        dkc := { s0.dkc with lists := put s0.dkc.lists 1 [heavy0], grants := [⟨2, 0, 9000, 5⟩] }
        rtb := { s0.rtb with
          pool := [record1 .onDeck none .used, { record1 .decided (some .passHeavy) .granted with id := 2 }] }
        cmn := { s0.cmn with desyncTimes := [⟨0, false⟩, ⟨0, false⟩] } }
      s.dkc.lists[(0 : Lane)] = [] ∧ s.dkc.st = st ∧ inService s (eLoop 0) = true ∧ inService s (xLoop 0) = true ∧
      s.cmn.desyncTimes.length = 2 ∧ (s.tbu.time - (0 : Time)).toNat < 60000000 ∧ s.cmn.conds[desyncIx].st ≠ .fault ∧
      (causedEntry true s.tbu.time s.cmn.conds[desyncIx]).st = .fault ∧ s.dkc.lists[(1 : Lane)] = [heavy0] ∧
      heavy0.recId = some 1 ∧ s.dkc.grants = [⟨2, 0, 9000, 5⟩]) :=
  ⟨⟨record1 .onDeck none .used, withRecord (record1 .onDeck none .used) (deckState 0 .openDeck [heavy0]), by decide +kernel, by decide +kernel,
     by decide +kernel, by decide +kernel⟩,
   ⟨deckState 0 .openDeck [light0], by decide +kernel, by decide +kernel, by decide +kernel⟩, by decide +kernel,
   ⟨deckState 0 .resync [], by decide +kernel, by decide +kernel⟩, by decide +kernel⟩

/-- The deck of `deckState` with lane 0's E loop out of service or not, and the blind condition held or not. -/
def blindState (st : DeckSt) (lost held : Bool) : State :=
  let s := deckState 0 st [heavy0]
  { s with
    liu := { s.liu with loops := put s.liu.loops (eLoop 0) ⟨0, false, if lost then .faulted else .none, none, []⟩ }
    dkc := { s.dkc with blind := held } }

/-- The blind condition beginning, standing at a further loss, and ending, in every deck state; the list holds an entry of record 1. -/
theorem witness_BlindAndFlush :
    ∀ st ∈ [DeckSt.openDeck, .overloaded, .resync, .isolated, .resting, .blind, .closed], ∀ lost held : Bool,
      let s := withRecord (record1 .onDeck none .used) (blindState st lost held)
      blindNow s = lost ∧ s.dkc.blind = held ∧ s.dkc.st = st ∧ inService s (eLoop 0) = !lost ∧
      s.dkc.lists[(0 : Lane)] = [heavy0] ∧ heavy0.recId = some 1 ∧ findRec s 1 ≠ none ∧
      s.rtb.pool.length + s.rtb.history.length ≤ 64 := by decide +kernel

/-- Table 4-3: while lane 0's E loop holds the blind condition, the loss of lane 1's X loop leaves an ISOLATED deck as it is where lane 1 is
CLOSED, and flushes lane 0's list where it is not (R142). -/
theorem test_loop_of_a_closed_lane_lost : ∀ closed : Bool,
    let s0 := blindState .isolated true true
    let s := { s0 with cmn := { s0.cmn with closedMark := put s0.cmn.closedMark 1 closed } }
    let t := serviceLost (xLoop 1) s
    t.dkc.lists[(0 : Lane)] = (if closed then [heavy0] else []) ∧ (closed = true → t.dkc = s.dkc) := by decide +kernel

/-- Record 1 of 9,000 kg alone in the queue, with a last grant at time 0 and an on-deck load. -/
def queueState (t : Nat) (st : DeckSt) (onDeck : Nat) : State :=
  { withRecord (record1 .decided (some .passHeavy) .queued) (atTime t) with
    dkc := { State.reset.dkc with st := st, queue := [1], onDeck := onDeck, lastGrant := some ⟨0, false, false⟩ } }

/-- With HEADWAY 8 s, BLIND_CLEAR 60 s and DECK_BUDGET 40,000 kg the tests are met, in OPEN and in BLIND, and by one tick or one kg not
met; a record may wait behind the head, and the queue may be empty. -/
theorem witness_GrantToHead :
    (∀ s ∈ [queueState 800000 .openDeck 31000, queueState 6000000 .blind 31000, queueState 799999 .openDeck 31000,
        queueState 800000 .openDeck 31001, queueState 5999999 .blind 31000],
      s.dkc.queue = [1] ∧ findRec s 1 = some (record1 .decided (some .passHeavy) .queued)) ∧
    mayGrant 9000 (queueState 800000 .openDeck 31000) = true ∧ mayGrant 9000 (queueState 6000000 .blind 31000) = true ∧
    mayGrant 9000 (queueState 799999 .openDeck 31000) = false ∧ mayGrant 9000 (queueState 800000 .openDeck 31001) = false ∧
    mayGrant 9000 (queueState 5999999 .blind 31000) = false ∧
    (let s := queueState 800000 .openDeck 31000
     { s with dkc := { s.dkc with queue := [1, 2] } }.dkc.queue = 1 :: [2]) ∧
    State.reset.dkc.queue = [] := by decide +kernel

/-- Each timer at its end, in every deck state, with one record waiting and a load at the budget and 1 kg above it. -/
theorem witness_ArbiterTimers :
    ∀ st ∈ [DeckSt.openDeck, .overloaded, .resync, .isolated, .resting, .blind, .closed], ∀ load ∈ [40000, 40001],
      let s := { queueState 6000000 st load with
        dkc := { (queueState 6000000 st load).dkc with grantTimes := [0], grants := [⟨1, 0, 9000, 6000000⟩] } }
      s.dkc.st = st ∧ s.dkc.queue = [1] ∧ s.dkc.lastGrant = some ⟨0, false, false⟩ ∧
      s.sst.live.deck.headway * 100000 ≤ (s.tbu.time - (0 : Time)).toNat ∧
      s.sst.live.deck.blindClear * 100000 ≤ (s.tbu.time - (0 : Time)).toNat ∧ s.dkc.grantTimes = [0] ∧
      s.sst.live.deck.winLen * 100000 ≤ (s.tbu.time - (0 : Time)).toNat ∧
      s.dkc.grants.find? (·.id == 1) = some ⟨1, 0, 9000, 6000000⟩ ∧ earlier s.tbu.time 6000000 = false ∧
      (s.sst.live.deck.budget < s.dkc.onDeck ↔ load = 40001) := by decide +kernel

/-- A deck whose timer is reached. -/
def timerState (st : DeckSt) (f : DkcState → DkcState) : State :=
  { atTime 5 with dkc := f { State.reset.dkc with st := st, timer := some 5 } }

theorem witness_ResyncAndRestEnd :
    ∀ st ∈ [DeckSt.resync, .resting],
      ∀ s ∈ [timerState st id, timerState st fun d => { d with blind := true }, timerState st fun d => { d with resyncOwed := true },
        timerState st fun d => { d with onDeck := 40001 },
        timerState st fun d => { d with lists := put d.lists 0 [{ heavy0 with noncompliant := true }] }],
      s.dkc.st = st ∧ s.dkc.timer = some 5 ∧ earlier s.tbu.time 5 = false := by decide +kernel

/-! The link. -/

theorem witness_FrameRoundTrip : ∃ junk payload : List Byte, (∀ b ∈ junk, b ≠ 0x7E#8) ∧ payload.length = 250 :=
  ⟨[0, 0x7F], List.replicate 250 0x7E, by decide +kernel, List.length_replicate⟩

/-- The bytes of an IDENT request, and the same with a wrong CRC. -/
def identFrame : List Byte := frameBytes 0x51 7 []
def wrongFrame : List Byte := identFrame.dropLast ++ [(identFrame.getLastD 0) ^^^ 1]

/-- R173: a frame in the bytes of a candidate whose CRC fails, and one after a failed candidate, are taken; a wrong CRC alone gives none. -/
theorem test_failed_check :
    takeFrames true (0x7E :: 8 :: identFrame ++ [0, 0, 0, 0]) = ([⟨0x51, 7, []⟩], []) ∧
    takeFrames true (wrongFrame ++ identFrame) = ([⟨0x51, 7, []⟩], []) ∧ takeFrames true wrongFrame = ([], []) := by decide +kernel

/-- A silent link and a full queue; bad lengths; one frame behind a failed candidate; a candidate that fails its check, one cut off, both new
and behind a kept one, within the gap and after it. -/
theorem witness_FrameReceivedQueues :
    (∃ s : State, s.lki.rx = [] ∧ s.lki.requests.length < 4 ∧ s.lki.silentGiven = true) ∧
    (∃ s : State, s.lki.rx = [] ∧ s.lki.requests.length = 4) ∧ (0xFD#8).toNat = 253 ∧ (1#8).toNat < 2 ∧
    (takeFrames true (wrongFrame ++ identFrame) = ([⟨0x51, 7, []⟩], []) ∧ State.reset.lki.rx = []) ∧
    (let more := wrongFrame.drop 2
     wrongFrame = 0x7E :: 2 :: more ∧ (2#8).toNat = 2 ∧ more.length = 4 ∧ (∀ b ∈ (2#8) :: more, b ≠ 0x7E#8) ∧
     (crc16 (2#8 :: more.take 2)).toNat ≠ 256 * (more.getD 2 0).toNat + (more.getD 3 0).toNat ∧ (more.take 3).length < 4 ∧
     ∀ t ∈ [2000, 2001], let s := { atTime t with lki := { State.reset.lki with rx := [0x7E, 2] } }
       s.lki.rx ≠ [] ∧ (2000 < (s.tbu.time - s.lki.rxLast).toNat ↔ t = 2001) ∧ (takeFrames false s.lki.rx).1 = [] ∧
       (takeFrames true ((if t = 2001 then [] else s.lki.rx) ++ wrongFrame)).1 = []) :=
  ⟨⟨{ State.reset with lki := { State.reset.lki with silentGiven := true } }, by decide +kernel, by decide +kernel, by decide +kernel⟩,
   ⟨{ State.reset with lki := { State.reset.lki with requests := List.replicate 4 ⟨1, 0, []⟩ } }, by decide +kernel, by decide +kernel⟩,
   by decide +kernel, by decide +kernel, by decide +kernel, by decide +kernel⟩

theorem witness_LinkTimeouts :
    (∃ s : State, s.lki.silentGiven = false ∧ s.sst.live.link.linkSilent * 100000 ≤ (s.tbu.time - s.lki.lastValid).toNat) ∧
    (∃ s : State, s.lki.rx ≠ [] ∧ 2000 < (s.tbu.time - s.lki.rxLast).toNat ∧ (takeFrames false s.lki.rx).1 = []) :=
  ⟨⟨atTime 6000000, by decide +kernel, by decide +kernel⟩,
   ⟨{ atTime 2001 with lki := { State.reset.lki with rx := [0x7E, 2] } }, by decide +kernel, by decide +kernel, by decide +kernel⟩⟩

/-- A transmitter at the end of a frame. -/
def txState (f : TxFrame) (ready : List Answer) (reports : List Report) (busy : Bool) : State :=
  { State.reset with
    lki := { State.reset.lki with tx := some f, ready := ready, reports := reports }
    sst := { State.reset.sst with storeBusy := busy } }

theorem witness_TransmitterChooses :
    (∀ f ∈ [TxFrame.answer ⟨0xD0, 0, .ok, .empty⟩, .report (.start false true 0 0)], ∀ busy : Bool,
      ∀ ready ∈ [[], [(⟨0x81, 0, .ok, .empty⟩ : Answer)]], ∀ reports ∈ [[], [Report.start false true 0 0]],
      let s := txState f ready reports busy
      s.lki.tx = some f ∧ s.lki.ready = ready ∧ s.lki.reports = reports ∧ s.sst.storeBusy = busy ∧ s.lki.warmDue = false) ∧
    (∃ s : State, 32 ≤ s.lki.reports.length ∧ s.lki.tx.isSome = true) ∧ (∃ s : State, s.lki.reports.length < 32) :=
  ⟨by decide +kernel,
   ⟨txState (.report (.start false true 0 0)) [] (List.replicate 32 (.start false true 0 0)) false, by decide +kernel, by decide +kernel⟩,
   ⟨State.reset, by decide +kernel⟩⟩

/-! Requests: any request asks in some state, whatever the rest of that state and the key. -/

/-- The state with request r alone waiting and the key at the level given. -/
def asking (r : Request) (key : Bool) (s : State) : State :=
  { s with
    lki := { State.reset.lki with requests := [r] }
    liu := { s.liu with deb := put s.liu.deb mkInput ⟨key, none, 0⟩ } }

/-- The common hypotheses of the request obligations, met by any request of any code, length and contents, with the key at either level, in
a state whose other parts are free. -/
theorem witness_requests (r : Request) (key : Bool) (s : State) :
    Asks r.type.toNat r (asking r key s) ∧ (asking r key s).liu.deb[mkInput].level = key ∧
      (asking r key s).sst = s.sst ∧ (asking r key s).cmn = s.cmn ∧ (asking r key s).dkc = s.dkc ∧ (asking r key s).rtb = s.rtb ∧
      (asking r key s).dcu = s.dcu ∧ (asking r key s).csq = s.csq ∧ (asking r key s).zsc = s.zsc ∧ (asking r key s).trs = s.trs :=
  ⟨⟨⟨by show 1 ≤ 4; omega, by show 2 ≤ 32; omega, by show 0 ≤ 4; omega, fun _ => rfl⟩, rfl, rfl⟩,
   by show (put s.liu.deb mkInput ⟨key, none, 0⟩)[mkInput].level = key; rw [put_getElem_self],
   rfl, rfl, rfl, rfl, rfl, rfl, rfl, rfl⟩

/-- A request of a code with a payload. -/
def req (code : Byte) (payload : List Byte) : Request := ⟨code, 0, payload⟩

/-- A length that Table 12-10 does not give, the key at OPERATE for a request that needs it, and a TYPE that names no request. -/
theorem witness_RequestsAreJudged :
    Asks 0x01 (req 0x01 [0]) (asking (req 0x01 [0]) true State.reset) ∧
    Asks 0x35 (req 0x35 (List.replicate 8 0)) (asking (req 0x35 (List.replicate 8 0)) true State.reset) ∧
    Asks 0x04 (req 0x04 [64]) (asking (req 0x04 [64]) false State.reset) ∧
    (asking (req 0x04 [64]) false State.reset).liu.deb[mkInput].level = false ∧
    Asks 0x52 (req 0x52 []) (asking (req 0x52 []) true State.reset) :=
  ⟨(witness_requests (req 0x01 [0]) true _).1, (witness_requests (req 0x35 (List.replicate 8 0)) true _).1,
   (witness_requests (req 0x04 [64]) false _).1, (witness_requests (req 0x04 [64]) false State.reset).2.1,
   (witness_requests (req 0x52 []) true _).1⟩

theorem witness_StatusIdentRestart :
    ∀ code ∈ [(0x01 : Byte), 0x51, 0x50],
      Asks code.toNat (req code []) (asking (req code []) true State.reset) ∧
      (asking (req code []) true State.reset).liu.deb[mkInput].level = true :=
  fun code _ => ⟨(witness_requests (req code []) true State.reset).1, (witness_requests (req code []) true State.reset).2.1⟩

/-- Start index 64 and 65, selection 1 and 2, flag 1 and 2; a latching entry in FAULT and one that is not; kind 16 and 17, value 3 and 4. -/
theorem witness_ConditionRequests :
    (∀ p ∈ [[(64 : Byte), 1], [65, 0], [0, 2]], p.length = 2 ∧
      Asks (0x02 : Byte).toNat (req 0x02 p) (asking (req 0x02 p) false State.reset)) ∧
    (∀ p ∈ [[(1 : Byte)], [2]], p.length = 1 ∧ Asks (0x03 : Byte).toNat (req 0x03 p) (asking (req 0x03 p) false State.reset)) ∧
    (∀ p ∈ [[(63 : Byte)], [64], [65]], p.length = 1 ∧
      Asks (0x04 : Byte).toNat (req 0x04 p) (asking (req 0x04 p) true State.reset)) ∧
    State.reset.cmn.conds[(63 : CondIx)].st = .fault ∧ (kindOf 63).1.latching = true ∧ (kindOf 64).1.latching = false ∧
    (∀ p ∈ [[], [(16 : Byte), 3], [17, 0], [0, 4]], (p.length = 0 ∨ p.length = 2) ∧
      Asks (0x05 : Byte).toNat (req 0x05 p) (asking (req 0x05 p) false State.reset)) :=
  ⟨fun p hp => ⟨by revert p; decide, (witness_requests (req 0x02 p) false _).1⟩,
   fun p hp => ⟨by revert p; decide, (witness_requests (req 0x03 p) false _).1⟩,
   fun p hp => ⟨by revert p; decide, (witness_requests (req 0x04 p) true _).1⟩, by decide +kernel, by decide +kernel, by decide +kernel,
   fun p hp => ⟨by revert p; decide, (witness_requests (req 0x05 p) false _).1⟩⟩

/-- An id held and one not held; counts 0, 1, 40 and 41, and 0, 1, 5 and 6. -/
theorem witness_RecordAndHistory :
    (∀ p ∈ [[(0 : Byte), 0, 0, 1], [0, 0, 0, 2]], p.length = 4 ∧
      Asks (0x10 : Byte).toNat (req 0x10 p) (asking (req 0x10 p) false (withRecord (record1 .decided none .none) State.reset)) ∧
      Asks (0x11 : Byte).toNat (req 0x11 p) (asking (req 0x11 p) false State.reset)) ∧
    (∀ n ∈ [(0 : Byte), 1, 40, 41],
      Asks (0x10 : Byte).toNat (req 0x10 [n, 0, 0, 0, 9]) (asking (req 0x10 [n, 0, 0, 0, 9]) false State.reset)) ∧
    (∀ n ∈ [(0 : Byte), 1, 5, 6], Asks (0x11 : Byte).toNat (req 0x11 [n]) (asking (req 0x11 [n]) false State.reset)) ∧
    findRec (withRecord (record1 .decided none .none) State.reset) 1 = some (record1 .decided none .none) ∧
    findRec (withRecord (record1 .decided none .none) State.reset) 2 = none :=
  ⟨fun p hp => ⟨by revert p; decide, (witness_requests (req 0x10 p) false _).1, (witness_requests (req 0x11 p) false _).1⟩,
   fun n _ => (witness_requests (req 0x10 [n, 0, 0, 0, 9]) false _).1, fun n _ => (witness_requests (req 0x11 [n]) false _).1,
   by decide +kernel, by decide +kernel⟩

/-- Lane 2 and 3, part 0, 1 and 2. -/
theorem witness_DeckAndSnapshotViews :
    (∀ code ∈ [(0x12 : Byte), 0x13], ∀ p ∈ [[(0 : Byte), 0], [1, 0], [2, 255], [3, 0]], p.length = 2 ∧
      Asks code.toNat (req code p) (asking (req code p) false State.reset)) ∧
    (∀ id ∈ State.reset.dkc.queue, ∃ v, findRec State.reset id = some v) ∧
    (∀ code ∈ [(0x14 : Byte), 0x15, 0x43], Asks code.toNat (req code []) (asking (req code []) false State.reset)) :=
  ⟨fun code _ p hp => ⟨by revert p; decide, (witness_requests (req code p) false _).1⟩, (fun _ h => nomatch h),
   fun code _ => (witness_requests (req code []) false _).1⟩

/-- A stored record of index 1 with two values. -/
def traced1 : TraceRecord := ⟨1, 0, 0, 0, false, false, [900, 950]⟩

/-- Index 0, 1 and 2; offset 1 and 2; count 0, 1, 64 and 65. -/
theorem witness_TraceRead :
    (∀ index ∈ [(0 : Byte), 1, 2], ∀ offset ∈ [(1 : Byte), 2], ∀ count ∈ [(0 : Byte), 1, 64, 65],
      let r := req 0x42 [0, 0, 0, index, 0, offset, count]
      r.payload.length = 7 ∧ Asks (0x42 : Byte).toNat r
        (asking r false { State.reset with trs := { State.reset.trs with ring := [traced1] } })) ∧
    ([traced1].find? (·.index == 1)) = some traced1 ∧ ([traced1].find? (·.index == 2)) = none :=
  ⟨fun index _ offset _ count _ => ⟨rfl, (witness_requests (req 0x42 [0, 0, 0, index, 0, offset, count]) false _).1⟩,
   by decide +kernel, by decide +kernel⟩

/-- Closed and covered lane 0; a lane that is open, not covered, absent, or none. -/
theorem witness_LaneOpens :
    (∀ p ∈ [[(0 : Byte)], [2], [3]], ∀ s : State,
      Asks (0x20 : Byte).toNat (req 0x20 p) (asking (req 0x20 p) true s) ∧
      (asking (req 0x20 p) true s).liu.deb[mkInput].level = true) ∧
    (∃ s : State, s.sst.live.site.laneCount = 3 ∧ s.sst.storeBusy = false ∧ s.cmn.closedMark[(0 : Lane)] = true ∧
      coversLane s.sst.live.conv.scanList 0 = true) ∧
    State.reset.cmn.closedMark[(0 : Lane)] = false ∧ coversLane State.reset.sst.live.conv.scanList 0 = false :=
  ⟨fun p _ s => ⟨(witness_requests (req 0x20 p) true s).1, (witness_requests (req 0x20 p) true s).2.1⟩,
   ⟨withLive (fun st => { st with conv := { st.conv with scanList := defaultScanList (some 7) } })
      { State.reset with cmn := { State.reset.cmn with closedMark := put State.reset.cmn.closedMark 0 true } },
     by decide +kernel, by decide +kernel, by decide +kernel, by decide +kernel⟩, by decide +kernel, by decide +kernel⟩

theorem witness_LaneCloses :
    (∀ p ∈ [[(0 : Byte)], [2], [3]], ∀ s : State, Asks (0x21 : Byte).toNat (req 0x21 p) (asking (req 0x21 p) false s)) ∧
    State.reset.cmn.closedMark[(2 : Lane)] = false ∧ State.reset.sst.live.site.laneCount = 3 ∧
    (let s := straddleState (straddler 1 0 0 .pending) (straddler 2 1 0 .assembling) true
     (∃ p ∈ s.las[(0 : Lane)].pendingList, p.id = 1 ∧ p.awaits = 2) ∧ findRec s 1 ≠ none ∧ findRec s 2 ≠ none ∧
     s.rtb.pool.length + s.rtb.history.length ≤ 64) :=
  ⟨fun p _ s => (witness_requests (req 0x21 p) false s).1, by decide +kernel, by decide +kernel, by decide +kernel⟩

theorem witness_DeckCloseAndRelease :
    (∀ st : DeckSt, Asks (0x22 : Byte).toNat (req 0x22 []) (asking (req 0x22 []) false (deckState 0 st [heavy0])) ∧
      (asking (req 0x22 []) false (deckState 0 st [heavy0])).dkc.st = st) ∧
    (∀ flag : Bool,
      let s := { deckState 0 .blind [heavy0] with cmn := { State.reset.cmn with safeFlag := flag } }
      Asks (0x23 : Byte).toNat (req 0x23 []) (asking (req 0x23 []) true s) ∧
      (asking (req 0x23 []) true s).cmn.safeFlag = flag ∧ (asking (req 0x23 []) true s).liu.deb[mkInput].level = true) :=
  ⟨fun _ => ⟨(witness_requests (req 0x22 []) false _).1, rfl⟩,
   fun _ => ⟨(witness_requests (req 0x23 []) true _).1, rfl, (witness_requests (req 0x23 []) true _).2.1⟩⟩

theorem witness_DeckClearsHead :
    (∀ p ∈ [[(0 : Byte)], [2], [3]], ∀ s : State, Asks (0x24 : Byte).toNat (req 0x24 p) (asking (req 0x24 p) true s)) ∧
    (∀ st ∈ [DeckSt.openDeck, .isolated],
      let s := withRecord (record1 .onDeck none .used) (deckState 0 st [heavy0])
      s.dkc.lists[(0 : Lane)] = [heavy0] ∧ s.dkc.st = st ∧ heavy0.recId = some 1 ∧ findRec s 1 ≠ none ∧
      s.rtb.pool.length + s.rtb.history.length ≤ 64) ∧
    (deckState 0 .openDeck [heavy0]).dkc.lists[(2 : Lane)] = [] :=
  ⟨fun p _ s => (witness_requests (req 0x24 p) true s).1, by decide +kernel, by decide +kernel⟩

/-- Lane 0, 2, 3 and 255, of any site; a force whose end time is reached. -/
theorem witness_SignForces :
    (∀ lane ∈ [(0 : Byte), 2, 3, 255], ∀ s : State,
      let r := req 0x25 [lane, 0x0E, 0x10]
      r.payload.length = 3 ∧ Asks (0x25 : Byte).toNat r (asking r false s) ∧ (asking r false s).sst = s.sst) ∧
    (∃ s : State, earlier s.tbu.time 5 = false ∧ s.dcu.force[(0 : Lane)] = some 5) :=
  ⟨fun lane _ s => ⟨rfl, (witness_requests (req 0x25 [lane, 0x0E, 0x10]) false s).1, rfl⟩,
   ⟨{ atTime 5 with dcu := { State.reset.dcu with force := put State.reset.dcu.force 0 (some 5) } }, by decide +kernel, by decide +kernel⟩⟩

/-- Channel 7 and 8, gain code 3 and 4, channel 5 and 6; a pending conversion, a measurement of the channel, a channel scanned or not. -/
theorem witness_ConvertOneAndZeroNow :
    (∀ c ∈ [(7 : Byte), 8], ∀ g ∈ [(3 : Byte), 4], ∀ key : Bool, ∀ s : State,
      Asks (0x40 : Byte).toNat (req 0x40 [c, g]) (asking (req 0x40 [c, g]) key s) ∧
      (asking (req 0x40 [c, g]) key s).liu.deb[mkInput].level = key ∧ (asking (req 0x40 [c, g]) key s).csq = s.csq) ∧
    (∀ c ∈ [(5 : Byte), 6], ∀ key : Bool, ∀ s : State,
      Asks (0x41 : Byte).toNat (req 0x41 [c]) (asking (req 0x41 [c]) key s) ∧
      (asking (req 0x41 [c]) key s).liu.deb[mkInput].level = key ∧ (asking (req 0x41 [c]) key s).zsc = s.zsc ∧
      (asking (req 0x41 [c]) key s).sst = s.sst) ∧
    scansChan (defaultScanList (some 7)) 5 = true ∧ scansChan (defaultScanList none) 5 = false :=
  ⟨fun c _ g _ key s => ⟨(witness_requests (req 0x40 [c, g]) key s).1, (witness_requests (req 0x40 [c, g]) key s).2.1, rfl⟩,
   fun c _ key s => ⟨(witness_requests (req 0x41 [c]) key s).1, (witness_requests (req 0x41 [c]) key s).2.1, rfl, rfl⟩,
   by decide +kernel, by decide +kernel⟩

/-! Settings and starts. -/

/-- A working copy in SETUP that passes every commit check: the defaults with END on entry 7 and every F_ch set. -/
def goodCopy : Settings :=
  { defaultsWith (defaultScanList (some 7)) with
    weigh := { blankSettings.weigh with fch := Vector.replicate 6 (some 65536) } }

/-- A state with a working copy, in a device mode, with a store write or none. -/
def setupState (w : Settings) (mode : DeviceMode) (busy : Bool) : State :=
  { State.reset with
    sst := { State.reset.sst with working := some w, storeBusy := busy }
    cmn := { State.reset.cmn with mode := mode } }

theorem witness_SetupRequests :
    (∀ code ∈ [(0x30 : Byte), 0x32, 0x31], ∀ mode : DeviceMode, ∀ busy : Bool,
      let s := asking (req code []) true (setupState goodCopy mode busy)
      Asks code.toNat (req code []) s ∧ s.liu.deb[mkInput].level = true ∧ s.sst.storeBusy = busy ∧ s.cmn.mode = mode ∧
      s.sst.working = some goodCopy ∧ s.sst.retained = none) ∧
    commitFailure State.reset goodCopy = none ∧ commitFailure State.reset blankSettings = some (21, 255) :=
  ⟨fun code _ mode busy => ⟨(witness_requests (req code []) true _).1, (witness_requests (req code []) true _).2.1, rfl, rfl, rfl, rfl⟩,
   by decide +kernel, by decide +kernel⟩

/-- The statement has no hypothesis but the checks' own outcome: a copy that passes, and one that fails each of the first and last checks. -/
theorem witness_CommitChecks :
    commitFailure State.reset goodCopy = none ∧
    commitFailure State.reset { goodCopy with site := { goodCopy.site with laneCount := 0 } } = some (1, 255) ∧
    commitFailure State.reset { goodCopy with dec := { goodCopy.dec with heavyThreshold := 200000 } } = some (123, 255) := by decide +kernel

/-- SCAN_DIV at 16 and 15; scan entry 15 and 16; limit row 7, its load at 1,000 and 999 kg; class entry 15, its bounds at 12 and 13; a
number of no table. -/
theorem witness_WorkingCopyWrites :
    (∀ r : Request, ∀ mode : DeviceMode, ∀ busy : Bool,
      let s := asking r true (setupState goodCopy mode busy)
      Asks r.type.toNat r s ∧ s.liu.deb[mkInput].level = true ∧ s.sst.working = some goodCopy ∧ s.cmn.mode = mode ∧
      s.sst.storeBusy = busy) ∧
    (Param.ofNumber 20 = some .scanDiv ∧ Param.scanDiv.accepts 16 = true ∧ Param.scanDiv.accepts 15 = false ∧
    tableWriteFits [0, 21, 15, 7, 3, 1, 1] = true ∧ tableWriteFits [0, 21, 16, 7, 3, 1, 1] = true ∧
    (∀ low ∈ [(0xE7 : Byte), 0xE8], let p := [0, 126, 7, 0, 0, 3, low, 0, 0, 0x27, 0x10, 0, 0, 0x46, 0x50, 0, 0, 0x5D, 0xC0]
      tableWriteFits p = true ∧ u16At p 0 = 126 ∧ byteAt p 2 = 7 ∧ (1000 ≤ s32At p 3 ↔ low = 0xE8) ∧ s32At p 3 ≤ 200000 ∧
      s32At p 7 = 10000 ∧ s32At p 11 = 18000 ∧ s32At p 15 = 24000) ∧
    (∀ most ∈ [(12 : Byte), 13], let p := [0, 125, 15, 1, 2, most] ++ List.replicate 16 3 ++ [7, 1]
      tableWriteFits p = true ∧ u16At p 0 = 125 ∧ byteAt p 2 = 15 ∧ byteAt p 3 ≤ 1 ∧ byteAt p 4 = 2 ∧
      (byteAt p 5 ≤ 12 ↔ most = 12) ∧ (∀ i : Fin 8, byteAt p (6 + i.val) ≤ 3 ∧ byteAt p (14 + i.val) ≤ 3) ∧ byteAt p 22 = 7 ∧
      byteAt p 23 ≤ 1) ∧
    tableWriteFits [0, 99, 0, 0, 0, 0, 0] = true) :=
  ⟨fun r mode busy => ⟨(witness_requests r true _).1, (witness_requests r true _).2.1, rfl, rfl, rfl⟩, by decide +kernel⟩

/-- A read of LIVE in NORMAL and SAFE with no working copy, and of either in SETUP with one; sources 0, 1 and 2; a known and an unknown number;
entries 7, 8, 15 and 16. -/
theorem witness_ParamsReadBack :
    Param.laneCount.accepts 3 = true ∧ Param.tempGain.accepts (-65535) = true ∧ Param.ofNumber 1 = some .laneCount ∧
    Param.ofNumber 21 = none ∧
    (∀ r : Request, ∀ mode : DeviceMode,
      let s := asking r false { State.reset with cmn := { State.reset.cmn with mode := mode } }
      Asks r.type.toNat r s ∧ s.sst.working = none ∧ s.cmn.mode = mode) ∧
    (∀ r : Request, let s := asking r false (setupState goodCopy .setup false)
      Asks r.type.toNat r s ∧ s.sst.working = some goodCopy ∧ s.cmn.mode = .setup) ∧
    (∀ source ∈ [(0 : Byte), 1, 2], (req 0x34 [0, 20, source]).payload.length = 3 ∧
      ∀ e ∈ [(7 : Byte), 8, 15, 16], (req 0x36 [0, 126, e, source]).payload.length = 4) :=
  ⟨by decide +kernel, by decide +kernel, by decide +kernel, by decide +kernel, fun r _ => ⟨(witness_requests r false _).1, rfl, rfl⟩,
   fun r => ⟨(witness_requests r false _).1, rfl, rfl⟩, by decide +kernel⟩

/-- A copy that takes lane 2 and the D loop out of use, turns P0's polarity, and shortens or lengthens DECK_OVERSTAY. -/
def otherCopy (overstay : Nat) : Settings :=
  { goodCopy with
    site := { goodCopy.site with laneCount := 2 }
    loop := { goodCopy.loop with loopUsed := put goodCopy.loop.loopUsed 9 false, loopPol := put goodCopy.loop.loopPol 0 .occLow }
    deck := { goodCopy.deck with overstay := overstay } }

/-- A held commit. A loop that goes out of use with its lane and one by LOOP_USE, one that is read again, one that stays; and, the two
copies exchanged, one that comes into use. Lane 2 made absent, open or closed before; a longer and a shorter DECK_OVERSTAY. -/
theorem witness_StoreWriteEnds :
    (∃ s : State, s.sst.storeBusy = true ∧ s.sst.working = some goodCopy ∧ s.lki.heldCommit = some 7) ∧
    (∀ overstay ∈ [300, 900], ∀ closed : Bool,
      let s0 := setupState (otherCopy overstay) .setup true
      let s := { s0 with cmn := { s0.cmn with closedMark := put s0.cmn.closedMark 2 closed } }
      s.sst.storeBusy = true ∧ s.sst.working = some (otherCopy overstay) ∧
      [(0 : Loop), 1, 8, 9].map (fun l => (loopInUse s.sst.live l, loopInUse (otherCopy overstay) l)) =
        [(true, true), (true, true), (true, false), (true, false)] ∧
      levelUnder (otherCopy overstay) 0 s.liu.pins[(0 : Input)] ≠ s.liu.deb[(0 : Input)].level ∧
      (otherCopy overstay).site.laneCount ≤ 2 ∧ 2 < s.sst.live.site.laneCount ∧ (laneModeOf s 2 = .closed ↔ closed = true) ∧
      (s.sst.live.deck.overstay < (otherCopy overstay).deck.overstay ↔ overstay = 900)) :=
  ⟨⟨{ setupState goodCopy .setup true with lki := { State.reset.lki with heldCommit := some 7 } }, rfl, rfl, rfl⟩, by decide +kernel⟩

theorem witness_ColdStart :
    (∀ good : Bool, ∃ s : State, s.sst.storeBusy = false ∧ s.sst.imageGood = good) ∧
    (∃ s : State, s.sst.storeBusy = true ∧ s.sst.working = some goodCopy) :=
  ⟨fun good => ⟨{ State.reset with sst := { State.reset.sst with imageGood := good } }, rfl, rfl⟩,
   ⟨setupState goodCopy .setup true, rfl, rfl⟩⟩

/-- The OK answer to a RESTART has been sent, with no store write and with one begun meanwhile. -/
theorem witness_WarmStartKeeps : ∀ busy : Bool, ∃ s : State, s.lki.warmDue = true ∧ s.lki.tx = none ∧ s.sst.storeBusy = busy ∧
    s.sst.working = some goodCopy ∧ s.cmn.conds[(63 : CondIx)].st = .fault ∧ (kindOf 63).1.latching = true := fun busy =>
  ⟨{ setupState goodCopy .setup busy with lki := { State.reset.lki with warmDue := true, tx := none } },
    rfl, rfl, rfl, rfl, rfl, rfl⟩

/-- R182: a store write that began after RESTART was taken does not hold the warm start back once its answer has been sent. -/
theorem test_restart_before_later_write :
    let s := setupState goodCopy .setup true
    let t := finishFrame { s with lki := { s.lki with heldCommit := some 7, tx := some (.answer ⟨restartAnswer, 0, .ok, .empty⟩) } }
    t.lki.tx.isNone = true ∧ warmStartDue t = true := by decide +kernel

end Sys2Proof.Tests
end

section
/-! SUPPORT. Proofs about classification and the diversion decision (chapter 7): the class of a record (R96 to R98) and the decision of a
weighed record (R99 to R101). -/

namespace Sys2Proof.Machine

/-! ### Classes (R96 to R98) -/

/-- The gap code at gap position j + 1 (R96). -/
def gapAt (st : Settings) (axles : List Axle) (j : Nat) : Nat := ((axles[j + 1]?.bind (·.spacing)).map (gapCode st)).getD 0

theorem gapCodes_eq (st : Settings) (axles : List Axle) : gapCodes st axles = (List.range 8).map (gapAt st axles) := rfl

theorem gapAccepted_iff (mask pattern code : Nat) : gapAccepted mask pattern code = true ↔
    mask = 0 ∨ (mask = 1 ∧ code % 2 = pattern % 2) ∨ (mask = 2 ∧ code / 2 = pattern / 2) ∨ (3 ≤ mask ∧ code = pattern) := by
  match mask with
  | 0 | 1 | 2 | _ + 3 => simp [gapAccepted]

/-- A condition on three rows of n values holds of all their places exactly where it holds of each. -/
theorem all_zip_iff {α β γ : Type} {n : Nat} (p : α → β → γ → Bool) (xs : Vector α n) (ys : Vector β n) (f : Nat → γ) :
    ((xs.toList.zip (ys.toList.zip ((List.range n).map f))).all fun (x, y, z) => p x y z) = true ↔
      ∀ j : Fin n, p xs[j] ys[j] (f j) = true := by
  rw [List.all_eq_true, List.forall_mem_iff_getElem]
  simp [Fin.forall_iff]

/-- When an entry matches a record: it is valid, the axle count is in its range, and every gap code is accepted (R97). -/
theorem classMatches_iff (st : Settings) (e : ClassEntry) (axles : List Axle) :
    classMatches e axles.length (gapCodes st axles) = true ↔
      e.valid = true ∧ e.axMin ≤ axles.length ∧ axles.length ≤ e.axMax ∧
        ∀ j : Fin 8, gapAccepted e.mask[j] e.pattern[j] (gapAt st axles j) = true := by
  rw [classMatches, gapCodes_eq, Bool.and_eq_true, all_zip_iff]
  simp [and_assoc]

/-- The first entry that matches gives the class (R98). -/
theorem classOf_of_first {st : Settings} {r : VRecord} (i : Fin 16) (hv : r.speed.getD 0 ≠ 0)
    (hi : classMatches st.dec.classTable[i] r.axles.length (gapCodes st r.axles) = true)
    (hfirst : ∀ k : Fin 16, k < i → ¬ classMatches st.dec.classTable[k] r.axles.length (gapCodes st r.axles) = true) :
    classOf st r = (i.val, st.dec.classTable[i].row, st.dec.classTable[i].heavy) := by
  have hfind : (st.dec.classTable.toList.findIdx? fun e => classMatches e r.axles.length (gapCodes st r.axles)) = some i.val := by
    rw [List.findIdx?_eq_some_iff_getElem]
    exact ⟨by simp, by simpa using hi, fun k hk => by simpa using hfirst ⟨k, hk.trans i.isLt⟩ hk⟩
  simp [classOf, hv, hfind]

/-- A record of speed 0, and one that no entry matches, is of class 255 (R98). -/
theorem classOf_of_none {st : Settings} {r : VRecord} (h : r.speed.getD 0 = 0 ∨
    ∀ i : Fin 16, ¬ classMatches st.dec.classTable[i] r.axles.length (gapCodes st r.axles) = true) :
    classOf st r = (255, 0, true) := by
  rcases h with hv | hnone
  · exact if_pos hv
  · have hfind : (st.dec.classTable.toList.findIdx? fun e => classMatches e r.axles.length (gapCodes st r.axles)) = none := by
      rw [List.findIdx?_eq_none_iff, List.forall_mem_iff_getElem]
      exact fun k hk => by simpa using hnone ⟨k, by simpa using hk⟩
    simp [classOf, hfind]

/-! ### Limits and the decision (R99 to R101) -/

theorem groupExceeds_iff (m : Nat) (axles : List Axle) (size limit : Nat) : groupExceeds m axles size limit = true ↔
    ∃ g ∈ groupNumbers axles, groupSize axles g = size ∧ limit < upperOf m (groupLoad axles g) := by
  simp [groupExceeds]

/-- Some limit of the row is exceeded (R99). -/
def limitExceeded (lim : Reasons) : Bool := lim.gross || lim.axle || lim.tandem || lim.tridem

/-- The reasons held with those of the limits exceeded: the others stand. -/
theorem union_limitReasons (st : Settings) (row : Fin 8) (r : VRecord) :
    let lim := limitReasons st row r
    r.reasons.union lim = { r.reasons with
      gross := r.reasons.gross || lim.gross, axle := r.reasons.axle || lim.axle
      tandem := r.reasons.tandem || lim.tandem, tridem := r.reasons.tridem || lim.tridem } := by
  simp [Reasons.union, limitReasons, Reasons.empty]

/-- The decision of a record of quality U (R101). -/
theorem decideOf_unweighed {st : Settings} {row : Fin 8} {heavy : Bool} {r : VRecord} (hq : r.quality = some .u) :
    decideOf st row heavy r =
      if r.reasons.truncated then (.divert, r.reasons)
      else (if st.dec.uDivertAxles ≤ r.axles.length then .divert else .passLight, { r.reasons with unweighed := true }) := by
  simp only [decideOf, hq]
  split
  · rfl
  · split <;> rfl

/-- The decision of a record of quality A or B (R100). -/
theorem decideOf_weighed {st : Settings} {row : Fin 8} {heavy : Bool} {r : VRecord}
    (hq : r.quality = some .a ∨ r.quality = some .b) :
    decideOf st row heavy r =
      (if limitExceeded (limitReasons st row r) then .divert
        else if heavy || st.dec.heavyThreshold ≤ r.upper.getD 0 then .passHeavy else .passLight,
       r.reasons.union (limitReasons st row r)) := by
  rcases hq with hq | hq
  all_goals
    simp only [decideOf, hq, limitExceeded]
    split
    · simp only [*, if_true]
    · split <;> simp [*]

/-- DIVERT stands exactly where a limit is exceeded (R100). -/
theorem decideOf_weighed_divert {st : Settings} {row : Fin 8} {heavy : Bool} {r : VRecord}
    (hq : r.quality = some .a ∨ r.quality = some .b) :
    (decideOf st row heavy r).1 = .divert ↔ limitExceeded (limitReasons st row r) = true := by
  rw [decideOf_weighed hq]
  split_ifs <;> simp [*]

/-- Where no limit is exceeded, PASS_HEAVY stands exactly for a heavy class and from HEAVY_THRESHOLD on (R100). -/
theorem decideOf_weighed_passHeavy {st : Settings} {row : Fin 8} {heavy : Bool} {r : VRecord}
    (hq : r.quality = some .a ∨ r.quality = some .b) :
    (decideOf st row heavy r).1 = .passHeavy ↔
      (decideOf st row heavy r).1 ≠ .divert ∧ (heavy = true ∨ st.dec.heavyThreshold ≤ r.upper.getD 0) := by
  rw [Ne, decideOf_weighed_divert hq, decideOf_weighed hq]
  split_ifs <;> simp_all

end Sys2Proof.Machine

namespace Sys2Proof.Proofs

open Sys2Proof.Machine

/-- Settles O26, from when an entry matches a record and from the two forms of the decision. -/
theorem decisionRules : Obligations.DecisionRules := by
  unfold Obligations.DecisionRules
  refine ⟨fun st r => ?_, fun st row heavy r => ?_⟩
  · intro code gap accepts fits
    have hfits : ∀ e, fits e ↔ classMatches e r.axles.length (gapCodes st r.axles) = true := fun e => by
      simp only [classMatches_iff, gapAccepted_iff]
      exact Iff.rfl
    simp only [hfits]
    exact ⟨classOf_of_none, fun i => classOf_of_first i⟩
  · intro out lim m exceeds
    have hexceeds : ∀ size limit, exceeds size limit ↔ groupExceeds m r.axles size limit = true := fun size limit =>
      (groupExceeds_iff m r.axles size limit).symm
    refine ⟨fun hq => ⟨fun ht => ?_, fun ht => ?_⟩, fun hq => ?_⟩
    · simp [out, decideOf_unweighed hq, ht]
    · simp only [out, decideOf_unweighed hq, ht, Bool.false_eq_true, if_false]
      split <;> simp [*]
    · have hdivert : limitExceeded (limitReasons st row r) = true ↔ lim.gross < r.upper.getD 0 ∨
          exceeds 1 lim.single ∨ exceeds 2 lim.tandem ∨ exceeds 3 lim.tridem := by
        simp [limitExceeded, limitReasons, hexceeds, lim, m, or_assoc]
      have hreasons : out.2 = r.reasons.union (limitReasons st row r) := by simp [out, decideOf_weighed hq]
      refine ⟨(decideOf_weighed_divert hq).trans hdivert, decideOf_weighed_passHeavy hq, ?_⟩
      simp only [hreasons, union_limitReasons, hexceeds]
      simp [limitReasons, lim, m]

end Sys2Proof.Proofs
end

section
/-! SUPPORT. Proofs about requests of level OPERATE: what a rule with one answer does (R174), the views of deck, queue and snapshot (R110,
R150), and the forcing of signs (R106). -/

namespace Sys2Proof.Machine

open Sys2Proof.Safety

/-! ### Requests that need no key (R174) -/

/-- A request of any level whose payload has a length of its own is given to its rule. -/
theorem serve_open {code : Nat} {ns : List Nat} {rule : Request → State → State} {r : Request} {s : State} (h : Asks code r s)
    (hl : r.payload.length ∈ ns) : serve code (lengthIn ns) false rule s = .next (settle (rule r (dropRequest s))) := by
  rw [serve_spec _ _ _ h]
  simp [judgeRequest, lengthIn, hl]

/-- What an answer to a request that asks does, where the rule's own effect x leaves the link as it is. -/
theorem reply_of_asks {c : Nat} {r : Request} {s x : State} (h : Asks c r s) (hx : x.lki = s.lki) (code : StatusCode)
    (body : AnswerBody) : AnsweredFrom r code body [] x (settle (reply r code body (dropRequest x))) :=
  reply_answered r code body x (hx ▸ h.queues.held)

/-- A byte names the lane whose number it is, and none above 2 (12, section 12.2). -/
theorem laneAt_of_val {p : List Byte} {i : Nat} {l : Lane} (h : l.val = byteAt p i) : laneAt p i = some l := by
  have hl : byteAt p i < 3 := h ▸ l.isLt
  simp [laneAt, hl, Fin.ext_iff, h]

theorem laneAt_of_large {p : List Byte} {i : Nat} (h : 2 < byteAt p i) : laneAt p i = none := by
  simp [laneAt]; omega

/-! ### Views (R110, R150) -/

@[simp] theorem secondsLeft_none (now : Time) : secondsLeft now none = 0 := rfl

theorem secondsLeft_some (now e : Time) :
    secondsLeft now (some e) = if earlier now e then ((e - now).toNat + 99999) / 100000 else 0 := by
  have hround : ticksFrom now e + 100000 - 1 = ticksFrom now e + 99999 := by omega
  cases h : earlier now e
  · simp [secondsLeft, reached, h]
  · simp only [secondsLeft, reached, h, ceilDiv, Config.ticksPerS, hround, Bool.not_true, Bool.false_eq_true, if_false, if_true]
    rfl

/-- The items of queued records that the pool holds are theirs, in their order (R150). -/
theorem map_fst_queueItem {s : State} {ids : List Nat} (h : ∀ id ∈ ids, ∃ v, findRec s id = some v) :
    (ids.filterMap (queueItem s)).map (·.1) = ids := by
  induction ids with
  | nil => rfl
  | cons id ids ih =>
    obtain ⟨v, hv⟩ := h id (by simp)
    have hitem : queueItem s id = some (id, v.lane, v.decTime, v.upper) := by simp [queueItem, hv]
    rw [List.filterMap_cons_some hitem, List.map_cons, ih fun k hk => h k (by simp [hk])]

/-- An item shows lane, decision time and upper gross of the record of its id (R150). -/
theorem queueItem_shows {s : State} {ids : List Nat} {i : Nat × Lane × Option Time × Option Nat}
    (h : i ∈ ids.filterMap (queueItem s)) : ∃ v, findRec s i.1 = some v ∧ i.2 = (v.lane, v.decTime, v.upper) := by
  obtain ⟨id, -, hi⟩ := List.mem_filterMap.mp h
  obtain ⟨v, hv, rfl⟩ := Option.map_eq_some_iff.mp hi
  exact ⟨v, hv, rfl⟩

/-- A DECK_VIEW answers for a lane of the device, and is refused for another number (R150). -/
theorem answerDeckView_lane {r : Request} {l : Lane} (h : l.val = byteAt r.payload 0) (s : State) : answerDeckView r s =
    reply r .ok (.deck (deckViewHead l s) ((segment (byteAt r.payload 1) 12 s.dkc.lists[l]).map deckEntryView)) s := by
  simp only [answerDeckView, laneAt_of_val h]

theorem answerDeckView_other {r : Request} (h : 2 < byteAt r.payload 0) (s : State) :
    answerDeckView r s = refuse r .badValue s := by
  simp only [answerDeckView, laneAt_of_large h]

/-- A QUEUE_VIEW answers with the queue, with the grants, or is refused, by its part (R150). -/
theorem answerQueueView_queue {r : Request} (h : byteAt r.payload 0 = 0) (s : State) : answerQueueView r s =
    reply r .ok (.queue s.dkc.queue.length ((segment (byteAt r.payload 1) 16 s.dkc.queue).filterMap (queueItem s))) s := by
  simp only [answerQueueView, h]

theorem answerQueueView_grants {r : Request} (h : byteAt r.payload 0 = 1) (s : State) : answerQueueView r s =
    reply r .ok (.grants s.dkc.grants.length (segment (byteAt r.payload 1) 10 s.dkc.grants) s.dkc.grantTimes
      (s.dkc.lastGrant.map (·.time))) s := by
  simp only [answerQueueView, h]

theorem answerQueueView_other {r : Request} (h : 1 < byteAt r.payload 0) (s : State) :
    answerQueueView r s = refuse r .badValue s := by
  match hb : byteAt r.payload 0 with
  | 0 | 1 => omega
  | n + 2 => simp only [answerQueueView, hb]

/-! ### Forcing of signs (R106) -/

/-- The force end time that a duration of d seconds gives at time now (R106). -/
def forceEnd (d : Nat) (now : Time) : Option Time := if d = 0 then none else some (now + BitVec.ofNat 32 (d * 100000))

/-- The state with other force end times. -/
def withForces (forces : Vector (Option Time) 3) (s : State) : State := { s with dcu.force := forces }

theorem forceLane_eq (d : Nat) (s : State) (l : Lane) :
    forceLane d s l = withForces (put s.dcu.force l (forceEnd d s.tbu.time)) s := rfl

/-- What the OK answer to a request does that changes the force end times. -/
theorem reply_of_asks_forces {c : Nat} {r : Request} {s : State} (h : Asks c r s) (forces : Vector (Option Time) 3) :
    AnsweredFrom r .ok .empty [] (withForces forces s) (settle (accept r (withForces forces (dropRequest s)))) :=
  reply_of_asks (x := withForces forces s) h rfl _ _

/-- The signs of several lanes forced: each lane named has the end time, and nothing else is changed. -/
theorem foldl_forceLane (d : Nat) (ls : List Lane) (s : State) : ls.foldl (forceLane d) s =
    withForces (Vector.ofFn fun l : Lane => if l ∈ ls then forceEnd d s.tbu.time else s.dcu.force[l]) s := by
  induction ls generalizing s with
  | nil =>
    have hsame : (Vector.ofFn fun l : Lane => s.dcu.force[l]) = s.dcu.force := by ext i hi; simp
    simp only [List.foldl_nil, List.not_mem_nil, if_false, hsame]
    rfl
  | cons k ks ih =>
    rw [List.foldl_cons, ih]
    refine congrArg (withForces · s) (congrArg Vector.ofFn (funext fun l => ?_))
    show (if l ∈ ks then forceEnd d s.tbu.time else (put s.dcu.force k (forceEnd d s.tbu.time))[l]) = _
    by_cases hk : l = k
    · subst hk
      rw [put_getElem_self, if_pos (List.mem_cons_self ..), ite_self]
    · rw [put_getElem_other _ _ _ _ hk]
      simp only [List.mem_cons, hk, false_or]

/-- The present lanes are those below LANE_COUNT (R1). -/
theorem mem_presentLanes (st : Settings) (l : Lane) : l ∈ allLanes.filter (lanePresent st) ↔ l.val < st.site.laneCount := by
  have hall : l ∈ allLanes := by revert l; decide
  simp [hall, lanePresent]

/-- A SIGN_FORCE for all lanes forces the present ones (R106). -/
theorem answerSignForce_all {r : Request} (h : byteAt r.payload 0 = 255) (s : State) : answerSignForce r s =
    accept r (withForces (Vector.ofFn fun l : Lane => if l.val < s.sst.live.site.laneCount
      then forceEnd (min (u16At r.payload 1) 3600) s.tbu.time else s.dcu.force[l]) s) := by
  simp only [answerSignForce, h, if_true, foldl_forceLane, mem_presentLanes, Config.forceMax]

/-- A SIGN_FORCE for one present lane (R106). -/
theorem answerSignForce_lane {r : Request} {l : Lane} (h : l.val = byteAt r.payload 0) {s : State}
    (hp : l.val < s.sst.live.site.laneCount) : answerSignForce r s =
      accept r (withForces (put s.dcu.force l (forceEnd (min (u16At r.payload 1) 3600) s.tbu.time)) s) := by
  have hne : byteAt r.payload 0 ≠ 255 := by omega
  simp only [answerSignForce, hne, if_false, laneAt_of_val h, lanePresent, hp, decide_true, if_true, forceLane_eq,
    Config.forceMax]

/-- A SIGN_FORCE that names no present lane is refused (R106). -/
theorem answerSignForce_other {r : Request} (hne : byteAt r.payload 0 ≠ 255) {s : State}
    (h : s.sst.live.site.laneCount ≤ byteAt r.payload 0 ∨ 2 < byteAt r.payload 0) :
    answerSignForce r s = refuse r .badValue s := by
  by_cases hb : 2 < byteAt r.payload 0
  · simp only [answerSignForce, hne, if_false, laneAt_of_large hb]
  · have hp : ¬ byteAt r.payload 0 < s.sst.live.site.laneCount := by omega
    simp [answerSignForce, hne, laneAt_of_val (l := ⟨byteAt r.payload 0, by omega⟩) rfl, lanePresent, hp]

/-- Once a request is answered, the sign of a present lane shows DIVERT while an end time is held (R105, R106). -/
theorem aspect_of_force {r : Request} {code : StatusCode} {body : AnswerBody} {rs : List Report} {x t : State}
    (h : AnsweredFrom r code body rs x t) {l : Lane} (hp : l.val < x.sst.live.site.laneCount) (hf : t.dcu.force[l] ≠ none) :
    t.dcu.aspect[l] = .divert := by
  have hlive : t.sst.live = x.sst.live := (congrArg (fun u : State => u.sst.live) h.rest :)
  have hforce : t.dcu.force[l].isSome = true := Option.isSome_iff_ne_none.mpr hf
  rw [h.formed.signs l]
  simp only [aspectOf, lanePresent, hlive, hp, hforce, decide_true, Bool.not_true, Bool.false_eq_true, if_false, if_true, ite_self]

end Sys2Proof.Machine

namespace Sys2Proof.Proofs

open Sys2Proof.Machine
open Sys2Proof.Safety

/-- DECK_VIEW (R150). -/
theorem deckView_views {r : Request} {s : State} (hl : r.payload.length = 2) (h : Asks 0x12 r s) :
    ∃ t, exec .deckView s = .next t ∧
      (2 < byteAt r.payload 0 → AnsweredFrom r .badValue .empty [] s t) ∧
      (∀ l : Lane, l.val = byteAt r.payload 0 → AnsweredFrom r .ok (.deck (deckViewHead l s)
        ((segment (byteAt r.payload 1) 12 s.dkc.lists[l]).map deckEntryView)) [] s t) := by
  refine ⟨_, serve_open h (by simp [hl]), fun hb => ?_, fun l hb => ?_⟩
  · rw [answerDeckView_other hb]
    exact reply_of_asks h rfl _ _
  · rw [answerDeckView_lane hb]
    exact reply_of_asks h rfl _ _

/-- QUEUE_VIEW (R150). -/
theorem queueView_views {r : Request} {s : State} (hl : r.payload.length = 2) (h : Asks 0x13 r s) :
    ∃ t, exec .queueView s = .next t ∧
      (1 < byteAt r.payload 0 → AnsweredFrom r .badValue .empty [] s t) ∧
      (byteAt r.payload 0 = 0 → AnsweredFrom r .ok (.queue s.dkc.queue.length
        ((segment (byteAt r.payload 1) 16 s.dkc.queue).filterMap (queueItem s))) [] s t) ∧
      (byteAt r.payload 0 = 1 → AnsweredFrom r .ok (.grants s.dkc.grants.length
        (segment (byteAt r.payload 1) 10 s.dkc.grants) s.dkc.grantTimes (s.dkc.lastGrant.map (·.time))) [] s t) := by
  refine ⟨_, serve_open h (by simp [hl]), fun hb => ?_, fun hb => ?_, fun hb => ?_⟩
  · rw [answerQueueView_other hb]
    exact reply_of_asks h rfl _ _
  · rw [answerQueueView_queue hb]
    exact reply_of_asks h rfl _ _
  · rw [answerQueueView_grants hb]
    exact reply_of_asks h rfl _ _

/-- Settles O46, each request by what its rule answers. -/
theorem deckAndSnapshotViews : Obligations.DeckAndSnapshotViews := by
  unfold Obligations.DeckAndSnapshotViews
  refine ⟨fun r s hl => ⟨fun h => ?_, fun h => ?_⟩, fun r s hl => ⟨fun h => ?_, fun h => ?_, fun h => ?_⟩⟩
  · obtain ⟨t, ht, hbad, hview⟩ := deckView_views hl h
    refine ⟨t, ht, hbad, fun l hb => ?_⟩
    have hleft : deckViewHead l s = { deckViewHead l s with timerLeft := secondsLeft s.tbu.time s.dkc.timer } := rfl
    have hv := hview l hb
    rw [hleft] at hv
    cases he : s.dkc.timer with
    | none =>
      simp only [he, secondsLeft_none] at hv ⊢
      exact hv
    | some e =>
      simp only [he, secondsLeft_some] at hv ⊢
      exact hv
  · obtain ⟨t, ht, hbad, hqueue, hgrants⟩ := queueView_views hl h
    refine ⟨t, ht, hbad, fun hb hrec => ⟨_, hqueue hb, ?_, fun i hi => queueItem_shows hi⟩, hgrants⟩
    exact map_fst_queueItem fun id hid => hrec id (List.mem_of_mem_drop (List.mem_of_mem_take hid))
  · refine ⟨_, serve_open h (by simp [hl]), _, reply_of_asks h rfl _ _, fun l => ⟨fun he => ?_, fun e he => ?_⟩⟩
    · exact (mapVec_getElem _ _ l).trans (by rw [dropRequest_dcu, he, secondsLeft_none])
    · exact (mapVec_getElem _ _ l).trans (by rw [dropRequest_dcu, he, secondsLeft_some]; rfl)
  · exact ⟨_, serve_open h (by simp [hl]), reply_of_asks (x := { s with dcu.frozen := none }) h rfl _ _⟩
  · exact ⟨_, serve_open h (by simp [hl]), reply_of_asks (x := { s with trs.held := none }) h rfl _ _⟩

/-- SIGN_FORCE (R106): what it answers, with its effect. -/
theorem signForce_forces {r : Request} {s : State} (h : Asks 0x25 r s) (hl : r.payload.length = 3) :
    let force := forceEnd (min (u16At r.payload 1) 3600) s.tbu.time
    ∃ t, exec .signForce s = .next t ∧
      (byteAt r.payload 0 = 255 → AnsweredFrom r .ok .empty [] (withForces
        (Vector.ofFn fun l : Lane => if l.val < s.sst.live.site.laneCount then force else s.dcu.force[l]) s) t) ∧
      (∀ l : Lane, l.val = byteAt r.payload 0 → l.val < s.sst.live.site.laneCount →
        AnsweredFrom r .ok .empty [] (withForces (put s.dcu.force l force) s) t) ∧
      (byteAt r.payload 0 ≠ 255 → s.sst.live.site.laneCount ≤ byteAt r.payload 0 ∨ 2 < byteAt r.payload 0 →
        AnsweredFrom r .badValue .empty [] s t) := by
  intro force
  refine ⟨_, serve_open h (by simp [hl]), fun hb => ?_, fun l hb hp => ?_, fun hne hb => ?_⟩
  · rw [answerSignForce_all hb]
    exact reply_of_asks_forces h _
  · rw [answerSignForce_lane hb (s := dropRequest s) hp]
    exact reply_of_asks_forces h _
  · rw [answerSignForce_other hne (s := dropRequest s) hb]
    exact reply_of_asks h rfl _ _

/-- Settles O52, by the three answers of SIGN_FORCE and the occasion of its expiry. -/
theorem signForces : Obligations.SignForces := by
  unfold Obligations.SignForces
  refine ⟨fun r s h hl => ?_, fun l finish s hreached hforce => ?_⟩
  · obtain ⟨t, ht, hall, hlane, hbad⟩ := signForce_forces h hl
    refine ⟨t, ht, hall, hlane, hbad, fun l hp hf => ?_⟩
    by_cases hb : byteAt r.payload 0 = 255
    · exact aspect_of_force (hall hb) hp hf
    by_cases hnamed : byteAt r.payload 0 < s.sst.live.site.laneCount ∧ byteAt r.payload 0 < 3
    · exact aspect_of_force (hlane ⟨_, hnamed.2⟩ rfl hnamed.1) hp hf
    · exact aspect_of_force (hbad hb (by omega)) hp hf
  · have hdue : forceEndDue l s = true := by simp [forceEndDue, hforce, reached, State.now, hreached]
    exact (when'_cases (forceEndDue l s) s _).1 hdue

end Sys2Proof.Proofs
end

section
/-! SUPPORT. Proofs about the requests RECORD (R128) and HISTORY (R129). -/

namespace Sys2Proof.Machine

/-! ### Records in descending id (R128) -/

/-- The model's insertion is the library's ordered insertion by a strictly smaller id. -/
theorem insertDescending_eq (x : VRecord) (rs : List VRecord) :
    insertDescending x rs = rs.orderedInsert (fun v w => w.id < v.id) x := by
  induction rs with
  | nil => rfl
  | cons y ys ih => rw [insertDescending, List.orderedInsert_cons, ih]

theorem mem_insertDescending {x v : VRecord} {rs : List VRecord} : v ∈ insertDescending x rs ↔ v = x ∨ v ∈ rs := by
  rw [insertDescending_eq, List.mem_orderedInsert]

theorem insertDescending_pairwise (x : VRecord) {rs : List VRecord} (h : rs.Pairwise fun v w => w.id ≤ v.id) :
    (insertDescending x rs).Pairwise fun v w => w.id ≤ v.id := by
  induction rs with
  | nil => exact List.pairwise_singleton _ _
  | cons y ys ih =>
    obtain ⟨hy, hys⟩ := List.pairwise_cons.mp h
    rw [insertDescending]
    split_ifs with hlt
    · refine List.pairwise_cons.mpr ⟨fun v hv => ?_, h⟩
      obtain rfl | hv := List.mem_cons.mp hv
      · exact hlt.le
      · exact (hy v hv).trans hlt.le
    · refine List.pairwise_cons.mpr ⟨fun v hv => ?_, ih hys⟩
      obtain rfl | hv := mem_insertDescending.mp hv
      · exact not_lt.mp hlt
      · exact hy v hv

theorem descending_perm (rs : List VRecord) : (descending rs).Perm rs := by
  induction rs with
  | nil => exact .refl _
  | cons x xs ih =>
    calc descending (x :: xs)
      _ = (descending xs).orderedInsert (fun v w => w.id < v.id) x := insertDescending_eq x _
      _ |>.Perm (x :: descending xs) := List.perm_orderedInsert _ _ _
      _ |>.Perm (x :: xs) := ih.cons x

theorem descending_pairwise (rs : List VRecord) : (descending rs).Pairwise fun v w => w.id ≤ v.id := by
  induction rs with
  | nil => exact .nil
  | cons x xs ih => exact insertDescending_pairwise x ih

/-! ### RECORD (R128) -/

theorem findRec_id {s : State} {id : Nat} {v : VRecord} (h : findRec s id = some v) : v.id = id := by
  simpa using List.find?_some h

/-- The id form answers with the record that the pool holds, and refuses another id. -/
theorem answerRecord_held {r : Request} (hl : r.payload.length = 4) {s : State} {v : VRecord}
    (h : findRec s (u32At r.payload 0) = some v) : answerRecord r s = reply r .ok
      (.record { v with reading := none, outlived := false } ((s.dkc.grants.find? (·.id == u32At r.payload 0)).map (·.load))) s := by
  simp only [answerRecord, hl, if_true, h, findRec_id h]

theorem answerRecord_unknown {r : Request} (hl : r.payload.length = 4) {s : State} (h : findRec s (u32At r.payload 0) = none) :
    answerRecord r s = refuse r .notFound s := by
  simp only [answerRecord, hl, if_true, h]

/-- The list form answers for a count in 1 to 40, and refuses another count. -/
theorem answerRecord_list {r : Request} (hl : r.payload.length = 5) (h1 : 1 ≤ byteAt r.payload 0) (h40 : byteAt r.payload 0 ≤ 40)
    (s : State) : answerRecord r s = reply r .ok (.records (listRecords s (byteAt r.payload 0) (u32At r.payload 1))) s := by
  simp [answerRecord, hl, h1.not_gt, h40.not_gt]

theorem answerRecord_badCount {r : Request} (hl : r.payload.length = 5) (h : byteAt r.payload 0 < 1 ∨ 40 < byteAt r.payload 0)
    (s : State) : answerRecord r s = refuse r .badValue s := by
  rw [answerRecord, if_neg (by omega)]
  exact if_pos (by rwa [Bool.or_eq_true, decide_eq_true_iff, decide_eq_true_iff])

/-! ### HISTORY (R129) -/

/-- The id form answers with the summary that the ring holds, and refuses another id. -/
theorem answerHistory_held {r : Request} (hl : r.payload.length = 4) {s : State} {x : Summary}
    (h : s.rtb.history.find? (·.id == u32At r.payload 0) = some x) : answerHistory r s = reply r .ok (.history [x]) s := by
  simp only [answerHistory, hl, if_true, h]

theorem answerHistory_unknown {r : Request} (hl : r.payload.length = 4) {s : State}
    (h : s.rtb.history.find? (·.id == u32At r.payload 0) = none) : answerHistory r s = refuse r .notFound s := by
  simp only [answerHistory, hl, if_true, h]

/-- The newest form answers for a count in 1 to 5, and refuses another count. -/
theorem answerHistory_newest {r : Request} (hl : r.payload.length = 1) (h1 : 1 ≤ byteAt r.payload 0) (h5 : byteAt r.payload 0 ≤ 5)
    (s : State) : answerHistory r s = reply r .ok (.history (s.rtb.history.reverse.take (byteAt r.payload 0))) s := by
  simp [answerHistory, hl, h1.not_gt, h5.not_gt]

theorem answerHistory_badCount {r : Request} (hl : r.payload.length = 1) (h : byteAt r.payload 0 < 1 ∨ 5 < byteAt r.payload 0)
    (s : State) : answerHistory r s = refuse r .badValue s := by
  rw [answerHistory, if_neg (by omega)]
  exact if_pos (by rwa [Bool.or_eq_true, decide_eq_true_iff, decide_eq_true_iff])

end Sys2Proof.Machine

namespace Sys2Proof.Proofs

open Sys2Proof.Machine
open Sys2Proof.Safety

/-- Settles O45, each form of the two requests by what its rule answers; the list form's order is `descending`. -/
theorem recordAndHistory : Obligations.RecordAndHistory := by
  unfold Obligations.RecordAndHistory
  refine fun r s => ⟨fun h hl => ?_, fun h hl => ?_, fun h hl => ?_, fun h hl => ?_⟩
  · refine ⟨_, serve_open h (by simp [hl]), fun v hv => ?_, fun hv => ?_⟩
    · rw [answerRecord_held hl (s := dropRequest s) hv]
      exact reply_of_asks h rfl _ _
    · rw [answerRecord_unknown hl (s := dropRequest s) hv]
      exact reply_of_asks h rfl _ _
  · refine ⟨_, serve_open h (by simp [hl]), fun hn => ?_, fun h1 h40 => ?_⟩
    · rw [answerRecord_badCount hl hn]
      exact reply_of_asks h rfl _ _
    · refine ⟨_, List.pairwise_map.mpr (descending_pairwise _), descending_perm _, ?_⟩
      rw [answerRecord_list hl h1 h40]
      exact reply_of_asks h rfl _ _
  · refine ⟨_, serve_open h (by simp [hl]), fun x hx => ?_, fun hx => ?_⟩
    · rw [answerHistory_held hl (s := dropRequest s) hx]
      exact reply_of_asks h rfl _ _
    · rw [answerHistory_unknown hl (s := dropRequest s) hx]
      exact reply_of_asks h rfl _ _
  · refine ⟨_, serve_open h (by simp [hl]), fun hn => ?_, fun h1 h5 => ?_⟩
    · rw [answerHistory_badCount hl hn]
      exact reply_of_asks h rfl _ _
    · rw [answerHistory_newest hl h1 h5]
      exact reply_of_asks h rfl _ _

end Sys2Proof.Proofs
end

section
/-! SUPPORT. Proofs about the trace memory's request TRACE_READ (R171). -/

namespace Sys2Proof.Machine

/-! ### TRACE_READ, one equation for each row of Table 11-4 -/

section TraceReadRows

variable {r : Request} {s : State} {x : TraceRecord}

theorem answerTraceRead_summary (h0 : u32At r.payload 0 = 0) (s : State) :
    answerTraceRead r s = reply r .ok (.trace (traceSummary s) none) s := if_pos h0

theorem answerTraceRead_badCount (h0 : u32At r.payload 0 ≠ 0) (hc : byteAt r.payload 6 < 1 ∨ 64 < byteAt r.payload 6) (s : State) :
    answerTraceRead r s = refuse r .badValue s := by
  rw [answerTraceRead, if_neg h0]
  exact if_pos (by rwa [Bool.or_eq_true, decide_eq_true_iff, decide_eq_true_iff])

theorem answerTraceRead_unknown (h0 : u32At r.payload 0 ≠ 0) (h1 : 1 ≤ byteAt r.payload 6) (h64 : byteAt r.payload 6 ≤ 64)
    (hx : s.trs.ring.find? (·.index == u32At r.payload 0) = none) : answerTraceRead r s = refuse r .notFound s := by
  simp [answerTraceRead, h0, h1.not_gt, h64.not_gt, hx]

theorem answerTraceRead_pastEnd (h0 : u32At r.payload 0 ≠ 0) (h1 : 1 ≤ byteAt r.payload 6) (h64 : byteAt r.payload 6 ≤ 64)
    (hx : s.trs.ring.find? (·.index == u32At r.payload 0) = some x) (ho : x.samples.length ≤ u16At r.payload 4) :
    answerTraceRead r s = refuse r .badValue s := by
  simp [answerTraceRead, h0, h1.not_gt, h64.not_gt, hx, ho]

theorem answerTraceRead_segment (h0 : u32At r.payload 0 ≠ 0) (h1 : 1 ≤ byteAt r.payload 6) (h64 : byteAt r.payload 6 ≤ 64)
    (hx : s.trs.ring.find? (·.index == u32At r.payload 0) = some x) (ho : u16At r.payload 4 < x.samples.length) :
    answerTraceRead r s = reply r .ok (.trace (traceSummary s) (some (traceHeader x,
      (segment (u16At r.payload 4) (byteAt r.payload 6) x.samples).map traceSample))) s := by
  simp [answerTraceRead, h0, h1.not_gt, h64.not_gt, hx, ho.not_ge]

end TraceReadRows

/-- A record found in the ring under an index bears that index. -/
theorem index_of_find_ring {ring : List TraceRecord} {index : Nat} {x : TraceRecord}
    (h : ring.find? (·.index == index) = some x) : x.index = index := by
  simpa using List.find?_some h

end Sys2Proof.Machine

namespace Sys2Proof.Proofs

open Sys2Proof.Machine
open Sys2Proof.Safety

/-- Settles O47, each row of Table 11-4 by the answer that the rule gives there. -/
theorem traceRead : Obligations.TraceRead := by
  unfold Obligations.TraceRead
  intro r s h hl index offset count used summary
  refine ⟨_, serve_open h (by simp [hl]), fun h0 => ?summaryOnly, fun h0 hc => ?badCount, fun h0 h1 h64 =>
    ⟨fun hx => ?unknown, fun x hx => ⟨fun ho => ?pastEnd, fun ho => ?segment⟩⟩⟩
  case summaryOnly =>
    rw [answerTraceRead_summary h0]
    exact reply_of_asks h rfl _ _
  case badCount =>
    rw [answerTraceRead_badCount h0 hc]
    exact reply_of_asks h rfl _ _
  case unknown =>
    rw [answerTraceRead_unknown (s := dropRequest s) h0 h1 h64 hx]
    exact reply_of_asks h rfl _ _
  case pastEnd =>
    rw [answerTraceRead_pastEnd (s := dropRequest s) h0 h1 h64 hx ho]
    exact reply_of_asks h rfl _ _
  case segment =>
    rw [answerTraceRead_segment (s := dropRequest s) h0 h1 h64 hx ho, ← index_of_find_ring hx]
    exact reply_of_asks h rfl _ _

end Sys2Proof.Proofs
end

section
/-! SUPPORT. Proofs about the step (spec 00, section 0.6): what a step can come to, and the outputs that every command forms (R105, R148,
R162, R180). -/

namespace Sys2Proof.Machine

open Sys2Proof.Safety

/-! ### What a command comes to -/

/-- A command's outcome is the state it was given, or a state with its outputs formed. -/
def Settles (s : State) (o : Host.Outcome State Fault Refusal) : Prop := o = .next s ∨ ∃ x, o = .next (settle x)

theorem done_settles (s x : State) : Settles s (done x) := .inr ⟨x, rfl⟩

theorem when'_settles (due : Bool) (s x : State) : Settles s (when' due s x) := by
  cases due
  · exact .inl rfl
  · exact .inr ⟨x, rfl⟩

/-- Every command goes on: to the state it was given where its occasion does not exist, or to one with its outputs formed. -/
theorem exec_settles (i : Instr) (s : State) : Settles s (exec i s) := by
  cases i
  case coldStart | frameReceived | lenOutOfRange => exact done_settles ..
  all_goals exact when'_settles ..

theorem step_of_pending {c : Instr} {cs : List Instr} {s : State} (h : s.pending = c :: cs) :
    step s = exec c { s with pending := cs } := by
  simp only [step, h]

theorem step_of_empty {s : State} (h : s.pending = []) : step s = .next (rest s) := by
  simp only [step, h]

/-- What a step comes to: the state with another queue, the state one tick later, or a state with its outputs formed. -/
theorem step_cases {s t : State} (h : step s = .next t) :
    (∃ cs, t = { s with pending := cs }) ∨ t = tick s ∨ ∃ x, t = settle x := by
  cases hp : s.pending with
  | cons c cs =>
    rw [step_of_pending hp] at h
    rcases exec_settles c { s with pending := cs } with he | ⟨x, he⟩
    · exact .inl ⟨cs, by rw [h] at he; exact Host.Outcome.next.inj he⟩
    · exact .inr (.inr ⟨x, by rw [h] at he; exact Host.Outcome.next.inj he⟩)
  | nil =>
    rw [step_of_empty hp] at h
    obtain rfl := Host.Outcome.next.inj h
    unfold rest
    split
    · exact .inr (.inl rfl)
    · exact .inl ⟨_, rfl⟩

/-! ### A tick leaves the outputs formed -/

theorem tick_formed {s : State} (h : Formed s) : Formed (tick s) where
  modes l := (h.modes l).trans (tick_laneModeOf s l).symm
  signal := h.signal
  signs l := (h.signs l).trans (tick_aspectOf s l).symm
  retained g st hr := (tick_retainNeeded s g).trans (h.retained g st hr)

theorem withPending_formed {s : State} (h : Formed s) (cs : List Instr) : Formed { s with pending := cs } :=
  ⟨h.modes, h.signal, h.signs, h.retained⟩

theorem step_formed {s t : State} (h : Formed s) (hs : step s = .next t) : Formed t := by
  rcases step_cases hs with ⟨cs, rfl⟩ | rfl | ⟨x, rfl⟩
  · exact withPending_formed h cs
  · exact tick_formed h
  · exact (settle_formedFrom x).formed

/-! ### The rows that formed outputs meet (R162, R148, R105, R180) -/

theorem inFault_iff (s : State) (ix : CondIx) : inFault s ix = true ↔ FaultAt s ix.val := by
  simp only [inFault, beq_iff_eq, FaultAt]
  exact ⟨fun h => ⟨ix, rfl, h⟩, fun ⟨j, hj, h⟩ => Fin.ext hj ▸ h⟩

theorem closedBy_iff (s : State) (l : Lane) : (!lanePresent s.sst.live l || s.cmn.closedMark[l]) = true ↔ ClosedBy s l := by
  simp [ClosedBy, lanePresent]

theorem blanketBy_iff (s : State) (l : Lane) : (s.cmn.safeFlag || blanketFault s l) = true ↔ BlanketBy s l := by
  simp only [blanketFault, BlanketBy, Bool.or_eq_true, List.any_cons, List.any_nil, inFault_iff, silentIx, stuckIx, rangeIx,
    tableFullIx, s1Chan, s2Chan, Bool.false_eq_true, or_false]
  have e1 : 3 + (2 * l.val + 1) = 4 + 2 * l.val := by omega
  have e2 : 9 + (2 * l.val + 1) = 10 + 2 * l.val := by omega
  have e3 : 21 + (2 * l.val + 1) = 22 + 2 * l.val := by omega
  rw [e1, e2, e3]
  rfl

theorem degradedBy_iff (s : State) (l : Lane) : degradedFault s l = true ↔ DegradedBy s l := by
  simp only [degradedFault, DegradedBy, Bool.or_eq_true, List.any_cons, List.any_nil, inFault_iff, disagreeIx, overdueIx, s1Chan,
    s2Chan, Bool.false_eq_true, or_false]
  have e : 15 + (2 * l.val + 1) = 16 + 2 * l.val := by omega
  rw [e]

theorem laneModeOf_closed {s : State} {l : Lane} (h : ClosedBy s l) : laneModeOf s l = .closed :=
  if_pos ((closedBy_iff s l).mpr h)

theorem laneModeOf_blanket {s : State} {l : Lane} (hc : ¬ ClosedBy s l) (h : BlanketBy s l) : laneModeOf s l = .blanket :=
  (if_neg (mt (closedBy_iff s l).mp hc)).trans (if_pos ((blanketBy_iff s l).mpr h))

theorem laneModeOf_degraded {s : State} {l : Lane} (hc : ¬ ClosedBy s l) (hb : ¬ BlanketBy s l) (h : DegradedBy s l) :
    laneModeOf s l = .degraded :=
  (if_neg (mt (closedBy_iff s l).mp hc)).trans
    ((if_neg (mt (blanketBy_iff s l).mp hb)).trans (if_pos ((degradedBy_iff s l).mpr h)))

theorem laneModeOf_normal {s : State} {l : Lane} (hc : ¬ ClosedBy s l) (hb : ¬ BlanketBy s l) (h : ¬ DegradedBy s l) :
    laneModeOf s l = .normal :=
  (if_neg (mt (closedBy_iff s l).mp hc)).trans
    ((if_neg (mt (blanketBy_iff s l).mp hb)).trans (if_neg (mt (degradedBy_iff s l).mp h)))

theorem divertAhead_iff (s : State) (l : Lane) : divertAhead s l = true ↔ DivertAheadIn s l := by
  simp only [divertAhead, DivertAheadIn, List.any_eq_true, Option.any_eq_true, beq_iff_eq]

/-- The deck signal where the deck state alone, or BLIND with overload, gives ALL_STOP (R148). -/
theorem signalOf_allStop {s : State} (h : s.dkc.st = .resync ∨ s.dkc.st = .isolated ∨ s.dkc.st = .overloaded ∨
    s.dkc.st = .closed ∨ (s.dkc.st = .blind ∧ s.dkc.overload = true)) : signalOf s = .allStop := by
  rcases h with h | h | h | h | ⟨h, ho⟩
  all_goals simp [signalOf, *]

/-- The deck signal where the deck serves: GO while a grant is outstanding or no record waits (R148). -/
theorem signalOf_served {s : State} (h : s.dkc.st = .openDeck ∨ (s.dkc.st = .blind ∧ s.dkc.overload = false)) :
    signalOf s = if s.dkc.grants ≠ [] ∨ s.dkc.queue = [] then .go else .heavyWait := by
  rcases h with h | ⟨h, ho⟩
  all_goals simp [signalOf, *]

/-- The aspect of the sign of a present lane with no cause for DIVERT (R105). -/
theorem aspectOf_hold {s : State} {l : Lane} (hp : l.val < s.sst.live.site.laneCount) (hm : laneModeOf s l ≠ .blanket)
    (hf : s.dcu.force[l] = none) (hd : ¬ DivertAheadIn s l) : aspectOf s l = if signalOf s = .go then .blank else .hold := by
  have hd : divertAhead s l = false := by simpa using mt (divertAhead_iff s l).mp hd
  cases hs : signalOf s <;> simp [aspectOf, lanePresent, hp, hm, hf, hd, hs]

theorem aspectOf_divert {s : State} {l : Lane} (hp : l.val < s.sst.live.site.laneCount)
    (h : laneModeOf s l = .blanket ∨ s.dcu.force[l] ≠ none ∨ DivertAheadIn s l) : aspectOf s l = .divert := by
  rw [← divertAhead_iff, ← Option.isSome_iff_ne_none] at h
  have hp : lanePresent s.sst.live l = true := by simpa [lanePresent] using hp
  rcases h with h | h | h
  all_goals simp only [aspectOf, hp, h, Bool.not_true, Bool.false_eq_true, beq_self_eq_true, if_true, if_false, ite_self]

theorem retainNeeded_iff (s : State) (g : Nat) : retainNeeded s g = true ↔
    (∃ r ∈ s.rtb.pool, r.gen = g ∧ (r.st = .assembling ∨ r.st = .pending)) ∨
      ∃ l : Lane, (∃ v, s.las[l].openVeh = some v ∧ v.owner = .unrecorded ∧ v.gen = g) ∨
        ∃ v ∈ s.las[l].sealed, v.owner = .unrecorded ∧ v.gen = g := by
  have hlas : s.las.toList.any (lasNeeds g) = true ↔ ∃ l : Lane, lasNeeds g s.las[l] = true := by
    rw [List.any_eq_true, List.exists_mem_iff_exists_getElem]
    simp [Fin.exists_iff]
  simp only [retainNeeded, Bool.or_eq_true, hlas, lasNeeds, recordNeeds, List.any_eq_true, Option.any_eq_true, Bool.and_eq_true,
    beq_iff_eq]

/-- Formed outputs are those that the rows of the rules give. -/
theorem formed_rows {s : State} (h : Formed s) : OutputRows s where
  closed l hc := (h.modes l).trans (laneModeOf_closed hc)
  blanket l hc hb := (h.modes l).trans (laneModeOf_blanket hc hb)
  degraded l hc hb hd := (h.modes l).trans (laneModeOf_degraded hc hb hd)
  normal l hc hb hd := (h.modes l).trans (laneModeOf_normal hc hb hd)
  allStop hst := h.signal.trans (signalOf_allStop hst)
  resting hst := h.signal.trans (by simp [signalOf, hst])
  served hst := h.signal.trans (signalOf_served hst)
  absent l hp := (h.signs l).trans (by simp [aspectOf, lanePresent, hp.not_gt])
  divert l hp hd := (h.signs l).trans (aspectOf_divert hp (h.modes l ▸ hd))
  hold l hp hm hf hd := (h.signs l).trans (h.signal ▸ aspectOf_hold hp (h.modes l ▸ hm) hf hd)
  retained g st hr := (retainNeeded_iff s g).mp (h.retained g st hr)

end Sys2Proof.Machine

namespace Sys2Proof.Proofs

open Sys2Proof.Machine
open Sys2Proof.Safety

/-- Settles O1, by what a step does with a queue that is not empty. -/
theorem stepRunsFrontCommand : Obligations.StepRunsFrontCommand := fun _ _ _ => step_of_pending

/-- Settles O4, since every command settles and the empty queue has a next state. -/
theorem noCommandStops : Obligations.NoCommandStops := by
  intro s
  cases hp : s.pending with
  | nil => exact ⟨_, step_of_empty hp⟩
  | cons c cs =>
    rcases exec_settles c { s with pending := cs } with h | ⟨x, h⟩
    · exact ⟨_, (step_of_pending hp).trans h⟩
    · exact ⟨_, (step_of_pending hp).trans h⟩

/-- Settles O5: every step leaves the outputs formed, and formed outputs are those of the rows. -/
theorem everyStepKeepsFormed : Obligations.EveryStepKeepsFormed := fun _ _ h hs =>
  have ht := step_formed h hs
  ⟨ht, formed_rows ht⟩

end Sys2Proof.Proofs
end

section
/-! SUPPORT. The invariants of the stores: deck account (R131), link queues (R174, R175), capacities (R112, R117, R131), and the deck CLOSED
under the safe flag (R147). Every operation keeps them, said once for each operation as `Keeps`. -/

namespace Sys2Proof.Machine

open Sys2Proof.Safety

/-! ### What leaves the Deck Controller, and what leaves its lists -/

@[simp] theorem placeReport_dkc (r : Report) (s : State) : (placeReport r s).dkc = s.dkc := (placeReport_same r s).dkc

@[simp] theorem giveClear_dkc (ix : CondIx) (s : State) : (giveClear ix s).dkc = s.dkc := (giveClear_same ix s).dkc

@[simp] theorem closeRecord_dkc (id : Nat) (d : Disposition) (s : State) : (closeRecord id d s).dkc = s.dkc := by
  unfold closeRecord
  split
  · rfl
  · exact (freeNotice_same _).dkc.trans (placeReport_same _ _).dkc

/-- The Deck Controller with a load released. -/
def releaseLoad (n : Nat) (d : DkcState) : DkcState := { d with onDeck := d.onDeck - n }

@[simp] theorem releaseEntry_dkc (l : Lane) (d : Disposition) (e : DeckEntry) (s : State) :
    (releaseEntry l d e s).dkc = releaseLoad (heavyLoad e) s.dkc := by
  unfold releaseEntry
  dsimp only
  split
  · rfl
  · split
    · exact (noncomplianceClear_same _ _ _).dkc.trans (closeRecord_dkc _ _ _)
    · exact closeRecord_dkc _ _ _

theorem foldl_releaseEntry_dkc (l : Lane) (d : Disposition) (es : List DeckEntry) (s : State) :
    (es.foldl (fun s e => releaseEntry l d e s) s).dkc = releaseLoad (listLoad es) s.dkc := by
  induction es generalizing s with
  | nil => rfl
  | cons e es ih =>
    rw [List.foldl_cons, ih, releaseEntry_dkc]
    simp [releaseLoad, listLoad, Nat.sub_sub]

/-- A flush empties the lane's list, releases its loads, and forgets the cause that its head has given (R142). -/
theorem flushLane_dkc (s : State) (l : Lane) : (flushLane s l).dkc = releaseLoad (listLoad s.dkc.lists[l])
    { s.dkc with lists := put s.dkc.lists l [], overstayGiven := put s.dkc.overstayGiven l false } :=
  (giveClear_dkc _ _).trans (foldl_releaseEntry_dkc _ _ _ _)

/-! ### The preorder of operations that keep the invariants -/

/-- From s to t the capacities of the stores and the deck CLOSED under the safe flag are kept; the safe flag and the request queue
and what stands behind a held commit are as before, and the report queue keeps its capacity. -/
structure KeepsStores (s t : State) : Prop where
  sizes    : StoreSizes s → StoreSizes t
  safe     : SafeDeckClosed s → SafeDeckClosed t
  flag     : t.cmn.safeFlag = s.cmn.safeFlag
  requests : t.lki.requests = s.lki.requests
  held     : t.lki.heldCommit = s.lki.heldCommit
  behind   : t.lki.behind = s.lki.behind
  reports  : s.lki.reports.length ≤ 32 → t.lki.reports.length ≤ 32

/-- As `KeepsStores`, and the deck account is kept. -/
structure Keeps (s t : State) : Prop extends KeepsStores s t where
  account : AccountHolds s → AccountHolds t

theorem KeepsStores.trans {s t u : State} (h : KeepsStores s t) (k : KeepsStores t u) : KeepsStores s u where
  sizes := k.sizes ∘ h.sizes
  safe := k.safe ∘ h.safe
  flag := k.flag.trans h.flag
  requests := k.requests.trans h.requests
  held := k.held.trans h.held
  behind := k.behind.trans h.behind
  reports := k.reports ∘ h.reports

theorem Keeps.refl (s : State) : Keeps s s := ⟨⟨id, id, rfl, rfl, rfl, rfl, id⟩, id⟩

theorem Keeps.trans {s t u : State} (h : Keeps s t) (k : Keeps t u) : Keeps s u :=
  ⟨h.toKeepsStores.trans k.toKeepsStores, k.account ∘ h.account⟩

/-- As `Keeps.trans`, the later operation first. -/
theorem Keeps.trans' {s t u : State} (k : Keeps t u) (h : Keeps s t) : Keeps s u := h.trans k

theorem Keeps.foldl {β : Type} {f : State → β → State} (h : ∀ s b, Keeps s (f s b)) (bs : List β) (s : State) :
    Keeps s (bs.foldl f s) := by
  induction bs generalizing s with
  | nil => exact .refl s
  | cons b bs ih => exact (h s b).trans (ih (f s b))

/-- What the invariants read of the Deck Controller: account, lists and deck state. -/
structure SameDeck (d e : DkcState) : Prop where
  committed : e.committed = d.committed
  grants    : e.grants = d.grants
  onDeck    : e.onDeck = d.onDeck
  lists     : e.lists = d.lists
  st        : e.st = d.st

theorem SameDeck.refl (d : DkcState) : SameDeck d d := ⟨rfl, rfl, rfl, rfl, rfl⟩

theorem SameDeck.account {s t : State} (h : SameDeck s.dkc t.dkc) : AccountHolds s → AccountHolds t := fun ⟨hc, ho⟩ =>
  ⟨by rw [h.committed, h.grants, hc], by rw [h.onDeck, h.lists, ho]⟩

/-- An operation keeps the invariants where it leaves what they read. -/
theorem Keeps.of_same {s t : State} (hd : SameDeck s.dkc t.dkc) (hp : t.rtb.pool.length ≤ s.rtb.pool.length)
    (hh : s.rtb.history.length ≤ 64 → t.rtb.history.length ≤ 64) (hf : t.cmn.safeFlag = s.cmn.safeFlag)
    (hl : t.lki = s.lki) : Keeps s t where
  account := hd.account
  sizes h := ⟨hp.trans h.pool, hh h.history, hd.lists ▸ h.lists⟩
  safe h ht := hd.st.trans (h (hf ▸ ht))
  flag := hf
  requests := hl ▸ rfl
  held := hl ▸ rfl
  behind := hl ▸ rfl
  reports := hl ▸ id

/-- An operation on blocks that the invariants do not read. -/
theorem Keeps.of_rest {s t : State} (hd : t.dkc = s.dkc) (hr : t.rtb = s.rtb) (hf : t.cmn.safeFlag = s.cmn.safeFlag)
    (hl : t.lki = s.lki) : Keeps s t :=
  .of_same (hd ▸ .refl _) (hr ▸ le_rfl) (hr ▸ id) hf hl

/-- An operation on the Deck Controller that leaves its deck state. -/
theorem Keeps.of_deck {s t : State} (ha : AccountHolds s → AccountHolds t)
    (hl : (∀ l : Lane, s.dkc.lists[l].length ≤ 32) → ∀ l : Lane, t.dkc.lists[l].length ≤ 32) (hs : t.dkc.st = s.dkc.st)
    (hr : t.rtb = s.rtb) (hf : t.cmn.safeFlag = s.cmn.safeFlag) (hk : t.lki = s.lki) : Keeps s t where
  account := ha
  sizes h := ⟨hr ▸ h.pool, hr ▸ h.history, hl h.lists⟩
  safe h ht := hs.trans (h (hf ▸ ht))
  flag := hf
  requests := hk ▸ rfl
  held := hk ▸ rfl
  behind := hk ▸ rfl
  reports := hk ▸ id

/-- An operation on the Link Interface's reports, ready answers and transmission. -/
theorem Keeps.of_lki {s t : State} (hd : t.dkc = s.dkc) (hr : t.rtb = s.rtb) (hf : t.cmn.safeFlag = s.cmn.safeFlag)
    (hq : t.lki.requests = s.lki.requests) (hc : t.lki.heldCommit = s.lki.heldCommit) (hb : t.lki.behind = s.lki.behind)
    (hl : s.lki.reports.length ≤ 32 → t.lki.reports.length ≤ 32) : Keeps s t where
  account := (hd ▸ SameDeck.refl _ : SameDeck s.dkc t.dkc).account
  sizes h := ⟨hr ▸ h.pool, hr ▸ h.history, hd ▸ h.lists⟩
  safe h ht := hd ▸ h (hf ▸ ht)
  flag := hf
  requests := hq
  held := hc
  behind := hb
  reports := hl

/-- An operation that keeps the invariants, after a change of blocks that they do not read. -/
theorem Keeps.after {s t u : State} (k : Keeps t u) (hd : t.dkc = s.dkc) (hr : t.rtb = s.rtb)
    (hf : t.cmn.safeFlag = s.cmn.safeFlag) (hl : t.lki = s.lki) : Keeps s u := (Keeps.of_rest hd hr hf hl).trans k

/-- An operation that keeps the invariants, after a change of the Deck Controller that they do not read. -/
theorem Keeps.afterDeck {s t u : State} (k : Keeps t u) (hd : SameDeck s.dkc t.dkc) (hr : t.rtb = s.rtb)
    (hf : t.cmn.safeFlag = s.cmn.safeFlag) (hl : t.lki = s.lki) : Keeps s u :=
  (Keeps.of_same hd (hr ▸ le_rfl) (hr ▸ id) hf hl).trans k

/-! ### Reports and conditions -/

theorem kick_keeps (s : State) : Keeps s (kick s) := by
  unfold kick
  split
  · exact .refl s
  · split
    · exact .of_lki rfl rfl rfl rfl rfl rfl id
    · rename_i hr
      refine .of_lki rfl rfl rfl rfl rfl rfl fun h => ?_
      rw [hr] at h
      exact (Nat.le_succ _).trans h
    · exact .refl s

theorem enqueueReport_keeps (r : Report) (s : State) : Keeps s (enqueueReport r s) := by
  unfold enqueueReport
  split
  · exact .of_lki rfl rfl rfl rfl rfl rfl fun h => by simp; omega
  · rename_i hc
    have hc : ¬ 32 ≤ s.lki.reports.length := hc
    exact .of_lki rfl rfl rfl rfl rfl rfl fun h => by simp; omega

theorem placeReport_keeps (r : Report) (s : State) : Keeps s (placeReport r s) := (enqueueReport_keeps r s).trans (kick_keeps _)

theorem setCond_keeps (ix : CondIx) (new : CondState) (s : State) : Keeps s (setCond ix new s) := by
  unfold setCond
  dsimp only
  split
  · exact .refl s
  · split
    · exact (placeReport_keeps _ _).after rfl rfl rfl rfl
    · exact .of_rest rfl rfl rfl rfl

theorem giveCause_keeps (ix : CondIx) (t : Time) (s : State) : Keeps s (giveCause ix t s) :=
  (setCond_keeps _ _ _).after rfl rfl rfl rfl

theorem giveFault_keeps (ix : CondIx) (t : Time) (s : State) : Keeps s (giveFault ix t s) :=
  (setCond_keeps _ _ _).after rfl rfl rfl rfl

theorem giveGraded_keeps (ix : CondIx) (b : Bool) (t : Time) (s : State) : Keeps s (giveGraded ix b t s) := by
  cases b
  · exact giveCause_keeps ix t s
  · exact giveFault_keeps ix t s

theorem giveClear_keeps (ix : CondIx) (s : State) : Keeps s (giveClear ix s) := by
  unfold giveClear
  split
  · exact setCond_keeps ..
  · exact setCond_keeps ..
  · exact .refl s
  · exact .refl s

theorem convLinkCause_keeps (t : Time) (s : State) : Keeps s (convLinkCause t s) :=
  (giveGraded_keeps _ _ _ _).after rfl rfl rfl rfl

theorem desyncCause_keeps (s : State) : Keeps s (desyncCause s) := (giveGraded_keeps _ _ _ _).after rfl rfl rfl rfl

theorem desyncClear_keeps (s : State) : Keeps s (desyncClear s) := .trans (giveClear_keeps desyncIx s) (.of_rest rfl rfl rfl rfl)

theorem noncomplianceCause_keeps (l : Lane) (id : Nat) (s : State) : Keeps s (noncomplianceCause l id s) :=
  (giveCause_keeps _ _ _).after rfl rfl rfl rfl

theorem noncomplianceClear_keeps (l : Lane) (id : Nat) (s : State) : Keeps s (noncomplianceClear l id s) := by
  unfold noncomplianceClear
  split
  · dsimp only
    split
    · exact (giveClear_keeps _ _).after rfl rfl rfl rfl
    · exact .of_rest rfl rfl rfl rfl
  · exact .refl s

theorem agreementSample_keeps (l : Lane) (b : Bool) (s : State) : Keeps s (agreementSample l b s) := by
  unfold agreementSample
  dsimp only
  split
  · exact (giveClear_keeps _ _).after rfl rfl rfl rfl
  · split
    · exact .of_rest rfl rfl rfl rfl
    · exact (giveGraded_keeps _ _ _ _).after rfl rfl rfl rfl

theorem freeNotice_keeps (s : State) : Keeps s (freeNotice s) := by
  unfold freeNotice
  split
  · refine .foldl (fun s l => ?_) _ s
    split
    · exact giveClear_keeps ..
    · exact .refl s
  · exact .refl s

theorem tempLostCause_keeps (s : State) : Keeps s (tempLostCause s) := by
  unfold tempLostCause
  split
  · exact (giveCause_keeps _ _ _).after rfl rfl rfl rfl
  · exact giveCause_keeps ..

theorem tempLostClear_keeps (s : State) : Keeps s (tempLostClear s) := (giveClear_keeps _ _).after rfl rfl rfl rfl

/-! ### Records -/

theorem changeRec_keeps (id : Nat) (f : VRecord → VRecord) (s : State) : Keeps s (changeRec id f s) :=
  .of_same (.refl _) (by simp [changeRec]) (fun h => h) rfl rfl

theorem leaveApproach_keeps (id : Nat) (s : State) : Keeps s (leaveApproach id s) :=
  .of_same (.refl _) le_rfl (fun h => h) rfl rfl

theorem leavePending_keeps (id : Nat) (s : State) : Keeps s (leavePending id s) := .of_rest rfl rfl rfl rfl

theorem enterApproach_keeps (l : Lane) (id : Nat) (s : State) : Keeps s (enterApproach l id s) :=
  .of_same (.refl _) le_rfl (fun h => h) rfl rfl

theorem insertHistory_length (x : Summary) (ring : List Summary) : (insertHistory x ring).length ≤ 64 := by
  simp only [insertHistory, keepNewest, List.length_drop, Config.historyCap]
  omega

theorem closeRecord_keeps (id : Nat) (d : Disposition) (s : State) : Keeps s (closeRecord id d s) := by
  unfold closeRecord
  split
  · exact .refl s
  · refine .trans ?_ (freeNotice_keeps _)
    refine .trans (.trans ?_ (placeReport_keeps _ _)) (.of_same (.refl _) (List.length_filter_le ..) (fun h => h) rfl rfl)
    exact .of_same (.refl _) le_rfl (fun _ => insertHistory_length _ _) rfl rfl

theorem advanceId_keeps (s : State) : Keeps s (advanceId s) := by
  unfold advanceId
  split
  · exact .of_same (.refl _) le_rfl (fun _ => Nat.zero_le _) rfl rfl
  · exact .of_same (.refl _) le_rfl (fun h => h) rfl rfl

theorem openRecord_keeps {l : Lane} {t : Time} {a id : Nat} {s s' : State} (h : openRecord l t a s = some (id, s')) :
    Keeps s s' := by
  unfold openRecord at h
  split at h
  · cases h
  · rename_i hfree
    cases h
    have hpool : s.rtb.pool.length < 48 := by
      have : ¬ 48 - s.rtb.pool.length = 0 := hfree
      omega
    refine .trans (.trans ?_ (advanceId_keeps _)) (freeNotice_keeps _)
    exact ⟨⟨fun h => ⟨by simp; omega, h.history, h.lists⟩, fun h => h, rfl, rfl, rfl, rfl, id⟩, fun h => ⟨h.committed, h.onDeck⟩⟩

/-! ### The arbiter and the account -/

theorem grantHead_keeps (id u : Nat) (s : State) : Keeps s (grantHead id u s) := by
  refine .trans ?_ (changeRec_keeps _ _ _)
  refine .of_deck (fun h => ⟨?_, h.onDeck⟩) (fun h => h) rfl rfl rfl rfl
  show s.dkc.committed + u = _
  simp [h.committed]

theorem arbitrateUpTo_keeps (n : Nat) (s : State) : Keeps s (arbitrateUpTo n s) := by
  induction n generalizing s with
  | zero => exact .refl s
  | succ n ih =>
    unfold arbitrateUpTo
    split
    · split
      · exact (grantHead_keeps ..).trans (ih _)
      · exact .refl s
    · exact .refl s

theorem arbitrate_keeps (s : State) : Keeps s (arbitrate s) := arbitrateUpTo_keeps ..

/-- The load of the grant that ends is a part of the sum of the reserved loads. -/
theorem sum_load_eraseP {gs : List Grant} {g : Grant} {p : Grant → Bool} (h : gs.find? p = some g) :
    ((gs.eraseP p).map (·.load)).sum = (gs.map (·.load)).sum - g.load := by
  induction gs with
  | nil => cases h
  | cons x xs ih =>
    by_cases hp : p x = true
    · rw [List.find?_cons_of_pos hp] at h
      cases h
      simp [hp]
    · rw [List.find?_cons_of_neg hp] at h
      have hle : g.load ≤ (xs.map (·.load)).sum := List.le_sum_of_mem (List.mem_map_of_mem (List.mem_of_find?_eq_some h))
      simp only [List.eraseP_cons_of_neg hp, List.map_cons, List.sum_cons, ih h]
      omega

theorem endGrant_keeps (id : Nat) (s : State) : Keeps s (endGrant id s) := by
  unfold endGrant
  split
  · exact .refl s
  · rename_i hg
    refine .of_deck (fun h => ⟨?_, h.onDeck⟩) (fun h => h) rfl rfl rfl rfl
    show s.dkc.committed - _ = _
    rw [sum_load_eraseP hg, h.committed]

theorem leaveQueue_keeps (id : Nat) (s : State) : Keeps s (leaveQueue id s) := .of_same ⟨rfl, rfl, rfl, rfl, rfl⟩ le_rfl (fun h => h) rfl rfl

/-! ### The lists -/

theorem toList_three {α : Type} (v : Vector α 3) : v.toList = [v[(0 : Lane)], v[(1 : Lane)], v[(2 : Lane)]] := by
  apply List.ext_getElem
  · simp
  · intro i h1 h2
    match i with
    | 0 | 1 | 2 => simp
    | _ + 3 => simp at h1

/-- The sum of the loads of the lists where one of them is replaced. -/
theorem sum_listLoad_put (v : Vector (List DeckEntry) 3) (l : Lane) (es : List DeckEntry) :
    ((put v l es).toList.map listLoad).sum + listLoad v[l] = (v.toList.map listLoad).sum + listLoad es := by
  match l with
  | 0 | 1 | 2 =>
    simp [toList_three, put]
    omega

/-- The account where a list is replaced and the on-deck load moves with it. -/
theorem account_put {s t : State} {l : Lane} {es : List DeckEntry} (h : AccountHolds s) (hc : t.dkc.committed = s.dkc.committed)
    (hg : t.dkc.grants = s.dkc.grants) (hl : t.dkc.lists = put s.dkc.lists l es)
    (ho : t.dkc.onDeck + listLoad s.dkc.lists[l] = s.dkc.onDeck + listLoad es) : AccountHolds t := by
  refine ⟨by rw [hc, hg, h.committed], ?_⟩
  have hsum := sum_listLoad_put s.dkc.lists l es
  have hdeck := h.onDeck
  rw [hl]
  omega

theorem listLoad_le_onDeck {s : State} (h : AccountHolds s) (l : Lane) : listLoad s.dkc.lists[l] ≤ s.dkc.onDeck := by
  have hsum := sum_listLoad_put s.dkc.lists l []
  have hnil : listLoad [] = 0 := rfl
  have hdeck := h.onDeck
  omega

/-- The capacity of the lists where one of them is replaced. -/
theorem length_put_le {v : Vector (List DeckEntry) 3} {l : Lane} {es : List DeckEntry} (hes : es.length ≤ 32)
    (h : ∀ k : Lane, v[k].length ≤ 32) (k : Lane) : (put v l es)[k].length ≤ 32 := by
  by_cases hk : k = l
  · subst hk
    rwa [put_getElem_self]
  · rw [put_getElem_other _ _ _ _ hk]
    exact h k

/-- An operation on the Deck Controller's lists and loads. -/
theorem KeepsStores.of_deck {s t : State} (hl : (∀ l : Lane, s.dkc.lists[l].length ≤ 32) → ∀ l : Lane, t.dkc.lists[l].length ≤ 32)
    (hs : t.dkc.st = s.dkc.st) (hr : t.rtb = s.rtb) (hf : t.cmn.safeFlag = s.cmn.safeFlag) (hk : t.lki = s.lki) :
    KeepsStores s t where
  sizes h := ⟨hr ▸ h.pool, hr ▸ h.history, hl h.lists⟩
  safe h ht := hs.trans (h (hf ▸ ht))
  flag := hf
  requests := hk ▸ rfl
  held := hk ▸ rfl
  behind := hk ▸ rfl
  reports := hk ▸ id

theorem releaseEntry_keepsStores (l : Lane) (d : Disposition) (e : DeckEntry) (s : State) :
    KeepsStores s (releaseEntry l d e s) := by
  have h : KeepsStores s { s with dkc.onDeck := s.dkc.onDeck - heavyLoad e } := .of_deck id rfl rfl rfl rfl
  unfold releaseEntry
  dsimp only
  split
  · exact h
  · refine h.trans ?_
    split
    · exact ((closeRecord_keeps _ _ _).trans (noncomplianceClear_keeps _ _ _)).toKeepsStores
    · exact (closeRecord_keeps _ _ _).toKeepsStores

theorem foldl_releaseEntry_keepsStores (l : Lane) (d : Disposition) (es : List DeckEntry) (s : State) :
    KeepsStores s (es.foldl (fun s e => releaseEntry l d e s) s) := by
  induction es generalizing s with
  | nil => exact (Keeps.refl s).toKeepsStores
  | cons e es ih => exact (releaseEntry_keepsStores l d e s).trans (ih _)

theorem flushLane_keeps (s : State) (l : Lane) : Keeps s (flushLane s l) where
  toKeepsStores := by
    refine .trans (.trans ?_ (foldl_releaseEntry_keepsStores _ _ _ _)) (giveClear_keeps _ _).toKeepsStores
    exact .of_deck (length_put_le (Nat.zero_le _)) rfl rfl rfl rfl
  account h := by
    have hd := flushLane_dkc s l
    refine account_put (es := []) h (by rw [hd]; rfl) (by rw [hd]; rfl) (by rw [hd]; rfl) ?_
    have hle := listLoad_le_onDeck h l
    rw [hd]
    simp only [releaseLoad, listLoad, List.map_nil, List.sum_nil] at hle ⊢
    omega

theorem flushOut_keeps (s : State) : Keeps s (flushOut s) := .foldl flushLane_keeps _ s

theorem formOverload_keeps (s : State) : Keeps s (formOverload s) :=
  .of_same ⟨rfl, rfl, rfl, rfl, rfl⟩ le_rfl (fun h => h) rfl rfl

theorem watchHead_keeps (l : Lane) (s : State) : Keeps s (watchHead l s) := by
  unfold watchHead
  split
  · exact (giveCause_keeps _ _ _).afterDeck ⟨rfl, rfl, rfl, rfl, rfl⟩ rfl rfl rfl
  · exact .refl s

theorem headChanged_keeps (l : Lane) (s : State) : Keeps s (headChanged l s) := by
  refine .trans ?_ (watchHead_keeps l _)
  split
  · exact (giveClear_keeps _ _).afterDeck ⟨rfl, rfl, rfl, rfl, rfl⟩ rfl rfl rfl
  · exact .refl s

theorem appendEntry_keeps {l : Lane} {s : State} (h : s.dkc.lists[l].length < 32) (e : DeckEntry) :
    Keeps s (appendEntry l e s) where
  toKeepsStores := .of_deck (length_put_le (by simp; omega)) rfl rfl rfl rfl
  account ha := by
    refine account_put ha rfl rfl rfl ?_
    simp [appendEntry, listLoad]
    omega

theorem enterDeck_keeps {l : Lane} {s : State} (h : s.dkc.lists[l].length < 32) (e : DeckEntry) : Keeps s (enterDeck l e s) := by
  unfold enterDeck
  dsimp only
  split
  · exact (appendEntry_keeps h e).trans (watchHead_keeps l _)
  · exact appendEntry_keeps h e

/-! ### Changes of deck state -/

/-- Where the deck may leave CLOSED: with the safe flag not set, if CLOSED under it (R147). -/
def MayOpen (s : State) : Prop := SafeDeckClosed s → s.cmn.safeFlag = false

theorem mayOpen_of_st {s : State} {st : DeckSt} (h : s.dkc.st = st) (hne : st ≠ .closed) : MayOpen s := by
  intro hs
  by_contra hf
  exact hne (h.symm.trans (hs (by simpa using hf)))

/-- What may open the deck is kept by operations that leave deck state and safe flag. -/
theorem MayOpen.mono {s t : State} (h : MayOpen s) (hf : t.cmn.safeFlag = s.cmn.safeFlag) (hs : t.dkc.st = s.dkc.st) : MayOpen t :=
  fun ht => hf.trans (h fun hsafe => hs ▸ ht (hf ▸ hsafe))

/-- The deck takes a state: CLOSED, or another where the safe flag is not set. -/
theorem setDeckSt_keeps {new : DeckSt} {s : State} (h : new = .closed ∨ MayOpen s) :
    Keeps s { s with dkc.st := new } where
  sizes hs := ⟨hs.pool, hs.history, hs.lists⟩
  safe hs hf := h.elim id fun h => absurd ((h hs).symm.trans hf) Bool.false_ne_true
  flag := rfl
  requests := rfl
  held := rfl
  behind := rfl
  reports := id
  account ha := ⟨ha.committed, ha.onDeck⟩

theorem changeDeck_keeps {new : DeckSt} {s : State} (h : new = .closed ∨ MayOpen s)
    (c : DeckCause) : Keeps s (changeDeck new c s) :=
  .trans (.trans (setDeckSt_keeps h) (arbitrate_keeps _)) (placeReport_keeps _ _)

theorem foldl_flushLane_st (ls : List Lane) (s : State) : (ls.foldl flushLane s).dkc.st = s.dkc.st := by
  induction ls generalizing s with
  | nil => rfl
  | cons l ls ih => rw [List.foldl_cons, ih, flushLane_dkc]; rfl

theorem flushOut_st (s : State) : (flushOut s).dkc.st = s.dkc.st := foldl_flushLane_st _ s

theorem foldl_changeRec_dkc (f : VRecord → VRecord) (ids : List Nat) (s : State) :
    (ids.foldl (fun s id => changeRec id f s) s).dkc = s.dkc := by
  induction ids generalizing s with
  | nil => rfl
  | cons id ids ih => exact ih _

theorem cancelGrants_dkc (s : State) : (cancelGrants s).dkc =
    { s.dkc with queue := s.dkc.grants.map (·.id) ++ s.dkc.queue, grants := [], committed := 0 } := by
  simp only [cancelGrants, foldl_changeRec_dkc]

theorem cancelGrants_keeps (s : State) : Keeps s (cancelGrants s) := by
  unfold cancelGrants
  extract_lets ids s1
  refine .trans (.foldl (fun s id => changeRec_keeps id _ s) ids s) (.of_deck (fun h => ⟨rfl, h.onDeck⟩) id rfl rfl rfl rfl)

/-- A flush of every lane leaves the lists empty. -/
theorem flushAll_lists (s : State) : (allLanes.foldl flushLane s).dkc.lists = Vector.replicate 3 [] := by
  simp only [allLanes, List.foldl_cons, List.foldl_nil, flushLane_dkc, releaseLoad]
  ext i hi : 1
  match i with
  | 0 | 1 | 2 => simp [put]

/-- The deck of a state whose lists are empty, made ready for RESYNC: no load, no resync owed, the timer running (R143). -/
def readyForResync (s : State) : State :=
  formOverload { s with dkc.onDeck := 0, dkc.resyncOwed := false,
                        dkc.timer := some (after s.now (secs s.sst.live.deck.resyncTime)) }

/-- The state that an entry to RESYNC leaves before the deck takes it (R143). -/
def clearedForResync (s : State) : State := readyForResync (cancelGrants (allLanes.foldl flushLane s))

theorem enterResync_eq (c : DeckCause) (s : State) : enterResync c s = changeDeck .resync c (clearedForResync s) := rfl

theorem readyForResync_keeps {s : State} (h : s.dkc.lists = Vector.replicate 3 []) : Keeps s (readyForResync s) := by
  refine (formOverload_keeps _).trans' (.of_deck (fun ha => ⟨ha.committed, ?_⟩) (fun hl => hl) rfl rfl rfl rfl)
  show 0 = (s.dkc.lists.toList.map listLoad).sum
  rw [h]
  rfl

theorem clearedForResync_keeps (s : State) : Keeps s (clearedForResync s) := by
  refine .trans (.trans (Keeps.foldl flushLane_keeps allLanes s) (cancelGrants_keeps _)) (readyForResync_keeps ?_)
  rw [cancelGrants_dkc, flushAll_lists]

theorem readyForResync_st (s : State) : (readyForResync s).dkc.st = s.dkc.st := rfl

theorem clearedForResync_st (s : State) : (clearedForResync s).dkc.st = s.dkc.st := by
  simp only [clearedForResync, readyForResync_st, cancelGrants_dkc, foldl_flushLane_st]

theorem enterResync_keeps {s : State} (h : MayOpen s) (c : DeckCause) : Keeps s (enterResync c s) :=
  have hk := clearedForResync_keeps s
  hk.trans (changeDeck_keeps (.inr (h.mono hk.flag (clearedForResync_st s))) c)

theorem enterBlind_keeps {s : State} (h : MayOpen s) (c : DeckCause) : Keeps s (enterBlind c s) := by
  have hk : Keeps s (formOverload { flushOut s with dkc.timer := none }) :=
    (flushOut_keeps s).trans ((formOverload_keeps _).afterDeck ⟨rfl, rfl, rfl, rfl, rfl⟩ rfl rfl rfl)
  exact hk.trans (changeDeck_keeps (.inr (h.mono hk.flag (flushOut_st s))) c)

theorem endResting_keeps {s : State} (h : MayOpen s) : Keeps s (endResting s) := by
  have hk : Keeps s (formOverload { s with dkc.timer := none }) :=
    (formOverload_keeps _).afterDeck ⟨rfl, rfl, rfl, rfl, rfl⟩ rfl rfl rfl
  have ho : MayOpen (formOverload { s with dkc.timer := none }) := h.mono rfl rfl
  unfold endResting
  dsimp only
  refine hk.trans ?_
  split
  · exact enterBlind_keeps ho _
  · split
    · exact enterResync_keeps ho _
    · split
      · exact changeDeck_keeps (.inr ho) _
      · exact changeDeck_keeps (.inr ho) _

theorem arbitrateUpTo_st (n : Nat) (s : State) : (arbitrateUpTo n s).dkc.st = s.dkc.st := by
  induction n generalizing s with
  | zero => rfl
  | succ n ih =>
    unfold arbitrateUpTo
    split
    · split
      · exact ih _
      · rfl
    · rfl

theorem changeDeck_st (new : DeckSt) (c : DeckCause) (s : State) : (changeDeck new c s).dkc.st = new :=
  (congrArg DkcState.st (placeReport_dkc _ _)).trans (arbitrateUpTo_st _ _)

theorem endIsolation_keeps {s : State} (h : MayOpen s) : Keeps s (endIsolation s) := by
  have ho : MayOpen { s with dkc.timer := some (after s.now (secs s.sst.live.deck.restTime)) } := h.mono rfl rfl
  have hk := (changeDeck_keeps (new := .resting) (.inr ho) .isolationEnd).afterDeck (s := s) ⟨rfl, rfl, rfl, rfl, rfl⟩ rfl rfl rfl
  unfold endIsolation
  dsimp only
  split
  · exact hk.trans (endResting_keeps (mayOpen_of_st (changeDeck_st ..) (by decide)))
  · exact hk

theorem endResync_keeps {s : State} (h : s.dkc.st = .resync) : Keeps s (endResync s) := by
  have hk : Keeps s (formOverload (desyncClear { s with dkc.timer := none })) :=
    (formOverload_keeps _).trans' ((desyncClear_keeps _).afterDeck ⟨rfl, rfl, rfl, rfl, rfl⟩ rfl rfl rfl)
  have ho : MayOpen (formOverload (desyncClear { s with dkc.timer := none })) := by
    refine mayOpen_of_st (st := .resync) ?_ (by decide)
    exact (congrArg DkcState.st (desyncClear_same _).dkc).trans h
  unfold endResync
  dsimp only
  refine hk.trans ?_
  split
  · exact changeDeck_keeps (.inr ho) _
  · split
    · exact enterBlind_keeps ho _
    · split
      · exact changeDeck_keeps (.inr ho) _
      · exact changeDeck_keeps (.inr ho) _

theorem deckReview_keeps (s : State) : Keeps s (deckReview s) := by
  have hk := formOverload_keeps s
  unfold deckReview
  dsimp only
  refine hk.trans ?_
  split
  next h =>
    split
    · exact changeDeck_keeps (.inr (mayOpen_of_st h (by decide))) _
    · exact arbitrate_keeps _
  next h =>
    split
    · exact .refl _
    · exact changeDeck_keeps (.inr (mayOpen_of_st h (by decide))) _
  next h =>
    split
    · exact .refl _
    · exact endIsolation_keeps (mayOpen_of_st h (by decide))
  · exact arbitrate_keeps _
  · exact .refl _
  · exact .refl _
  · exact .refl _

theorem blindBegins_keeps (s : State) : Keeps s (blindBegins s) := by
  unfold blindBegins
  split
  next h => exact enterBlind_keeps (mayOpen_of_st h (by decide)) _
  next h => exact enterBlind_keeps (mayOpen_of_st h (by decide)) _
  next h => exact enterBlind_keeps (mayOpen_of_st h (by decide)) _
  · exact ((flushOut_keeps _).trans (deckReview_keeps _)).afterDeck ⟨rfl, rfl, rfl, rfl, rfl⟩ rfl rfl rfl
  · exact ((flushOut_keeps _).trans (deckReview_keeps _)).afterDeck ⟨rfl, rfl, rfl, rfl, rfl⟩ rfl rfl rfl
  · exact (flushOut_keeps _).trans (deckReview_keeps _)
  · exact (flushOut_keeps _).trans (deckReview_keeps _)

theorem reviewBlind_keeps (further : Bool) (s : State) : Keeps s (reviewBlind further s) := by
  unfold reviewBlind
  extract_lets deck s1
  have hk : Keeps s s1 := .of_same ⟨rfl, rfl, rfl, rfl, rfl⟩ le_rfl (fun h => h) rfl rfl
  refine hk.trans ?_
  split
  · split
    · exact blindBegins_keeps _
    · split
      · exact (flushOut_keeps _).trans (deckReview_keeps _)
      · exact .refl _
  · split
    next h =>
      rw [Bool.and_eq_true, beq_iff_eq] at h
      exact enterResync_keeps (mayOpen_of_st (s := s1) h.2 (by decide)) _
    · exact .refl _

theorem deckLoopLost_keeps (l : Lane) (s : State) : Keeps s (deckLoopLost l s) := by
  unfold deckLoopLost
  split
  · exact .refl s
  · exact reviewBlind_keeps _ _

theorem desyncNotice_keeps (s : State) : Keeps s (desyncNotice s) := by
  unfold desyncNotice
  split
  case h_6 | h_7 => exact .refl s
  all_goals
    rename_i h
    exact enterResync_keeps (mayOpen_of_st h (by decide)) _

theorem spuriousExit_keeps (s : State) : Keeps s (spuriousExit s) := by
  unfold spuriousExit
  dsimp only
  split
  · exact (desyncCause_keeps s).trans (desyncNotice_keeps _)
  · exact desyncCause_keeps s

theorem listOverflow_keeps (s : State) : Keeps s (listOverflow s) := by
  unfold listOverflow
  dsimp only
  split
  · exact giveFault_keeps _ _ _
  next h =>
    exact (giveFault_keeps desyncIx s.now s).trans (enterResync_keeps (mayOpen_of_st rfl (by simpa using h)) _)

/-! ### Offers, withdrawals, entries and exits -/

theorem offer_keeps (id : Nat) (s : State) : Keeps s (offer id s).2 := by
  unfold offer
  split
  · exact ((changeRec_keeps _ _ _).trans (deckReview_keeps _)).afterDeck ⟨rfl, rfl, rfl, rfl, rfl⟩ rfl rfl rfl
  · exact .refl s

theorem withdraw_keeps (r : VRecord) (s : State) : Keeps s (withdraw r s) := by
  unfold withdraw
  split
  · exact (leaveQueue_keeps _ _).trans (deckReview_keeps _)
  · exact (endGrant_keeps _ _).trans (deckReview_keeps _)
  all_goals exact .refl s

theorem isolate_keeps (s : State) : Keeps s (isolate s) := by
  unfold isolate
  split
  case h_5 | h_6 | h_7 => exact .refl s
  all_goals
    rename_i h
    refine (changeDeck_keeps (.inr (MayOpen.mono (mayOpen_of_st h (by decide)) ?_ ?_)) _).afterDeck ⟨?_, ?_, ?_, ?_, ?_⟩ ?_ ?_ ?_
    all_goals rfl

/-- A change of one entry of a list moves the load of the list with that of the entry. -/
theorem listLoad_changeFirst {p : DeckEntry → Bool} {f : DeckEntry → DeckEntry} {n : Nat}
    (h : ∀ e, p e = true → heavyLoad (f e) = heavyLoad e + n) {es es' : List DeckEntry} (hes : changeFirst p f es = some es') :
    listLoad es' = listLoad es + n ∧ es'.length = es.length := by
  induction es generalizing es' with
  | nil => cases hes
  | cons e es ih =>
    rw [changeFirst] at hes
    split at hes
    next hp =>
      cases hes
      simp only [listLoad, List.map_cons, List.sum_cons, List.length_cons, h e hp, and_true]
      omega
    · obtain ⟨es1, h1, rfl⟩ := Option.map_eq_some_iff.mp hes
      obtain ⟨hload, hlen⟩ := ih h1
      simp only [listLoad, List.map_cons, List.sum_cons, List.length_cons, hlen, and_true] at hload ⊢
      omega

theorem listLoad_reverse (es : List DeckEntry) : listLoad es.reverse = listLoad es := by
  simp [listLoad]

theorem listLoad_changeLatestGhost {f : DeckEntry → DeckEntry} {n : Nat}
    (h : ∀ e, e.kind = .pending → heavyLoad (f e) = heavyLoad e + n) {es es' : List DeckEntry}
    (hes : changeLatestGhost f es = some es') : listLoad es' = listLoad es + n ∧ es'.length = es.length := by
  obtain ⟨es1, h1, rfl⟩ := Option.map_eq_some_iff.mp hes
  obtain ⟨hload, hlen⟩ := listLoad_changeFirst (n := n) (fun e he => h e (by simp_all)) h1
  rw [listLoad_reverse] at hload ⊢
  exact ⟨hload, by simpa using hlen⟩

/-- A list replaced by one of its length and a load that the on-deck load follows. -/
theorem putList_keeps {s t : State} {l : Lane} {es : List DeckEntry} {n : Nat}
    (h : listLoad es = listLoad s.dkc.lists[l] + n ∧ es.length = s.dkc.lists[l].length)
    (hl : t.dkc.lists = put s.dkc.lists l es) (ho : t.dkc.onDeck = s.dkc.onDeck + n) (hc : t.dkc.committed = s.dkc.committed)
    (hg : t.dkc.grants = s.dkc.grants) (hs : t.dkc.st = s.dkc.st)
    (hr : t.rtb = s.rtb) (hf : t.cmn.safeFlag = s.cmn.safeFlag) (hk : t.lki = s.lki) : Keeps s t := by
  obtain ⟨hload, hlen⟩ := h
  refine .of_deck (fun ha => account_put ha hc hg hl (by omega)) (fun hlists => ?_) hs hr hf hk
  rw [hl]
  exact length_put_le (hlen ▸ hlists l) hlists

theorem ghostVerdict_keeps (l : Lane) (isHeavy : Bool) (s : State) : Keeps s (ghostVerdict l isHeavy s) := by
  unfold ghostVerdict
  split
  · dsimp only
    split
    · exact .refl s
    next es h =>
      refine .trans (putList_keeps (listLoad_changeLatestGhost (n := s.sst.live.deck.unknownLoad) ?_ h) ?_ ?_ ?_ ?_ ?_ ?_ ?_ ?_)
        (deckReview_keeps _)
      · exact fun e he => by simp [heavyLoad, he]
      all_goals rfl
  · split
    · exact .refl s
    next es h =>
      refine putList_keeps (listLoad_changeLatestGhost (n := 0) ?_ h) ?_ ?_ ?_ ?_ ?_ ?_ ?_ ?_
      · exact fun e he => by simp [heavyLoad, he]
      all_goals rfl

/-- The removal of a head with the release of its load. -/
theorem releaseHead_keeps {l : Lane} {s : State} {e : DeckEntry} {es : List DeckEntry} (h : s.dkc.lists[l] = e :: es)
    (d : Disposition) : Keeps s (releaseEntry l d e { s with dkc.lists := put s.dkc.lists l es }) where
  toKeepsStores := by
    refine KeepsStores.trans ?_ (releaseEntry_keepsStores _ _ _ _)
    refine .of_deck (fun hl => length_put_le ?_ hl) rfl rfl rfl rfl
    have := hl l
    rw [h] at this
    exact (Nat.le_succ _).trans this
  account ha := by
    have hd := releaseEntry_dkc l d e { s with dkc.lists := put s.dkc.lists l es }
    refine account_put (es := es) ha (by rw [hd]; rfl) (by rw [hd]; rfl) (by rw [hd]; rfl) ?_
    have hle := listLoad_le_onDeck ha l
    rw [h] at hle ⊢
    rw [hd]
    simp only [releaseLoad, listLoad, List.map_cons, List.sum_cons] at hle ⊢
    omega

theorem removeHead_keeps (l : Lane) (d : DeckEntry → Disposition) (s : State) : Keeps s (removeHead l d s) := by
  unfold removeHead
  split
  · exact .refl s
  next e es h => exact (releaseHead_keeps h _).trans ((headChanged_keeps l _).trans (deckReview_keeps _))

theorem exitArrive_keeps (l : Lane) (s : State) : Keeps s (exitArrive l s) := by
  unfold exitArrive
  split
  · split
    · exact .refl s
    · exact spuriousExit_keeps s
  · exact removeHead_keeps ..

end Sys2Proof.Machine
end

section
/-! SUPPORT. The operations beyond the deck keep the invariants of the stores: weighing and deciding, assemblers, strips, zeroing, loops, lanes
and the link. -/

namespace Sys2Proof.Machine

open Sys2Proof.Safety

theorem changeLas_keeps (l : Lane) (f : LasState → LasState) (s : State) : Keeps s (changeLas l f s) := .of_rest rfl rfl rfl rfl

/-! ### Weighing and deciding -/

theorem storePulse_keeps (c : Chan) (t : Time) (b : Bool) (sp : List Sample) (s : State) : Keeps s (storePulse c t b sp s) := by
  unfold storePulse
  dsimp only
  split
  · exact .refl s
  · exact .of_rest rfl rfl rfl rfl

theorem idNotice_keeps (c : Chan) (t : Time) (id : Nat) (s : State) : Keeps s (idNotice c t id s) := by
  unfold idNotice
  split <;> exact .of_rest rfl rfl rfl rfl

theorem divertNotice_keeps (id : Nat) (s : State) : Keeps s (divertNotice id s) := by
  unfold divertNotice
  split
  · refine Keeps.trans ?_ (placeReport_keeps _ _)
    exact .of_rest rfl rfl rfl rfl
  · exact .refl s

theorem expireRecord_keeps (id : Nat) (s : State) : Keeps s (expireRecord id s) := by
  unfold expireRecord
  split
  · exact .refl s
  · exact (withdraw_keeps _ _).trans (closeRecord_keeps _ _ _)

theorem offerDecision_keeps (id : Nat) (d : Decision) (r : Reasons) (s : State) : Keeps s (offerDecision id d r s).2.2 := by
  unfold offerDecision
  split
  · dsimp only
    split
    · exact offer_keeps _ _
    · exact offer_keeps _ _
  · exact .refl s
  · exact .refl s

theorem startCamera_keeps (l : Lane) (s : State) : Keeps s (startCamera l s) := by
  unfold startCamera
  split
  · exact .of_rest rfl rfl rfl rfl
  · exact .refl s

theorem divertHandOff_keeps (r : VRecord) (s : State) : Keeps s (divertHandOff r s) := by
  unfold divertHandOff
  split
  · exact (divertNotice_keeps _ _).trans (startCamera_keeps _ _)
  · exact .refl s

theorem updateSnapshot_keeps (r : VRecord) (s : State) : Keeps s (updateSnapshot r s) := by
  unfold updateSnapshot
  split
  · exact .refl s
  · exact .of_rest rfl rfl rfl rfl

theorem countDecision_keeps (r : VRecord) (s : State) : Keeps s (countDecision r s) := .of_rest rfl rfl rfl rfl

theorem expireAtDecision_keeps (id : Nat) (s : State) : Keeps s (expireAtDecision id s) := by
  unfold expireAtDecision
  split
  · split
    · exact (expireRecord_keeps _ _)
    · exact .refl s
  · exact .refl s

theorem decideRecord_keeps (id : Nat) (s : State) : Keeps s (decideRecord id s) := by
  unfold decideRecord
  split
  · exact .refl s
  · extract_lets st
    split
    split
    split
    rename_i d0 reasons0 _ _ d reasons s1 heq
    have h1 : Keeps s s1 := by
      have h := offerDecision_keeps id d0 reasons0 s
      rw [heq] at h
      exact h
    extract_lets s2
    have h2 : Keeps s s2 := (h1.trans ((changeRec_keeps id _ _).trans (leavePending_keeps id _)))
    split
    · exact h2
    · extract_lets s3 s4
      exact h2.trans ((enterApproach_keeps _ _ _).trans ((placeReport_keeps _ _).trans
        ((countDecision_keeps _ _).trans ((divertHandOff_keeps _ _).trans
          ((updateSnapshot_keeps _ _).trans (expireAtDecision_keeps _ _))))))

theorem giveSamples_keeps (l : Lane) (bs : List Bool) (s : State) : Keeps s (giveSamples l bs s) :=
  Keeps.foldl (fun s b => agreementSample_keeps l b s) bs s

theorem weighRecord_keeps (id : Nat) (s : State) : Keeps s (weighRecord id s) := by
  unfold weighRecord
  split
  · exact .refl s
  · exact (changeRec_keeps _ _ _).trans (giveSamples_keeps _ _ _)

theorem finishRecord_keeps (id : Nat) (s : State) : Keeps s (finishRecord id s) := by
  unfold finishRecord
  split
  · exact .refl s
  · exact changeRec_keeps _ _ _

theorem weighAndDecide_keeps (id : Nat) (s : State) : Keeps s (weighAndDecide id s) :=
  ((weighRecord_keeps id s).trans (finishRecord_keeps id _)).trans (decideRecord_keeps id _)

theorem decideSuspect_keeps (id : Nat) (s : State) : Keeps s (decideSuspect id s) :=
  ((leavePending_keeps id s).trans (changeRec_keeps id _ _)).trans (weighAndDecide_keeps id _)

/-! ### Assemblers -/

theorem mergeRecords_keeps (y x : Nat) (s : State) : Keeps s (mergeRecords y x s) := by
  have h := (weighRecord_keeps y s).trans (weighRecord_keeps x _)
  unfold mergeRecords
  dsimp only
  split
  · refine h.trans (Keeps.trans ?_ (decideRecord_keeps _ _))
    refine (Keeps.trans ?_ (finishRecord_keeps _ _))
    exact ((changeRec_keeps _ _ _).trans (leavePending_keeps _ _)).trans (closeRecord_keeps _ _ _)
  · exact h

theorem mergeOrPart_keeps (y x : VRecord) (s : State) : Keeps s (mergeOrPart y x s) := by
  unfold mergeOrPart
  split
  · exact mergeRecords_keeps _ _ _
  · exact (decideSuspect_keeps _ _).trans (decideSuspect_keeps _ _)

theorem straddleCheck_keeps (id : Nat) (s : State) : Keeps s (straddleCheck id s) := by
  unfold straddleCheck
  split
  · exact .refl s
  · dsimp only
    split
    · exact (mergeOrPart_keeps _ _ _).trans (Keeps.foldl (fun s o => decideSuspect_keeps o s) _ _)
    · split
      · exact weighAndDecide_keeps _ _
      · split
        · exact ((changeRec_keeps _ _ _).trans (changeLas_keeps _ _ _))
        · exact weighAndDecide_keeps _ _

theorem completeClose_keeps (s : State) (v : SealedVehicle) : Keeps s (completeClose s v) := by
  unfold completeClose
  split
  · exact (changeRec_keeps _ _ _).trans (straddleCheck_keeps _ _)
  · exact .refl s
  · exact .refl s

theorem completeCloses_keeps (l : Lane) (s : State) : Keeps s (completeCloses l s) :=
  (changeLas_keeps l _ s).trans (Keeps.foldl completeClose_keeps _ _)

theorem sealOpen_keeps (l : Lane) (s : State) : Keeps s (sealOpen l s) := by
  unfold sealOpen
  split
  · exact .refl s
  · split
    · exact (changeLas_keeps _ _ _)
    · exact (changeLas_keeps _ _ _).trans (completeCloses_keeps _ _)
    · exact (changeLas_keeps _ _ _).trans (completeCloses_keeps _ _)

theorem orphan_keeps (l : Lane) (e : FifoEntry) (s : State) : Keeps s (orphan l e s) := by
  have ha : ∀ u, Keeps u (orphanAxle e u) := fun u => by
    unfold orphanAxle
    split
    · exact (changeRec_keeps _ _ _).trans (changeRec_keeps _ _ _)
    · exact .refl _
  have hc : ∀ c n u, Keeps u (silentCause c n u) := fun c n u => (giveGraded_keeps _ _ _ _)
  exact ((changeLas_keeps l _ s).trans ((hc _ _ _).trans (ha _))).trans (completeCloses_keeps _ _)

theorem orphanFirst_keeps (l : Lane) (p : FifoEntry → Bool) (s : State) : Keeps s (orphanFirst l p s) := by
  unfold orphanFirst
  split
  · exact .refl s
  · exact (changeLas_keeps _ _ _).trans (orphan_keeps _ _ _)

theorem orphanWaiting_keeps (n : Nat) (l : Lane) (s : State) : Keeps s (orphanWaiting n l s) := by
  induction n generalizing s with
  | zero => exact .refl s
  | succ n ih =>
    unfold orphanWaiting
    split
    · exact (orphanFirst_keeps _ _ _).trans (ih _)
    · exact .refl s

theorem enterHit_keeps (l : Lane) (h : Hit) (v : OpenVehicle) (a : Option Nat) (s : State) : Keeps s (enterHit l h v a s) :=
  (changeLas_keeps l _ s).trans (idNotice_keeps _ _ _ _)

theorem firstHit_keeps (l : Lane) (h : Hit) (v : OpenVehicle) (s : State) : Keeps s (firstHit l h v s) := by
  unfold firstHit
  dsimp only
  split
  · exact (openRecord_keeps ‹_›).trans (enterHit_keeps _ _ _ _ _)
  · exact (giveFault_keeps _ _ _).trans (enterHit_keeps _ _ _ _ _)

theorem laterHit_keeps (l : Lane) (h : Hit) (v : OpenVehicle) (s : State) : Keeps s (laterHit l h v s) := by
  unfold laterHit
  split
  · dsimp only
    split
    · exact (changeRec_keeps _ _ _).trans (enterHit_keeps _ _ _ _ _)
    · exact (changeRec_keeps _ _ _).trans (enterHit_keeps _ _ _ _ _)
  · exact enterHit_keeps _ _ _ _ _
  · exact enterHit_keeps _ _ _ _ _

theorem openWith_keeps (l : Lane) (b : Bool) (h : Hit) (s : State) : Keeps s (openWith l b h s) :=
  (changeLas_keeps l _ s).trans (firstHit_keeps _ _ _ _)

theorem takeS1_keeps (l : Lane) (h : Hit) (s : State) : Keeps s (takeS1 l h s) := by
  have h1 : Keeps s (makeFifoRoom l s) := by
    unfold makeFifoRoom
    split
    · exact orphanFirst_keeps _ _ _
    · exact .refl s
  unfold takeS1
  dsimp only
  split
  · exact h1.trans (openWith_keeps _ _ _ _)
  · split
    · exact h1.trans (firstHit_keeps _ _ _ _)
    all_goals
      split
      · exact h1.trans ((sealOpen_keeps _ _).trans (openWith_keeps _ _ _ _))
      · exact h1.trans (laterHit_keeps _ _ _ _)

theorem takeS2_keeps (l : Lane) (h : Hit) (s : State) : Keeps s (takeS2 l h s) := by
  have ha : ∀ e a v u, Keeps u (pairAxle e a v u) := fun e a v u => by
    unfold pairAxle
    split
    · exact changeRec_keeps _ _ _
    · exact .refl _
  have hc : ∀ c n u, Keeps u (silentCause c n u) := fun c n u => (giveGraded_keeps _ _ _ _)
  unfold takeS2
  split
  · exact ((changeLas_keeps l _ s).trans (ha _ _ _ _)).trans
      ((idNotice_keeps _ _ _ _).trans (completeCloses_keeps _ _))
  · exact (changeLas_keeps l _ s).trans ((hc _ _ _).trans (idNotice_keeps _ _ _ _))

theorem lasArrive_keeps (l : Lane) (t : Time) (s : State) : Keeps s (lasArrive l t s) := by
  have h : ∀ u, Keeps u (openCovered l u) := fun u => (changeLas_keeps l _ u).trans (changeLas_keeps l _ _)
  unfold lasArrive
  split
  · exact h s
  · split
    · exact (changeLas_keeps _ _ _)
    · exact (sealOpen_keeps _ _).trans (h _)

theorem lasDepart_keeps (l : Lane) (s : State) : Keeps s (lasDepart l s) := by
  unfold lasDepart
  split
  · exact sealOpen_keeps _ _
  · exact .refl s

theorem flagSuspect_keeps (s : State) (id : Nat) : Keeps s (flagSuspect s id) := changeRec_keeps id _ s

theorem abandonLanes_keeps (lanes : List Lane) (s : State) : Keeps s (abandonLanes lanes s) := by
  unfold abandonLanes
  dsimp only
  refine Keeps.trans ?_ (Keeps.foldl (fun s id => decideSuspect_keeps id s) _ _)
  refine (Keeps.trans ?_ (Keeps.foldl flagSuspect_keeps _ _))
  exact (Keeps.foldl (fun s l => changeLas_keeps l _ s) _ _).trans
    (Keeps.foldl (fun s id => closeRecord_keeps id .abandoned s) _ _)

/-! ### Strip channels and zeroing -/

theorem changeScu_keeps (c : Chan) (f : ScuState → ScuState) (s : State) : Keeps s (changeScu c f s) := .of_rest rfl rfl rfl rfl
theorem changeZero_keeps (c : Chan) (f : ZeroChan → ZeroChan) (s : State) : Keeps s (changeZero c f s) := .of_rest rfl rfl rfl rfl

theorem abandonZero_keeps (s : State) : Keeps s (abandonZero s) := by
  unfold abandonZero
  split
  · exact .of_rest rfl rfl rfl rfl
  · exact .refl s

theorem abandonLaneZero_keeps (l : Lane) (s : State) : Keeps s (abandonLaneZero l s) := by
  unfold abandonLaneZero
  split
  · exact abandonZero_keeps s
  · exact .refl s

theorem gradeNotices_keeps (c : Chan) (old new : ZeroGrade) (s : State) : Keeps s (gradeNotices c old new s) := by
  unfold gradeNotices
  dsimp only
  split
  · exact giveCause_keeps _ _ _
  · exact (giveCause_keeps _ _ _).trans (giveFault_keeps _ _ _)
  · exact giveFault_keeps _ _ _
  · exact giveClear_keeps _ _
  · exact giveClear_keeps _ _
  · exact (giveClear_keeps _ _).trans (giveCause_keeps _ _ _)
  all_goals exact .refl _

theorem gradeChannel_keeps (c : Chan) (s : State) : Keeps s (gradeChannel c s) :=
  (changeZero_keeps c _ s).trans (gradeNotices_keeps _ _ _ _)

theorem gradeAll_keeps (s : State) : Keeps s (gradeAll s) := by
  refine Keeps.foldl (fun s c => ?_) _ s
  split
  · exact .refl s
  · exact gradeChannel_keeps c s

theorem zeroSample_keeps (c : Chan) (v : Int) (b : Bool) (s : State) : Keeps s (zeroSample c v b s) := by
  unfold zeroSample
  split
  · exact .refl s
  · split
    · exact .refl s
    · split
      · exact abandonZero_keeps s
      · dsimp only
        split
        · unfold endMeasurement
          dsimp only
          have h : ∀ m, Keeps s (clearMeasurement m s) := fun m => .of_rest rfl rfl rfl rfl
          split
          · exact h _
          · split
            · exact (h _).trans ((changeZero_keeps _ _ _).trans (giveGraded_keeps _ _ _ _))
            · unfold acceptZero
              dsimp only
              split
              · exact (h _).trans (changeZero_keeps _ _ _)
              · exact (h _).trans ((changeZero_keeps _ _ _).trans (gradeChannel_keeps _ _))
        · exact .of_rest rfl rfl rfl rfl

theorem zeroLaneClosed_keeps (l : Lane) (s : State) : Keeps s (zeroLaneClosed l s) := by
  have h : ∀ c u, Keeps u (stopGrading c u) := fun c u => by
    unfold stopGrading
    dsimp only
    split
    · exact (changeZero_keeps _ _ _).trans (giveClear_keeps _ _)
    · exact changeZero_keeps _ _ _
  exact (abandonLaneZero_keeps l s).trans ((h _ _).trans (h _ _))

theorem zeroLaneOpened_keeps (l : Lane) (s : State) : Keeps s (zeroLaneOpened l s) :=
  (abandonLaneZero_keeps l s).trans ((gradeChannel_keeps _ _).trans (gradeChannel_keeps _ _))

theorem pulseOver_keeps (c : Chan) (s : State) : Keeps s (pulseOver c s) := by
  unfold pulseOver
  split
  · exact orphanWaiting_keeps _ _ _
  · exact .refl s

theorem handHit_keeps (c : Chan) (h : Hit) (s : State) : Keeps s (handHit c h s) := by
  unfold handHit
  split
  · exact takeS2_keeps _ _ _
  · exact takeS1_keeps _ _ _

theorem endTail_keeps (c : Chan) (t : Time) (s : State) : Keeps s (endTail c t s) := by
  unfold endTail
  dsimp only
  split
  · exact (changeScu_keeps _ _ _).trans (pulseOver_keeps _ _)
  · exact (changeScu_keeps _ _ _).trans
      ((storePulse_keeps _ _ _ _ _).trans ((handHit_keeps _ _ _).trans (pulseOver_keeps _ _)))

theorem stickPulse_keeps (c : Chan) (s : State) : Keeps s (stickPulse c s) :=
  (changeScu_keeps _ _ s).trans
    ((storePulse_keeps _ _ _ _ _).trans ((giveGraded_keeps _ _ _ _).trans (pulseOver_keeps _ _)))

theorem detectorSample_keeps (c : Chan) (t : Time) (v : Int) (b : Bool) (s : State) : Keeps s (detectorSample c t v b s) := by
  have hc : ∀ u, Keeps u (judgeCount c u) := fun u => by
    unfold judgeCount
    split
    · exact stickPulse_keeps _ _
    · exact .refl u
  have ht : ∀ u, Keeps u (judgeTail c t u) := fun u => by
    unfold judgeTail
    split
    · exact endTail_keeps _ _ _
    · exact .refl u
  unfold detectorSample
  dsimp only
  split
  · exact .refl s
  · split
    · exact (changeScu_keeps _ _ _).trans (abandonLaneZero_keeps _ _)
    · exact .refl s
  · split
    · exact (changeScu_keeps _ _ _).trans (hc _)
    · exact (changeScu_keeps _ _ _).trans (ht _)
  · split
    · exact (changeScu_keeps _ _ _).trans (hc _)
    · exact (changeScu_keeps _ _ _).trans (ht _)
  · split
    · exact .refl s
    · exact changeScu_keeps _ _ _

theorem detectorOff_keeps (c : Chan) (s : State) : Keeps s (detectorOff c s) := by
  unfold detectorOff
  dsimp only
  split
  · exact (changeScu_keeps _ _ _).trans ((storePulse_keeps _ _ _ _ _).trans (pulseOver_keeps _ _))
  · exact (changeScu_keeps _ _ _).trans ((storePulse_keeps _ _ _ _ _).trans (pulseOver_keeps _ _))
  all_goals exact changeScu_keeps _ _ _

theorem detectorOn_keeps (c : Chan) (s : State) : Keeps s (detectorOn c s) := by
  unfold detectorOn
  split
  · exact changeScu_keeps _ _ _
  · exact .refl s

theorem shutLane_keeps (l : Lane) (s : State) : Keeps s (shutLane l s) :=
  (detectorOff_keeps _ s).trans ((detectorOff_keeps _ _).trans (zeroLaneClosed_keeps _ _))

end Sys2Proof.Machine
end

section
/-! SUPPORT. Every command keeps the invariants of the stores: conversions, arrivals, loops, commits and requests, and the proofs of the
invariants of the step. -/

namespace Sys2Proof.Machine

open Sys2Proof.Safety

/-! ### Conversions -/

theorem zeroScanTick_keeps (s : State) : Keeps s (zeroScanTick s) := by
  unfold zeroScanTick
  split
  · split
    · exact .refl s
    · exact abandonZero_keeps s
  · unfold selectMeasurement
    split
    · exact .of_rest rfl rfl rfl rfl
    · exact .refl s

theorem takeTemperature_keeps (norm : Int) (s : State) : Keeps s (takeTemperature norm s) := by
  unfold takeTemperature
  dsimp only
  split
  · exact (tempLostClear_keeps _).after rfl rfl rfl rfl
  · exact .of_rest rfl rfl rfl rfl

theorem checkReference_keeps (norm : Int) (s : State) : Keeps s (checkReference norm s) := by
  unfold checkReference
  dsimp only
  split
  · exact .of_rest rfl rfl rfl rfl
  · exact (giveGraded_keeps _ _ _ _).after rfl rfl rfl rfl

theorem routeSample_keeps (c : Fin 8) (norm : Int) (missing : Bool) (s : State) : Keeps s (routeSample c norm missing s) := by
  unfold routeSample
  split
  · exact (detectorSample_keeps _ _ _ _ s).trans (zeroSample_keeps _ _ _ _)
  · split
    · exact .refl s
    · split
      · exact takeTemperature_keeps _ _
      · exact checkReference_keeps _ _

theorem takeSlot_keeps (ans : Option ConvAnswer) (s : State) : Keeps s (takeSlot ans s) := by
  unfold takeSlot
  split
  · exact .refl s
  · unfold takeSample
    split
    · exact (routeSample_keeps _ _ _ _).after rfl rfl rfl rfl
    · exact ((convLinkCause_keeps _ _).trans (routeSample_keeps _ _ _ _)).after rfl rfl rfl rfl

theorem takeSingle_keeps (ans : Option ConvAnswer) (s : State) : Keeps s (takeSingle ans s) := by
  unfold takeSingle
  split
  · exact .refl s
  · dsimp only
    split
    · exact ((placeReport_keeps _ _).trans (convLinkCause_keeps _ _)).after rfl rfl rfl rfl
    · exact (placeReport_keeps _ _).after rfl rfl rfl rfl

/-! ### Arrivals at the deck -/

theorem slipArrive_keeps (t : Time) (s : State) : Keeps s (slipArrive t s) := by
  unfold slipArrive
  split
  · exact .refl s
  · split
    · exact closeRecord_keeps _ _ _
    · exact (withdraw_keeps _ _).trans (closeRecord_keeps _ _ _)

@[simp] theorem endGrant_lists (id : Nat) (s : State) : (endGrant id s).dkc.lists = s.dkc.lists := by
  unfold endGrant
  split <;> rfl

theorem boardHeavy_keeps {l : Lane} {s : State} (h : s.dkc.lists[l].length < 32) (t : Time) (r : VRecord) (load : Nat)
    (admitted noncompliant : Bool) : Keeps s (boardHeavy l t r load admitted noncompliant s) := by
  unfold boardHeavy
  extract_lets adm
  have hrec := (leaveApproach_keeps r.id s).trans (changeRec_keeps r.id (boardRecord l adm) _)
  exact hrec.trans (enterDeck_keeps (s := changeRec _ _ (leaveApproach _ s)) h _)

theorem enterHeavy_keeps {l : Lane} {s : State} (h : s.dkc.lists[l].length < 32) (t : Time) (r : VRecord) :
    Keeps s (enterHeavy l t r s) := by
  unfold enterHeavy
  split
  · exact ((endGrant_keeps _ s).trans (boardHeavy_keeps (by simpa using h) _ _ _ _ _)).trans (deckReview_keeps _)
  all_goals
    refine ((leaveQueue_keeps r.id s).trans (boardHeavy_keeps (s := leaveQueue r.id s) h t r (r.upper.getD 0) false false)).trans ?_
    exact (deckReview_keeps _).after rfl rfl rfl rfl

theorem enterDivert_keeps {l : Lane} {s : State} (h : s.dkc.lists[l].length < 32) (t : Time) (r : VRecord) :
    Keeps s (enterDivert l t r s) := by
  have hcount : ∀ k f u, Keeps u (countLane k f u) := fun _ _ _ => .of_rest rfl rfl rfl rfl
  refine (boardHeavy_keeps h t r (divertLoad s r) false true).trans ?_
  refine .trans ?_ (((hcount _ _ _).trans (isolate_keeps _)).trans (deckReview_keeps _))
  exact (noncomplianceCause_keeps _ _ _).after rfl rfl rfl rfl

theorem refuseArrival_keeps (l : Lane) (r : VRecord) (s : State) : Keeps s (refuseArrival l r s) := by
  unfold refuseArrival
  extract_lets s1 d
  have h1 : Keeps s s1 := by
    cases hr : r.admission <;> simp only [s1, hr]
    case granted => exact endGrant_keeps _ _
    case queued => exact leaveQueue_keeps _ _
    all_goals exact .refl s
  exact ((h1.trans (changeRec_keeps _ _ _)).trans (closeRecord_keeps _ _ _)).trans (listOverflow_keeps _)

theorem lists_length_lt {l : Lane} {s : State} (h : ¬ listIsFull s l = true) : s.dkc.lists[l].length < 32 := by
  rw [listIsFull, decide_eq_true_iff] at h
  exact Nat.lt_of_not_le h

theorem matchedArrival_keeps (l : Lane) (t : Time) (r : VRecord) (s : State) : Keeps s (matchedArrival l t r s) := by
  unfold matchedArrival
  split
  · exact refuseArrival_keeps _ _ _
  next h =>
    extract_lets s1
    have h : s1.dkc.lists[l].length < 32 := lists_length_lt h
    refine (changeRec_keeps r.id (fun x => { x with deckLane := some l }) s).trans ?_
    show Keeps s1 _
    split
    · exact enterDivert_keeps h _ _
    · exact enterHeavy_keeps h _ _
    all_goals exact ((enterDeck_keeps h _).trans (deckReview_keeps _)).trans (closeRecord_keeps _ _ _)

theorem unmatchedArrival_keeps (l : Lane) (t : Time) (s : State) : Keeps s (unmatchedArrival l t s) := by
  unfold unmatchedArrival
  split
  · exact listOverflow_keeps _
  next h => exact (enterDeck_keeps (lists_length_lt h) _).trans ((deckReview_keeps _).after rfl rfl rfl rfl)

theorem thresholdArrive_keeps (l : Lane) (t : Time) (s : State) : Keeps s (thresholdArrive l t s) := by
  unfold thresholdArrive
  split
  · exact matchedArrival_keeps _ _ _ _
  · exact unmatchedArrival_keeps _ _ _

theorem settleGhost_keeps (l : Lane) (isHeavy : Bool) (s : State) : Keeps s (settleGhost l isHeavy s) :=
  (ghostVerdict_keeps _ _ _).after rfl rfl rfl rfl

theorem thresholdLost_keeps (l : Lane) (s : State) : Keeps s (thresholdLost l s) := by
  have hfree : Keeps s (useFree s) := .of_rest rfl rfl rfl rfl
  unfold thresholdLost
  split
  · exact deckLoopLost_keeps _ _
  · split
    · exact settleGhost_keeps _ _ _
    · split
      · exact hfree.trans ((settleGhost_keeps _ _ _).trans (deckLoopLost_keeps _ _))
      · exact hfree.trans ((deckLoopLost_keeps _ _).trans (settleGhost_keeps _ _ _))

/-! ### Loops -/

theorem changeLoop_keeps (l : Loop) (f : LoopState → LoopState) (s : State) : Keeps s (changeLoop l f s) :=
  .of_rest rfl rfl rfl rfl

theorem changeDeb_keeps (i : Input) (f : Debounce → Debounce) (s : State) : Keeps s (changeDeb i f s) :=
  .of_rest rfl rfl rfl rfl

theorem serviceLost_keeps (l : Loop) (s : State) : Keeps s (serviceLost l s) := by
  unfold serviceLost
  refine (changeLoop_keeps l (fun x => { x with announced := false }) s).trans ?_
  split
  · exact .of_rest rfl rfl rfl rfl
  · exact thresholdLost_keeps _ _
  · exact deckLoopLost_keeps _ _
  · exact .refl _

theorem serviceChange_keeps (l : Loop) (was : Bool) (s : State) : Keeps s (serviceChange l was s) := by
  unfold serviceChange
  split
  · exact serviceLost_keeps _ _
  · split
    · unfold serviceGained
      split
      · exact reviewBlind_keeps _ _
      · exact reviewBlind_keeps _ _
      all_goals exact .refl s
    · exact .refl s

theorem chatterDetection_keeps (l : Loop) (s : State) : Keeps s (chatterDetection l s) := by
  unfold chatterDetection
  split
  · exact (changeLoop_keeps l _ s).trans (giveCause_keeps _ _ _)
  · dsimp only
    split
    · exact (changeLoop_keeps l _ s).trans ((giveFault_keeps _ _ _).trans (serviceChange_keeps _ _ _))
    · exact changeLoop_keeps l _ s

theorem chatterEdge_keeps (l : Loop) (s : State) : Keeps s (chatterEdge l s) := by
  unfold chatterEdge
  dsimp only
  split
  · exact (changeLoop_keeps l _ s).trans (chatterDetection_keeps _ _)
  · exact changeLoop_keeps l _ s

theorem observe_keeps (i : Input) (level : Bool) (s : State) : Keeps s (observe i level s) := by
  unfold observe
  dsimp only
  split
  · unfold takeEdge
    dsimp only
    split
    · exact ((changeDeb_keeps _ _ _).trans (chatterEdge_keeps _ _)).after rfl rfl rfl rfl
    · exact (changeDeb_keeps _ _ _).after rfl rfl rfl rfl
  · exact .of_rest rfl rfl rfl rfl

theorem presenceArrive_keeps (l : Lane) (t : Time) (s : State) : Keeps s (presenceArrive l t s) := by
  unfold presenceArrive
  split
  · exact (abandonLaneZero_keeps _ _).trans (giveCause_keeps _ _ _)
  · exact ((changeLoop_keeps _ _ s).trans (lasArrive_keeps _ _ _)).trans (abandonLaneZero_keeps _ _)

theorem handArrive_keeps (l : Loop) (t : Time) (s : State) : Keeps s (handArrive l t s) := by
  unfold handArrive
  dsimp only
  split
  · exact presenceArrive_keeps _ _ _
  · exact (changeLoop_keeps _ _ s).trans (thresholdArrive_keeps _ _ _)
  · exact (changeLoop_keeps _ _ s).trans (exitArrive_keeps _ _)
  · exact (changeLoop_keeps _ _ s).trans (slipArrive_keeps _ _)

theorem loopArrive_keeps (l : Loop) (t : Time) (s : State) : Keeps s (loopArrive l t s) := by
  unfold loopArrive
  dsimp only
  split
  · exact (changeLoop_keeps _ _ s).trans (handArrive_keeps _ _ _)
  · exact changeLoop_keeps _ _ s

theorem handDepart_keeps (l : Loop) (n : Nat) (s : State) : Keeps s (handDepart l n s) := by
  unfold handDepart
  split
  · split
    · exact .refl s
    · exact lasDepart_keeps _ _
  · unfold thresholdDepart
    split
    · exact settleGhost_keeps _ _ _
    · exact .refl s
  all_goals exact .refl s

theorem endStuck_keeps (l : Loop) (s : State) : Keeps s (endStuck l s) := by
  unfold endStuck
  dsimp only
  split
  · exact .refl s
  · exact (changeLoop_keeps _ _ s).trans ((giveClear_keeps _ _).trans (serviceChange_keeps _ _ _))

theorem loopDepart_keeps (l : Loop) (t : Time) (s : State) : Keeps s (loopDepart l t s) := by
  unfold loopDepart
  dsimp only
  refine .trans ?_ (endStuck_keeps _ _)
  split
  · exact (changeLoop_keeps _ _ s).trans (handDepart_keeps _ _ _)
  · exact changeLoop_keeps _ _ s

theorem keyChange_keeps (level : Bool) (s : State) : Keeps s (keyChange level s) := by
  unfold keyChange
  split
  · exact .of_rest rfl rfl rfl rfl
  · exact .refl s

theorem debouncedEvent_keeps (i : Input) (level : Bool) (t : Time) (s : State) : Keeps s (debouncedEvent i level t s) := by
  unfold debouncedEvent
  split
  · split
    · exact loopArrive_keeps _ _ _
    · exact loopDepart_keeps _ _ _
  · split
    · exact keyChange_keeps _ _
    · split
      · unfold takeFreeze
        split
        · exact .refl s
        · exact .of_rest rfl rfl rfl rfl
      · exact .refl s

theorem acceptCandidate_keeps (i : Input) (s : State) : Keeps s (acceptCandidate i s) := by
  unfold acceptCandidate
  split
  · exact .refl s
  · exact (changeDeb_keeps _ _ s).trans (debouncedEvent_keeps _ _ _ _)

/-! ### Lanes and commits -/

theorem closeLane_keeps (l : Lane) (s : State) : Keeps s (closeLane l s) :=
  (((abandonLanes_keeps _ _).trans (shutLane_keeps _ _)).trans (reviewBlind_keeps _ _)).after rfl rfl rfl rfl

theorem openLane_keeps (l : Lane) (s : State) : Keeps s (openLane l s) := by
  have hrevive : ∀ u, Keeps u (reviveLane l u) := fun u =>
    (((detectorOn_keeps _ u).trans (detectorOn_keeps _ _)).trans (zeroLaneOpened_keeps _ _)).trans (changeLoop_keeps _ _ _)
  exact ((hrevive _).trans (reviewBlind_keeps _ _)).after rfl rfl rfl rfl

theorem clearLoopConditions_keeps (x : LoopState) (l : Loop) (s : State) : Keeps s (clearLoopConditions x l s) := by
  have hstuck : Keeps s (if x.stuck == .none then s else giveClear (loopStuckIx l) s) := by
    split
    · exact .refl s
    · exact giveClear_keeps _ _
  unfold clearLoopConditions
  dsimp only
  split
  · exact hstuck.trans (giveClear_keeps _ _)
  · exact hstuck

theorem commitLoop_keeps (old : Settings) (s : State) (l : Loop) : Keeps s (commitLoop old s l) := by
  unfold commitLoop
  dsimp only
  split
  · exact ((changeLoop_keeps _ _ s).trans (changeDeb_keeps _ _ _)).trans
      ((clearLoopConditions_keeps _ _ _).trans (serviceChange_keeps _ _ _))
  · exact ((changeLoop_keeps _ _ s).trans (changeDeb_keeps _ _ _)).trans (serviceChange_keeps _ _ _)
  · split
    · unfold rereadLoop
      dsimp only
      split
      · exact changeDeb_keeps _ _ _
      · exact .refl s
    · exact .refl s
  · exact .refl s

theorem flushAbsent_keeps (l : Lane) (s : State) : Keeps s (flushAbsent l s) := by
  have hfree : Keeps s (useFree s) := .of_rest rfl rfl rfl rfl
  unfold flushAbsent
  split
  · split
    · exact hfree.trans ((settleGhost_keeps _ _ _).trans (flushLane_keeps _ _))
    · exact hfree.trans ((flushLane_keeps _ _).trans (settleGhost_keeps _ _ _))
  · exact flushLane_keeps _ _

theorem dropLane_keeps (wasClosed : Bool) (l : Lane) (s : State) : Keeps s (dropLane wasClosed l s) := by
  unfold dropLane
  dsimp only
  refine .trans ?_ (flushAbsent_keeps _ _)
  split
  · exact (abandonLaneZero_keeps _ _).after rfl rfl rfl rfl
  · exact (shutLane_keeps _ _).after rfl rfl rfl rfl

theorem commitLane_keeps (old : Settings) (modes : Vector LaneMode 3) (s : State) (l : Lane) :
    Keeps s (commitLane old modes s l) := by
  unfold commitLane
  split
  · exact dropLane_keeps _ _ _
  · exact .of_rest rfl rfl rfl rfl
  all_goals exact .refl s

/-- A change of entries that leaves their kinds and loads leaves the load of their list. -/
theorem listLoad_map {f : DeckEntry → DeckEntry} (h : ∀ e, heavyLoad (f e) = heavyLoad e) (es : List DeckEntry) :
    listLoad (es.map f) = listLoad es := by
  simp only [listLoad, List.map_map]
  exact congrArg List.sum (List.map_congr_left fun e _ => h e)

/-- The account and the capacities where every list has its entries changed, their loads left. -/
theorem mapLists_keeps {f : DeckEntry → DeckEntry} (h : ∀ e, heavyLoad (f e) = heavyLoad e) {s t : State}
    (hl : t.dkc.lists = mapVec (fun es => es.map f) s.dkc.lists) (ho : t.dkc.onDeck = s.dkc.onDeck)
    (hc : t.dkc.committed = s.dkc.committed) (hg : t.dkc.grants = s.dkc.grants) (hs : t.dkc.st = s.dkc.st)
    (hp : t.rtb.pool.length ≤ s.rtb.pool.length) (hh : t.rtb.history = s.rtb.history) (hf : t.cmn.safeFlag = s.cmn.safeFlag)
    (hk : t.lki = s.lki) : Keeps s t where
  sizes hz := by
    refine ⟨hp.trans hz.pool, hh ▸ hz.history, fun l => ?_⟩
    rw [hl, mapVec_getElem, List.length_map]
    exact hz.lists l
  safe hz ht := hs.trans (hz (hf ▸ ht))
  flag := hf
  requests := hk ▸ rfl
  held := hk ▸ rfl
  behind := hk ▸ rfl
  reports := hk ▸ id
  account ha := by
    refine ⟨by rw [hc, hg, ha.committed], ?_⟩
    rw [ho, hl, ha.onDeck]
    have hget : ∀ l : Lane, (mapVec (fun es => es.map f) s.dkc.lists)[l] = s.dkc.lists[l].map f := mapVec_getElem _ _
    simp only [toList_three, hget, List.map_cons, List.map_nil, listLoad_map h]

theorem commitOverstay_keeps (old : Settings) (s : State) : Keeps s (commitOverstay old s) := by
  unfold commitOverstay
  split
  · refine mapLists_keeps (f := fun e =>
      { e with aged := e.agedFull || passed s.now e.entryTime (secs s.sst.live.deck.overstay) }) (fun e => ?_) ?_ ?_ ?_ ?_ ?_ le_rfl ?_ ?_ ?_
    all_goals rfl
  · exact .refl s

theorem latchOverstay_keeps (l : Lane) (s : State) : Keeps s (latchOverstay l s) := by
  unfold latchOverstay
  extract_lets es deck s1
  have h1 : Keeps s s1 := by
    refine putList_keeps (l := l) (es := es) (n := 0) ⟨listLoad_map (f := fun e => { e with aged := overstays s e }) (fun _ => rfl) _, by simp [es]⟩ ?_ ?_ ?_ ?_ ?_ ?_ ?_ ?_
    all_goals rfl
  split
  · exact h1.trans ((giveCause_keeps _ _ _).afterDeck ⟨rfl, rfl, rfl, rfl, rfl⟩ rfl rfl rfl)
  · exact h1

theorem commitDeck_keeps (old : Settings) (s : State) : Keeps s (commitDeck old s) := by
  have hwindow : ∀ u, Keeps u (commitWindow u) := fun u => .of_same ⟨rfl, rfl, rfl, rfl, rfl⟩ le_rfl (fun h => h) rfl rfl
  exact (commitOverstay_keeps old s).trans ((hwindow _).trans ((reviewBlind_keeps _ _).trans (deckReview_keeps _)))

theorem commitTrace_keeps (s : State) : Keeps s (commitTrace s) := by
  unfold commitTrace
  split
  · exact .refl s
  · exact .of_rest rfl rfl rfl rfl

theorem commitBlocks_keeps (old : Settings) (modes : Vector LaneMode 3) (s : State) : Keeps s (commitBlocks old modes s) := by
  have hdet : ∀ u, Keeps u (commitDetectors u) := fun u => .of_rest rfl rfl rfl rfl
  refine .trans ?_ (((commitDeck_keeps old _).trans (hdet _)).trans (commitTrace_keeps _))
  exact ((abandonLanes_keeps _ s).trans (.foldl (commitLane_keeps old modes) _ _)).trans (.foldl (commitLoop_keeps old) _ _)

theorem settle_keeps (s : State) : Keeps s (settle s) := by
  have hdrop : ∀ u, Keeps u (dropRetained u) := fun u => by
    unfold dropRetained
    split
    · split
      · exact .refl u
      · exact .of_rest rfl rfl rfl rfl
    · exact .refl u
  exact (hdrop _).afterDeck ⟨rfl, rfl, rfl, rfl, rfl⟩ rfl rfl rfl

theorem tick_keeps (s : State) : Keeps s (tick s) := by
  refine mapLists_keeps (f := fun e => { e with agedFull := e.agedFull || passed (tick s).now e.entryTime Config.overstayMax })
    (fun e => ?_) ?_ ?_ ?_ ?_ ?_ ?_ ?_ ?_ ?_
  case refine_7 => simp
  all_goals rfl

/-! ### Commands -/

/-- From s to t every invariant of the stores is kept. -/
structure KeepsAll (s t : State) : Prop where
  account : AccountHolds s → AccountHolds t
  queues  : LinkQueues s → LinkQueues t
  sizes   : StoreSizes s → StoreSizes t
  safe    : SafeDeckClosed s → SafeDeckClosed t

theorem KeepsAll.refl (s : State) : KeepsAll s s := ⟨id, id, id, id⟩

theorem KeepsAll.trans {s t u : State} (h : KeepsAll s t) (k : KeepsAll t u) : KeepsAll s u :=
  ⟨k.account ∘ h.account, k.queues ∘ h.queues, k.sizes ∘ h.sizes, k.safe ∘ h.safe⟩

theorem Keeps.all {s t : State} (h : Keeps s t) : KeepsAll s t where
  account := h.account
  queues hq := ⟨h.requests ▸ hq.requests, h.reports hq.reports, h.behind ▸ hq.behind, fun hc => h.behind.trans (hq.held (h.held ▸ hc))⟩
  sizes := h.sizes
  safe := h.safe

theorem KeepsAll.foldl {β : Type} {f : State → β → State} (h : ∀ s b, KeepsAll s (f s b)) (bs : List β) (s : State) :
    KeepsAll s (bs.foldl f s) := by
  induction bs generalizing s with
  | nil => exact .refl s
  | cons b bs ih => exact (h s b).trans (ih (f s b))

/-- What the outcome of a command keeps, from the state that it is given. -/
def OutcomeKeeps (s : State) (o : Host.Outcome State Fault Refusal) : Prop := ∀ t, o = .next t → KeepsAll s t

theorem done_keeps {s x : State} (h : KeepsAll s x) : OutcomeKeeps s (done x) := fun _ ht =>
  Host.Outcome.next.inj ht ▸ h.trans (settle_keeps x).all

theorem when'_keeps {due : Bool} {s x : State} (h : due = true → KeepsAll s x) : OutcomeKeeps s (when' due s x) := by
  cases due
  · exact fun _ ht => Host.Outcome.next.inj ht ▸ .refl s
  · exact done_keeps (h rfl)

theorem when'_of_keeps {due : Bool} {s x : State} (h : Keeps s x) : OutcomeKeeps s (when' due s x) := when'_keeps fun _ => h.all

/-! ### Requests -/

/-- Where a commit is held, a place is left behind it. -/
def PlaceBehind (s : State) : Prop := s.lki.heldCommit.isSome = true → s.lki.behind.length < 4

/-- What the rule of a request keeps, from the state without the request taken, where a place is left for its answer. -/
structure Answers (s t : State) : Prop where
  account : AccountHolds s → AccountHolds t
  queues  : PlaceBehind s → LinkQueues s → LinkQueues t
  sizes   : StoreSizes s → StoreSizes t
  safe    : SafeDeckClosed s → SafeDeckClosed t

theorem giveAnswer_answers (a : Answer) (s : State) : Answers s (giveAnswer a s) := by
  unfold giveAnswer
  split
  next hc =>
    refine ⟨fun h => ⟨h.committed, h.onDeck⟩, fun hp h => ?_, fun h => ⟨h.pool, h.history, h.lists⟩, id⟩
    have hp := hp hc
    exact ⟨h.requests, h.reports, by simp; omega, fun hn => by simp_all⟩
  · have hk := (Keeps.of_lki (s := s) (t := { s with lki.ready := s.lki.ready ++ [a] }) rfl rfl rfl rfl rfl rfl id).trans (kick_keeps _)
    exact ⟨hk.account, fun _ => hk.all.queues, hk.sizes, hk.safe⟩

theorem Keeps.answers {s x t : State} (h : Keeps s x) (k : Answers x t) : Answers s t where
  account := k.account ∘ h.account
  queues hp hq := k.queues (fun hc => h.behind ▸ hp (h.held ▸ hc)) (h.all.queues hq)
  sizes := k.sizes ∘ h.sizes
  safe := k.safe ∘ h.safe

theorem reply_answers (r : Request) (c : StatusCode) (b : AnswerBody) {s x : State} (h : Keeps s x) : Answers s (reply r c b x) :=
  h.answers (giveAnswer_answers _ _)

theorem refuse_answers (r : Request) (c : StatusCode) (s : State) : Answers s (refuse r c s) := reply_answers r c _ (.refl s)

theorem accept_answers (r : Request) {s x : State} (h : Keeps s x) : Answers s (accept r x) := reply_answers r _ _ h

/-- A request taken and judged: where its rule answers, the invariants are kept. -/
theorem judgeRequest_answers {fits : List Byte → Bool} {m : Bool} {rule : Request → State → State}
    (h : ∀ r s, Answers s (rule r s)) (r : Request) (s : State) : Answers s (judgeRequest fits m rule r s) := by
  unfold judgeRequest
  split
  · exact refuse_answers ..
  · split
    · exact refuse_answers ..
    · exact h r s

theorem placeBehind_of_next {s : State} {r : Request} (h : nextRequest s = some r) : PlaceBehind s := fun hc => by
  simpa [nextRequest, hc, Config.behindCap] using Nat.lt_of_not_le fun hle : 4 ≤ s.lki.behind.length => by
    simp [nextRequest, hc, Config.behindCap, hle] at h

/-- A request that the queue gives up, answered. -/
theorem dropRequest_keepsAll {s t : State} {r : Request} (hn : nextRequest s = some r) (h : Answers (dropRequest s) t) :
    KeepsAll s t where
  account ha := h.account ⟨ha.committed, ha.onDeck⟩
  queues hq := h.queues (placeBehind_of_next (s := s) hn)
    ⟨by simpa [dropRequest] using hq.requests.trans (Nat.le_succ 4), hq.reports, hq.behind, hq.held⟩
  sizes hz := h.sizes ⟨hz.pool, hz.history, hz.lists⟩
  safe hs := h.safe hs

theorem serve_keeps {code : Nat} {fits : List Byte → Bool} {m : Bool} {rule : Request → State → State} {s : State}
    (h : ∀ r u, Answers u (rule r u)) : OutcomeKeeps s (serve code fits m rule s) := by
  refine when'_keeps fun _ => ?_
  unfold takeRequest
  split
  · exact .refl s
  next r hn => exact dropRequest_keepsAll hn (judgeRequest_answers h _ _)

theorem answerStatus_answers (r : Request) (s : State) : Answers s (answerStatus r s) := by
  have h := reply_answers r .ok (.status (statusBody s)) (.refl s)
  have hk : ∀ u : State, Keeps u { u with lki.noticeLoss := false, lki.requestOverrun := false } := fun u =>
    .of_lki rfl rfl rfl rfl rfl rfl id
  exact ⟨(hk _).account ∘ h.account, fun hp hq => (hk _).all.queues (h.queues hp hq), (hk _).sizes ∘ h.sizes, (hk _).safe ∘ h.safe⟩

theorem setCommit_answers (tag : Byte) (s : State) :
    Answers s { s with sst.storeBusy := true, lki.heldCommit := some tag } where
  account h := ⟨h.committed, h.onDeck⟩
  queues _ h := ⟨h.requests, h.reports, h.behind, fun hc => nomatch hc⟩
  sizes h := ⟨h.pool, h.history, h.lists⟩
  safe h := h

theorem inSetup_answers {r : Request} {rule : State → State} {s : State} (h : Answers s (rule s)) :
    Answers s (inSetup r rule s) := by
  unfold inSetup
  split
  · exact refuse_answers ..
  · split
    · exact refuse_answers ..
    · exact h

theorem changeWorking_answers (r : Request) (f : Settings → Option Settings) (s : State) : Answers s (changeWorking r f s) := by
  unfold changeWorking
  split
  · exact accept_answers r (.of_rest rfl rfl rfl rfl)
  · exact refuse_answers ..

theorem readFrom_answers (r : Request) (n : Nat) (known : Bool) (read : Settings → AnswerBody) (s : State) :
    Answers s (readFrom r n known read s) := by
  unfold readFrom
  split_ifs
  · exact refuse_answers ..
  · exact reply_answers _ _ _ (.refl s)
  · exact refuse_answers ..
  · exact reply_answers _ _ _ (.refl s)

theorem answerCommit_answers (r : Request) (s : State) : Answers s (answerCommit r s) := by
  refine inSetup_answers ?_
  dsimp only
  split
  · exact refuse_answers ..
  · split
    · exact reply_answers _ _ _ (.refl s)
    · exact setCommit_answers _ _

theorem answerDeckRelease_answers (r : Request) (s : State) : Answers s (answerDeckRelease r s) := by
  unfold answerDeckRelease
  split
  · exact refuse_answers ..
  next h => exact accept_answers r (enterResync_keeps (fun _ => by simpa using h) _)

theorem answerDeckClose_answers (r : Request) (s : State) : Answers s (answerDeckClose r s) := by
  refine accept_answers r ?_
  unfold closeDeck
  split
  · exact .refl s
  · exact (changeDeck_keeps (.inl rfl) _).afterDeck ⟨rfl, rfl, rfl, rfl, rfl⟩ rfl rfl rfl

theorem foldl_forceLane_keeps (d : Nat) (ls : List Lane) (s : State) : Keeps s (ls.foldl (forceLane d) s) :=
  Keeps.foldl (f := forceLane d) (fun _ _ => .of_rest rfl rfl rfl rfl) ls s

theorem answerLaneOpen_answers (r : Request) (s : State) : Answers s (answerLaneOpen r s) := by
  unfold answerLaneOpen
  split
  · exact refuse_answers ..
  · split_ifs
    case neg => exact accept_answers r (openLane_keeps _ s)
    all_goals exact refuse_answers ..

theorem answerLaneClose_answers (r : Request) (s : State) : Answers s (answerLaneClose r s) := by
  unfold answerLaneClose
  split
  · exact refuse_answers ..
  · refine accept_answers r ?_
    split
    · exact .refl s
    · exact closeLane_keeps _ s

theorem answerClearHead_answers (r : Request) (s : State) : Answers s (answerClearHead r s) := by
  unfold answerClearHead
  split
  · exact refuse_answers ..
  · split_ifs
    case neg => exact accept_answers r (removeHead_keeps _ _ s)
    all_goals exact refuse_answers ..

theorem answerRecover_answers (r : Request) (s : State) : Answers s (answerRecover r s) := by
  unfold answerRecover
  split
  · dsimp only
    split
    · exact refuse_answers ..
    · exact accept_answers r (setCond_keeps _ _ s)
  · exact refuse_answers ..

theorem answerMask_answers (r : Request) (s : State) : Answers s (answerMask r s) := by
  unfold answerMask
  split
  · exact reply_answers _ _ _ (.refl s)
  · split
    · split
      · exact accept_answers r (.of_rest rfl rfl rfl rfl)
      · exact refuse_answers ..
    · exact refuse_answers ..

/-- A request that reads: whatever its rule answers, it changes nothing else. -/
def Reads (rule : Request → State → State) : Prop := ∀ r s, ∃ c b, rule r s = reply r c b s

theorem Reads.answers {rule : Request → State → State} (h : Reads rule) (r : Request) (s : State) : Answers s (rule r s) := by
  obtain ⟨c, b, he⟩ := h r s
  exact he ▸ reply_answers r c b (.refl s)

theorem answerConditions_reads : Reads answerConditions := fun r s => by
  unfold answerConditions
  dsimp only
  split
  · exact ⟨_, _, rfl⟩
  · exact ⟨_, _, rfl⟩

theorem answerRecord_reads : Reads answerRecord := fun r s => by
  unfold answerRecord
  split
  · split
    · exact ⟨_, _, rfl⟩
    · exact ⟨_, _, rfl⟩
  · dsimp only
    split
    · exact ⟨_, _, rfl⟩
    · exact ⟨_, _, rfl⟩

theorem answerHistory_reads : Reads answerHistory := fun r s => by
  unfold answerHistory
  split
  · split
    · exact ⟨_, _, rfl⟩
    · exact ⟨_, _, rfl⟩
  · dsimp only
    split
    · exact ⟨_, _, rfl⟩
    · exact ⟨_, _, rfl⟩

theorem answerDeckView_reads : Reads answerDeckView := fun r s => by
  unfold answerDeckView
  split
  · exact ⟨_, _, rfl⟩
  · exact ⟨_, _, rfl⟩

theorem answerQueueView_reads : Reads answerQueueView := fun r s => by
  unfold answerQueueView
  dsimp only
  split
  · exact ⟨_, _, rfl⟩
  · exact ⟨_, _, rfl⟩
  · exact ⟨_, _, rfl⟩

theorem answerTraceRead_reads : Reads answerTraceRead := fun r s => by
  unfold answerTraceRead
  dsimp only
  split
  · exact ⟨_, _, rfl⟩
  · split
    · exact ⟨_, _, rfl⟩
    · split
      · exact ⟨_, _, rfl⟩
      · split
        · exact ⟨_, _, rfl⟩
        · exact ⟨_, _, rfl⟩

theorem ackConditions_keeps (b : Bool) (s : State) : Keeps s (ackConditions b s) := by
  refine .of_lki ?_ ?_ ?_ rfl rfl rfl id
  all_goals simp only [ackConditions]

theorem answerAck_answers (r : Request) (s : State) : Answers s (answerAck r s) := by
  unfold answerAck
  split
  · exact refuse_answers ..
  · exact accept_answers r (ackConditions_keeps _ s)

theorem answerSignForce_answers (r : Request) (s : State) : Answers s (answerSignForce r s) := by
  unfold answerSignForce
  dsimp only
  split
  · exact accept_answers r (foldl_forceLane_keeps _ _ s)
  · split
    · split
      · exact accept_answers r (.of_rest rfl rfl rfl rfl)
      · exact refuse_answers ..
    · exact refuse_answers ..

theorem answerConvertOne_answers (r : Request) (s : State) : Answers s (answerConvertOne r s) := by
  unfold answerConvertOne
  split
  · split
    · exact refuse_answers ..
    · exact accept_answers r (.of_rest rfl rfl rfl rfl)
  · exact refuse_answers ..

theorem answerZeroNow_answers (r : Request) (s : State) : Answers s (answerZeroNow r s) := by
  unfold answerZeroNow
  split
  · dsimp only
    split_ifs
    case neg => exact accept_answers r (changeZero_keeps _ _ s)
    all_goals exact refuse_answers ..
  · exact refuse_answers ..

theorem answerSetupBegin_answers (r : Request) (s : State) : Answers s (answerSetupBegin r s) := by
  unfold answerSetupBegin
  split
  · exact refuse_answers ..
  · split
    · exact refuse_answers ..
    · exact accept_answers r (.of_rest rfl rfl rfl rfl)

/-! ### The receiver, the transmitter and the store write -/

theorem acceptFrame_keepsAll (s : State) (r : Request) : KeepsAll s (acceptFrame s r) := by
  have hclear : Keeps s (if s.lki.silentGiven then giveClear linkSilentIx { s with lki.silentGiven := false } else s) := by
    split
    · exact .trans' (giveClear_keeps _ _) (.of_lki rfl rfl rfl rfl rfl rfl id)
    · exact .refl s
  unfold acceptFrame
  extract_lets s1 link1 link2 s2
  have h2 : Keeps s s2 := hclear.trans (.of_lki rfl rfl rfl rfl rfl rfl id)
  refine h2.all.trans ?_
  split
  · have hover : Keeps s2 { s2 with lki.requestOverrun := true } := .of_lki rfl rfl rfl rfl rfl rfl id
    exact hover.all
  next hcap =>
    have hcap : ¬ 4 ≤ s2.lki.requests.length := hcap
    exact ⟨fun h => ⟨h.committed, h.onDeck⟩, fun h => ⟨by simp; omega, h.reports, h.behind, h.held⟩,
      fun h => ⟨h.pool, h.history, h.lists⟩, id⟩

theorem examine_keepsAll (wait : Bool) (bytes : List Byte) (s : State) : KeepsAll s (examine wait bytes s) := by
  unfold examine
  split
  next frames kept _ =>
    have hrx : Keeps s { s with lki.rx := kept } := .of_lki rfl rfl rfl rfl rfl rfl id
    refine hrx.all.trans ?_
    exact .foldl acceptFrame_keepsAll _ _

theorem receive_keepsAll (bytes : List Byte) (s : State) : KeepsAll s (receive bytes s) := by
  have hgap : KeepsAll s (if gapDue s then abandonFrame s else s) := by
    split
    · exact examine_keepsAll _ _ _
    · exact .refl s
  unfold receive
  extract_lets s1 link
  have hlast : Keeps s1 { s1 with lki.rxLast := s1.now } := .of_lki rfl rfl rfl rfl rfl rfl id
  exact (KeepsAll.trans hgap hlast.all).trans (examine_keepsAll _ _ _)

theorem finishFrame_keeps (s : State) : Keeps s (finishFrame s) :=
  .trans' (kick_keeps _) (.of_lki rfl rfl rfl rfl rfl rfl id)

theorem takeWorking_keepsAll (good : Bool) (s : State) : KeepsAll s (takeWorking good s) where
  account h := ⟨h.committed, h.onDeck⟩
  queues h := ⟨h.requests, h.reports, h.behind, h.held⟩
  sizes h := ⟨h.pool, h.history, h.lists⟩
  safe _ hf := nomatch hf

theorem releaseCommit_keepsAll (s : State) : KeepsAll s (releaseCommit s) := by
  unfold releaseCommit
  split
  · exact .refl s
  · refine KeepsAll.trans ?_ (kick_keeps _).all
    exact ⟨fun h => ⟨h.committed, h.onDeck⟩, fun h => ⟨h.requests, h.reports, Nat.zero_le _, fun _ => rfl⟩,
      fun h => ⟨h.pool, h.history, h.lists⟩, id⟩

theorem endStoreWrite_keepsAll (good : Bool) (s : State) : KeepsAll s (endStoreWrite good s) := by
  unfold endStoreWrite
  extract_lets modes s1 s2
  have h2 : Keeps s1 s2 := by
    simp only [s2]
    split
    · exact .refl s1
    · exact giveFault_keeps _ _ _
  have hmodes : Keeps s2 (formModes s2) := .of_rest rfl rfl rfl rfl
  exact ((takeWorking_keepsAll good s).trans ((h2.trans hmodes).trans (commitBlocks_keeps _ _ _)).all).trans
    (releaseCommit_keepsAll _)

/-! ### Starts -/

theorem startReports_keeps (warm : Bool) (s : State) : Keeps s (startReports warm s) := by
  unfold startReports
  dsimp only
  split
  · exact (placeReport_keeps _ s).trans (placeReport_keeps _ _)
  · exact placeReport_keeps _ s

/-- The state of a start before its reports keeps the invariants: nothing is recorded, queued or granted, and the deck is CLOSED under
the safe flag. -/
theorem startBlind_keepsAll {s u : State} {st : Settings} {safe : Bool} (hd : u.dkc = startDkc st safe)
    (hf : u.cmn.safeFlag = safe) (hl : u.lki.requests = [] ∧ u.lki.reports = [] ∧ u.lki.behind = []) (hp : u.rtb.pool = [])
    (hh : s.rtb.history.length ≤ 64 → u.rtb.history.length ≤ 64) : KeepsAll s (startBlind u) := by
  have hs : KeepsAll s u := by
    refine ⟨fun _ => ⟨by rw [hd]; rfl, by rw [hd]; rfl⟩, fun _ => ?_, fun h => ⟨by simp [hp], hh h.history, fun l => ?_⟩, fun _ hf' => ?_⟩
    · exact ⟨by simp [hl], by simp [hl], by simp [hl], fun _ => hl.2.2⟩
    · simp [hd, startDkc]
    · rw [hd, startDkc, ← hf, hf']
      rfl
  exact hs.trans (Keeps.of_same (s := u) (t := startBlind u) ⟨rfl, rfl, rfl, rfl, rfl⟩ le_rfl id rfl rfl).all

theorem coldStart_keepsAll (s : State) : KeepsAll s (coldStart s) := by
  unfold coldStart
  extract_lets s1
  have h1 : KeepsAll s s1 :=
    (startBlind_keepsAll (u := coldBlocks (cutWrite s)) rfl rfl ⟨rfl, rfl, rfl⟩ rfl fun _ => Nat.zero_le _).trans
      (startReports_keeps false _).all
  split
  · exact h1.trans (giveFault_keeps _ _ _).all
  · exact h1

theorem cutWrite_rtb (s : State) : (cutWrite s).rtb = s.rtb := by
  unfold cutWrite
  split
  · dsimp only
    split <;> rfl
  · rfl

theorem warmBlocks_keepsAll {s u : State} (h : u.rtb = s.rtb) : KeepsAll s (startBlind (warmBlocks u)) := by
  refine startBlind_keepsAll (st := u.sst.live) (safe := u.cmn.safeFlag) ?_ ?_ ⟨?_, ?_, ?_⟩ ?_ fun hs => ?_
  case refine_7 =>
    have hrtb : (warmBlocks u).rtb.history = s.rtb.history := by simp only [warmBlocks, h]
    rwa [hrtb]
  all_goals simp only [warmBlocks, startBlocks, startCmn, startLki]

theorem warmStart_keepsAll (s : State) : KeepsAll s (warmStart s) := by
  have hstart : KeepsAll s (startReports true (startBlind (warmBlocks (cutWrite s)))) :=
    (warmBlocks_keepsAll (cutWrite_rtb s)).trans (startReports_keeps true _).all
  refine hstart.trans (Keeps.foldl (fun u i => ?_) allConds _).all
  unfold warmCondReport
  split
  · exact placeReport_keeps _ _
  · exact .refl u

/-! ### The step -/

theorem exec_keeps (i : Instr) (s : State) : OutcomeKeeps s (exec i s) := by
  cases i
  case coldStart => exact done_keeps (coldStart_keepsAll s)
  case restart => exact serve_keeps fun r u => accept_answers r (.refl u)
  case warmStart => exact when'_keeps fun _ => warmStart_keepsAll s
  case deviceSecondsAdvance => exact when'_of_keeps ((gradeAll_keeps _).after rfl rfl rfl rfl)
  case scanTick => exact when'_of_keeps ((zeroScanTick_keeps _).after rfl rfl rfl rfl)
  case conversionSlot ans => exact when'_of_keeps (takeSlot_keeps ans s)
  case singleConversion ans => exact when'_of_keeps (takeSingle_keeps ans s)
  case tempStaleExpiry => exact when'_of_keeps ((tempLostCause_keeps _).after rfl rfl rfl rfl)
  case fifoEntryExpiry l =>
    refine when'_of_keeps ?_
    split
    · exact changeLas_keeps _ _ _
    · exact orphanFirst_keeps _ _ _
  case closeGapExpiry l => exact when'_of_keeps (sealOpen_keeps l s)
  case straddleWaitExpiry id =>
    refine when'_of_keeps ?_
    unfold endWait
    split
    · exact .refl s
    · exact (flagSuspect_keeps _ _).trans (decideSuspect_keeps _ _)
  case rawEdge i level => exact when'_of_keeps (observe_keeps i level s)
  case candidateAccepted i => exact when'_of_keeps (acceptCandidate_keeps i s)
  case candidateCancelled i => exact when'_of_keeps (changeDeb_keeps _ _ _)
  case loopStuckAlert l => exact when'_of_keeps ((changeLoop_keeps _ _ s).trans (giveCause_keeps _ _ _))
  case loopStuckFault l =>
    exact when'_of_keeps ((changeLoop_keeps _ _ s).trans ((giveFault_keeps _ _ _).trans (serviceChange_keeps _ _ _)))
  case chatterQuiet l =>
    exact when'_of_keeps ((changeLoop_keeps _ _ s).trans ((giveClear_keeps _ _).trans (serviceChange_keeps _ _ _)))
  case cameraPulseEnd l => exact when'_of_keeps (.of_rest rfl rfl rfl rfl)
  case signForceExpiry l => exact when'_of_keeps (.of_rest rfl rfl rfl rfl)
  case recordExpiry id => exact when'_of_keeps (expireRecord_keeps id s)
  case headwayElapsed => exact when'_of_keeps ((deckReview_keeps _).afterDeck ⟨rfl, rfl, rfl, rfl, rfl⟩ rfl rfl rfl)
  case blindClearElapsed => exact when'_of_keeps ((deckReview_keeps _).afterDeck ⟨rfl, rfl, rfl, rfl, rfl⟩ rfl rfl rfl)
  case grantTimeExpiry => exact when'_of_keeps ((deckReview_keeps _).afterDeck ⟨rfl, rfl, rfl, rfl, rfl⟩ rfl rfl rfl)
  case grantExpiry id =>
    exact when'_of_keeps ((endGrant_keeps id s).trans ((changeRec_keeps _ _ _).trans (deckReview_keeps _)))
  case overstayExpiry l => exact when'_of_keeps (latchOverstay_keeps l s)
  case resyncEnd =>
    refine when'_keeps fun hdue => (endResync_keeps ?_).all
    exact beq_iff_eq.mp (Bool.and_eq_true _ _ ▸ hdue).1
  case restEnd =>
    refine when'_keeps fun hdue => (endResting_keeps (mayOpen_of_st (st := .resting) ?_ (by decide))).all
    exact beq_iff_eq.mp (Bool.and_eq_true _ _ ▸ hdue).1
  case alertDecay ix => exact when'_of_keeps (setCond_keeps _ _ s)
  case convLinkClear => exact when'_of_keeps ((setCond_keeps _ _ s).trans (.of_rest rfl rfl rfl rfl))
  case tempLostFault => exact when'_of_keeps (giveFault_keeps _ _ s)
  case recoverWatchEnd ix => exact when'_of_keeps (setCond_keeps _ _ s)
  case frameReceived bytes => exact done_keeps (receive_keepsAll bytes s)
  case frameGapTimeout => exact when'_keeps fun _ => examine_keepsAll _ _ s
  case linkSilentExpiry =>
    exact when'_of_keeps (.trans' (giveCause_keeps _ _ _) (.of_lki rfl rfl rfl rfl rfl rfl id))
  case frameSent => exact when'_of_keeps (finishFrame_keeps s)
  case unknownType =>
    refine when'_keeps fun _ => ?_
    split
    · exact .refl s
    next r hn => exact dropRequest_keepsAll hn (refuse_answers ..)
  case status => exact serve_keeps answerStatus_answers
  case ident => exact serve_keeps fun r u => reply_answers r _ _ (.refl u)
  case conditions => exact serve_keeps answerConditions_reads.answers
  case ackConditions => exact serve_keeps answerAck_answers
  case recover => exact serve_keeps answerRecover_answers
  case reportMask => exact serve_keeps answerMask_answers
  case record => exact serve_keeps answerRecord_reads.answers
  case history => exact serve_keeps answerHistory_reads.answers
  case deckView => exact serve_keeps answerDeckView_reads.answers
  case queueView => exact serve_keeps answerQueueView_reads.answers
  case snapshot => exact serve_keeps fun r u => reply_answers r _ _ (.refl u)
  case snapshotRelease => exact serve_keeps fun r u => accept_answers r (.of_rest rfl rfl rfl rfl)
  case laneOpen => exact serve_keeps answerLaneOpen_answers
  case laneClose => exact serve_keeps answerLaneClose_answers
  case deckClose => exact serve_keeps answerDeckClose_answers
  case deckRelease => exact serve_keeps answerDeckRelease_answers
  case deckClearHead => exact serve_keeps answerClearHead_answers
  case signForce => exact serve_keeps answerSignForce_answers
  case setupBegin => exact serve_keeps answerSetupBegin_answers
  case setupCommit => exact serve_keeps answerCommit_answers
  case setupAbandon => exact serve_keeps fun r _ => inSetup_answers (accept_answers r (.of_rest rfl rfl rfl rfl))
  case paramWrite => exact serve_keeps fun _ _ => inSetup_answers (changeWorking_answers ..)
  case paramRead => exact serve_keeps fun _ _ => by unfold answerParamRead; exact readFrom_answers ..
  case tableWrite => exact serve_keeps fun _ _ => inSetup_answers (changeWorking_answers ..)
  case tableRead => exact serve_keeps fun _ _ => by unfold answerTableRead; exact readFrom_answers ..
  case storeWriteEnd good => exact when'_keeps fun _ => endStoreWrite_keepsAll good s
  case convertOne => exact serve_keeps answerConvertOne_answers
  case zeroNow => exact serve_keeps answerZeroNow_answers
  case traceRead => exact serve_keeps answerTraceRead_reads.answers
  case traceRelease => exact serve_keeps fun r _ => accept_answers r (.of_rest rfl rfl rfl rfl)
  case lenOutOfRange bytes => exact done_keeps (receive_keepsAll bytes s)

/-- Every step keeps every invariant of the stores. -/
theorem step_keeps {s t : State} (h : step s = .next t) : KeepsAll s t := by
  have hpending : ∀ cs, Keeps s { s with pending := cs } := fun cs => .of_rest rfl rfl rfl rfl
  cases hp : s.pending with
  | cons c cs =>
    rw [step_of_pending hp] at h
    exact (hpending cs).all.trans (exec_keeps c _ t h)
  | nil =>
    rw [step_of_empty hp] at h
    obtain rfl := Host.Outcome.next.inj h
    unfold rest
    split
    · exact (tick_keeps s).all
    · exact (hpending _).all

end Sys2Proof.Machine

namespace Sys2Proof.Proofs

open Sys2Proof.Machine
open Sys2Proof.Safety

/-- Settles O6, as O7, O8 and O9 below: the invariant is a part of what every step keeps. -/
theorem everyStepKeepsAccount : Obligations.EveryStepKeepsAccount := fun _ _ h hs => (step_keeps hs).account h

/-- Settles O7. -/
theorem everyStepKeepsLinkQueues : Obligations.EveryStepKeepsLinkQueues := fun _ _ h hs => (step_keeps hs).queues h

/-- Settles O8. -/
theorem everyStepKeepsStoreSizes : Obligations.EveryStepKeepsStoreSizes := fun _ _ h hs => (step_keeps hs).sizes h

/-- Settles O9. -/
theorem everyStepKeepsSafeDeckClosed : Obligations.EveryStepKeepsSafeDeckClosed := fun _ _ h hs => (step_keeps hs).safe h

end Sys2Proof.Proofs
end

section
/-! SUPPORT. Proofs about the step on an empty queue (log entries 1 and 2) and the state after reset (R181). -/

namespace Sys2Proof.Machine

open Sys2Proof.Safety

/-- The elapsed tests of an entry of the condition table, as one tick latches them (R155, R159). -/
theorem latchEntry_eq (now : Time) (ix : CondIx) (e : CondEntry) : latchEntry now ix e = { e with
    lapsed := e.lapsed ||
      (((kindOf ix).1.family == .counted && e.st == .alert && e.last.any fun t =>
          decide ((if (kindOf ix).1 = .laneIntrusion then 6000000 else 3000000) ≤ (now - t).toNat)) ||
        (e.st == .recovering && e.watch.any fun t => decide (6000000 ≤ (now - t).toNat))) } := by
  cases e with
  | mk st count first last changed watch lapsed =>
    cases lapsed
    · simp only [latchEntry, decayPassed, watchPassed, decayOf, Bool.false_or, beq_iff_eq]
      rfl
    · rfl

end Sys2Proof.Machine

namespace Sys2Proof.Proofs

open Sys2Proof.Machine
open Sys2Proof.Safety

/-- Settles O2, by what the empty queue's step does with and without a command that is due. -/
theorem emptyQueueStep : Obligations.EmptyQueueStep := by
  unfold Obligations.EmptyQueueStep
  intro s hp now aged latch lapses
  refine ⟨fun hnone => ?_, fun hdue => ?_⟩
  · have hconds : (s.cmn.conds.mapFinIdx fun i e h => latchEntry now ⟨i, h⟩ e) =
        s.cmn.conds.mapFinIdx fun i e h => { e with lapsed := e.lapsed || lapses ⟨i, h⟩ e } := by
      simp only [latchEntry_eq]
      rfl
    rw [step_of_empty hp, rest, hnone]
    simp only [tick, latchTimes, State.now]
    rw [show s.tbu.time + 1 = now from rfl, hconds]
    rfl
  · rw [step_of_empty hp, rest]
    split
    next h => exact absurd h hdue
    · rfl

/-- Settles O3: a cold start from the state after reset forms it again, and each invariant is a fact about it. -/
theorem resetMeetsInvariants : Obligations.ResetMeetsInvariants := by
  have hcold : settle (coldStart State.reset) = State.reset := by decide +kernel
  refine ⟨congrArg Host.Outcome.next hcold, rfl, rfl, rfl, rfl, by decide +kernel, rfl, by decide +kernel, ?_, ?_, ?_, ?_, fun _ => rfl⟩
  · exact ⟨by decide +kernel, rfl, by decide +kernel, fun _ _ h => nomatch h⟩
  · exact ⟨rfl, by decide +kernel⟩
  · exact ⟨by decide +kernel, by decide +kernel, by decide +kernel, fun _ => rfl⟩
  · exact ⟨by decide +kernel, by decide +kernel, by decide +kernel⟩

end Sys2Proof.Proofs
end

section
/-! SUPPORT. Proofs about the judging of requests (R174) and the requests STATUS, IDENT and RESTART (R176, R182), those of the Condition
Monitor (R159 to R161), CONVERT_ONE and ZERO_NOW (R21, R40), and the setup requests (R177, R178). -/

namespace Sys2Proof.Machine

open Sys2Proof.Safety

/-! ### Operations that place reports, one after the other -/

/-- As `PlacedFrom`, in the form that composes: what waits behind a held answer is kept, and the report queue gains no more than the
reports placed. -/
structure Places (rs : List Report) (x t : State) : Prop extends PlacedFrom rs x t where
  behind : t.lki.behind = x.lki.behind
  room   : t.lki.reports.length ≤ x.lki.reports.length + rs.length

theorem Places.refl (x : State) : Places [] x x := ⟨placed_refl x, rfl, le_rfl⟩

theorem Places.trans {rs rs' : List Report} {x t u : State} (h : Places rs x t) (k : Places rs' t u) : Places (rs ++ rs') x u where
  rest := k.rest.trans h.rest
  retained := k.retained.trans h.retained
  requests := k.requests.trans h.requests
  answers := k.answers.trans h.answers
  reports hl := by
    have hroom := h.room
    simp only [List.length_append] at hl
    obtain ⟨hp, hn⟩ := h.reports (by omega)
    obtain ⟨kp, kn⟩ := k.reports (by omega)
    exact ⟨by rw [kp, hp, List.append_assoc], kn.trans hn⟩
  behind := k.behind.trans h.behind
  room := by
    have hroom := h.room
    have kroom := k.room
    simp only [List.length_append]
    omega

theorem placeReport_places (r : Report) (x : State) : Places [r] x (placeReport r x) where
  toPlacedFrom := placeReport_placed r x
  behind := (placeReport_keeps r x).behind
  room := by
    obtain ⟨-, -, -, -, hroom⟩ := placeReport_spec r x
    simp only [List.length_singleton]
    omega

theorem changeReports_movedEntry (ix : CondIx) (new : CondState) (now : Time) (s : State) :
    changeReports ix (movedEntry new now s.cmn.conds[ix]) s =
      if s.cmn.conds[ix].st ≠ new ∧ maskSelects (maskOf ix s) s.cmn.conds[ix].st new = true then
        [.condition ⟨ix, new, s.cmn.conds[ix].st, s.cmn.conds[ix].count, s.cmn.conds[ix].first, s.cmn.conds[ix].last, s.now⟩]
      else [] := by
  by_cases hc : s.cmn.conds[ix].st = new
  · simp only [changeReports, movedEntry, hc, beq_self_eq_true, if_true, bne_self_eq_false, Bool.false_and, Bool.false_eq_true,
      if_false, ne_eq, not_true_eq_false, false_and]
  · have hb : (s.cmn.conds[ix].st == new) = false := by simpa only [beq_eq_false_iff_ne] using hc
    have hn : (new != s.cmn.conds[ix].st) = true := by simpa only [bne_iff_ne] using fun h => hc h.symm
    simp only [changeReports, movedEntry, hb, hn, hc, Bool.false_eq_true, if_false, Bool.true_and, ne_eq, not_false_eq_true, true_and]

theorem setCond_places (ix : CondIx) (new : CondState) (s : State) :
    let e := movedEntry new s.tbu.time s.cmn.conds[ix]
    Places (changeReports ix e s) (withEntry ix e s) (setCond ix new s) where
  toPlacedFrom := setCond_placed ix new s
  behind := (setCond_keeps ix new s).behind
  room := by
    rw [changeReports_movedEntry]
    unfold setCond
    extract_lets prev mark
    by_cases hc : prev = new
    · simp [hc, withEntry]
    · rw [if_neg (by simpa using hc)]
      by_cases hm : maskSelects (maskOf ix s) prev new = true
      · rw [if_pos hm, if_pos ⟨hc, hm⟩]
        exact (placeReport_places _ _).room
      · rw [if_neg hm]
        exact Nat.le_add_right ..

theorem giveGraded_places (ix : CondIx) (isFault : Bool) (t : Time) (s : State) :
    let e := causedEntry isFault t s.cmn.conds[ix]
    Places (changeReports ix e s) (withEntry ix e s) (giveGraded ix isFault t s) where
  toPlacedFrom := giveGraded_placed ix isFault t s
  behind := (giveGraded_keeps ix isFault t s).behind
  room := by
    have h := (setCond_places ix (if isFault then .fault else afterCause s.cmn.conds[ix].st)
      { s with cmn.conds := change s.cmn.conds ix (countCause t) }).room
    simp only [withEntry, changeReports, change_getElem_self, caused_eq, countCause_st] at h
    cases isFault <;> exact h

theorem giveCause_places (ix : CondIx) (t : Time) (s : State) :
    let e := causedEntry false t s.cmn.conds[ix]
    Places (changeReports ix e s) (withEntry ix e s) (giveCause ix t s) := giveGraded_places ix false t s

theorem giveFault_places (ix : CondIx) (t : Time) (s : State) :
    let e := causedEntry true t s.cmn.conds[ix]
    Places (changeReports ix e s) (withEntry ix e s) (giveFault ix t s) := giveGraded_places ix true t s

/-- An entry given as it stands: no change, no report. -/
theorem unchanged_places (ix : CondIx) (s : State) :
    Places (changeReports ix s.cmn.conds[ix] s) (withEntry ix s.cmn.conds[ix] s) s := by
  simp only [changeReports, withEntry, bne_self_eq_false, Bool.false_and, Bool.false_eq_true, if_false, put_self]
  exact .refl s

theorem giveClear_places (ix : CondIx) (s : State) :
    let e := clearedEntry s.tbu.time s.cmn.conds[ix]
    Places (changeReports ix e s) (withEntry ix e s) (giveClear ix s) := by
  have hmove := setCond_places ix .clear s
  cases hc : s.cmn.conds[ix].st <;> simp only [giveClear, clearedEntry, hc, beq_self_eq_true, if_true, reduceCtorEq, beq_iff_eq, if_false]
  · have hsame : movedEntry .clear s.tbu.time s.cmn.conds[ix] = s.cmn.conds[ix] := by
      rw [movedEntry, hc]; rfl
    rw [hsame]
    exact unchanged_places ix s
  · exact hmove
  · exact hmove
  · exact unchanged_places ix s

/-! ### Requests judged (R174) -/

/-- A request at level MAINTAIN, the key at MAINTAIN, is given to its rule. -/
theorem serve_keyed {code : Nat} {ns : List Nat} {rule : Request → State → State} {r : Request} {s : State} (h : Asks code r s)
    (hl : r.payload.length ∈ ns) (hk : s.liu.deb[mkInput].level = true) :
    serve code (lengthIn ns) true rule s = .next (settle (rule r (dropRequest s))) := by
  rw [serve_spec _ _ _ h]
  have hm : maintain (dropRequest s) = true := hk
  simp [judgeRequest, lengthIn, hl, hm]

/-- A request at level MAINTAIN, the key at OPERATE, is refused with ACCESS. -/
theorem serve_locked {code : Nat} {fits : List Byte → Bool} {rule : Request → State → State} {r : Request} {s : State}
    (h : Asks code r s) (hf : fits r.payload = true) (hk : s.liu.deb[mkInput].level = false) :
    serve code fits true rule s = .next (settle (refuse r .access (dropRequest s))) := by
  rw [serve_spec _ _ _ h]
  have hm : maintain (dropRequest s) = false := hk
  simp [judgeRequest, hf, hm]

/-- A request whose payload has a length that does not fit is refused with BAD_LENGTH. -/
theorem serve_unfit {code : Nat} {fits : List Byte → Bool} {m : Bool} {rule : Request → State → State} {r : Request} {s : State}
    (h : Asks code r s) (hf : fits r.payload = false) :
    serve code fits m rule s = .next (settle (refuse r .badLength (dropRequest s))) := by
  rw [serve_spec _ _ _ h]
  simp [judgeRequest, hf]

/-- What a refusal of a request that asks does. -/
theorem refuse_of_asks {c : Nat} {r : Request} {s : State} (h : Asks c r s) (code : StatusCode) :
    AnsweredFrom r code .empty [] s (settle (refuse r code (dropRequest s))) := reply_of_asks h rfl code .empty

/-- How a command of the request table is judged before its rule (R174): by its length, then by its level. -/
def JudgedBy (i : Instr) (code : Nat) (m : Bool) (lengths : List Byte → List Nat) : Prop :=
  ∀ (r : Request) (s : State), Asks code r s →
    (r.payload.length ∉ lengths r.payload → ∃ t, exec i s = .next t ∧ AnsweredFrom r .badLength .empty [] s t) ∧
    (r.payload.length ∈ lengths r.payload → m = true → s.liu.deb[mkInput].level = false →
      ∃ t, exec i s = .next t ∧ AnsweredFrom r .access .empty [] s t)

theorem judgedBy_of_serve {i : Instr} {code : Nat} {m : Bool} {lengths : List Byte → List Nat} {fits : List Byte → Bool}
    {rule : Request → State → State} (he : ∀ s, exec i s = serve code fits m rule s)
    (hf : ∀ p, fits p = true ↔ p.length ∈ lengths p) : JudgedBy i code m lengths := by
  refine fun r s h => ⟨fun hl => ⟨_, (he s).trans (serve_unfit h ?_), refuse_of_asks h _⟩, fun hl hm hk => ?_⟩
  · rw [← Bool.not_eq_true, hf]
    exact hl
  · subst hm
    exact ⟨_, (he s).trans (serve_locked h ((hf _).mpr hl) hk), refuse_of_asks h _⟩

theorem lengthIn_iff {ns ms : List Nat} (h : ∀ n, n ∈ ns ↔ n ∈ ms) (p : List Byte) : lengthIn ns p = true ↔ p.length ∈ ms := by
  simp [lengthIn, h]

/-- The lengths of a TABLE_WRITE by the table it names (R174). -/
def tableWriteLengths (p : List Byte) : List Nat :=
  if u16At p 0 = 21 then [7] else if u16At p 0 = 126 then [19] else if u16At p 0 = 125 then [24] else [7, 19, 24]

theorem tableWriteFits_iff (p : List Byte) : tableWriteFits p = true ↔ p.length ∈ tableWriteLengths p := by
  simp only [tableWriteFits, tableWriteLengths, scanListNo, limitRowsNo, classTableNo]
  by_cases h21 : u16At p 0 = 21
  · simp [h21]
  by_cases h126 : u16At p 0 = 126
  · simp [h126]
  by_cases h125 : u16At p 0 = 125
  · simp [h125]
  · simp [h21, h126, h125, lengthIn]

/-- A TYPE that names no request is answered UNKNOWN_TYPE (R174). -/
theorem unknownType_answered {r : Request} {s : State} (h : Asks r.type.toNat r s) (hu : r.type.toNat ∉ requestCodes) :
    ∃ t, exec .unknownType s = .next t ∧ AnsweredFrom r .unknownType .empty [] s t := by
  have hdue : unknownDue s = true := by simp [unknownDue, h.next, hu]
  refine ⟨_, ?_, refuse_of_asks h .unknownType⟩
  show execUnknownType s = _
  simp [execUnknownType, when', done, hdue, h.next]

/-! ### STATUS (R176) -/

/-- The state with NOTICE_LOSS and REQUEST_OVERRUN clear. -/
def withoutLossFlags (s : State) : State := { s with lki := { s.lki with noticeLoss := false, requestOverrun := false } }

theorem kick_withoutLossFlags (s : State) : withoutLossFlags (kick s) = kick (withoutLossFlags s) := by
  have htx : (withoutLossFlags s).lki.tx = s.lki.tx := rfl
  have hwarm : (withoutLossFlags s).lki.warmDue = s.lki.warmDue := rfl
  have hready : (withoutLossFlags s).lki.ready = s.lki.ready := rfl
  have hreports : (withoutLossFlags s).lki.reports = s.lki.reports := rfl
  simp only [kick, htx, hwarm, hready, hreports]
  split
  · rfl
  · split <;> rfl

/-- The clearing of the two flags after the answer is formed is that before it: answering reads neither. -/
theorem giveAnswer_withoutLossFlags (a : Answer) (s : State) : withoutLossFlags (giveAnswer a s) = giveAnswer a (withoutLossFlags s) := by
  have hheld : (withoutLossFlags s).lki.heldCommit = s.lki.heldCommit := rfl
  simp only [giveAnswer, hheld]
  split
  · rfl
  · exact kick_withoutLossFlags _

/-! ### The Condition Monitor's requests (R159 to R161) -/

theorem mem_allConds_drop {k : Nat} (h : k < 65) : allConds.drop k = ⟨k, h⟩ :: allConds.drop (k + 1) := by
  have hlen : k < allConds.length := by simpa [allConds] using h
  rw [List.drop_eq_getElem_cons hlen]
  simp [allConds]

theorem allConds_drop_of_le {k : Nat} (h : 65 ≤ k) : allConds.drop k = [] :=
  List.drop_eq_nil_of_le (by simpa [allConds] using h)

/-- The index after the last examined one, where the entries before k have been. -/
theorem scanConds_none_left (s : State) (active : Bool) {k : Nat} (h : k < 65) :
    scanConds s active 0 (allConds.drop (k + 1)) = ([], k + 1) := by
  by_cases hk : k + 1 < 65
  · rw [mem_allConds_drop hk]
    rfl
  · rw [allConds_drop_of_le (by omega), show k + 1 = 65 by omega]
    rfl

/-- The scan of the condition table from an index: the first n + 1 entries admitted, and the index after the last one examined. -/
theorem scanConds_eq (s : State) (active : Bool) (n k : Nat) :
    let admitted := (allConds.drop k).filter fun i => admits active s.cmn.conds[i]
    scanConds s active (n + 1) (allConds.drop k) =
      ((admitted.take (n + 1)).map fun i => condView i s.cmn.conds[i], (admitted[n]?.map (·.val + 1)).getD 65) := by
  dsimp only
  induction hm : 65 - k generalizing k n with
  | zero =>
    rw [allConds_drop_of_le (by omega)]
    rfl
  | succ m ih =>
    have hk : k < 65 := by omega
    rw [mem_allConds_drop hk, scanConds]
    by_cases ha : admits active s.cmn.conds[(⟨k, hk⟩ : CondIx)] = true
    · rw [if_pos ha, List.filter_cons_of_pos (by exact ha)]
      match n with
      | 0 =>
        rw [scanConds_none_left s active hk]
        simp
      | n + 1 =>
        rw [ih n (k + 1) (by omega)]
        simp
    · rw [if_neg ha, List.filter_cons_of_neg (by exact ha)]
      exact ih n (k + 1) (by omega)

/-- The answer to a request whose effect places reports: its own effect x, the reports, and the answer. -/
theorem reply_places {rs : List Report} {x u : State} {r : Request} (h : Places rs (dropRequest x) u)
    (hq : x.lki.heldCommit = none → x.lki.behind = []) (code : StatusCode) (body : AnswerBody) :
    AnsweredFrom r code body rs x (settle (reply r code body u)) := by
  have hheld : u.lki.heldCommit = x.lki.heldCommit := (congrArg (fun v : State => v.lki.heldCommit) h.rest :)
  obtain ⟨hans, hreps, hrest, hreq, hloss⟩ := giveAnswer_spec ⟨r.type + 0x80, r.tag, code, body⟩ u
    fun hc => h.behind.trans (hq (hheld ▸ hc))
  obtain ⟨hformed, hretained, hset⟩ := settle_formedFrom (reply r code body u)
  have hlki : (settle (reply r code body u)).lki = (reply r code body u).lki := (congrArg (fun v : State => v.lki) hset :)
  have hrtb : (reply r code body u).rtb = x.rtb := (congrArg (fun v : State => v.rtb) (hrest : sansLink (reply r code body u) = _) :).trans
    (congrArg (fun v : State => v.rtb) h.rest :)
  have hlas : (reply r code body u).las = x.las := (congrArg (fun v : State => v.las) (hrest : sansLink (reply r code body u) = _) :).trans
    (congrArg (fun v : State => v.las) h.rest :)
  have hsst : (reply r code body u).sst.retained = x.sst.retained :=
    (congrArg (fun v : State => v.sst.retained) (hrest : sansLink (reply r code body u) = _) :).trans h.retained
  refine ⟨hformed, ?_, ?_, ?_, ?_, fun hl => ?_⟩
  · rw [hretained, hsst]
    simp only [retainNeeded, hrtb, hlas]
  · exact ((congrArg sansLink hset).trans (congrArg sansOutputs hrest :)).trans h.rest
  · rw [hlki]
    exact hreq.trans h.requests
  · have hpath : answerPath (settle (reply r code body u)) = answerPath (reply r code body u) := by simp only [answerPath, hlki]
    rw [hpath]
    exact hans.trans (congrArg (· ++ _) h.answers)
  · have hpath : reportPath (settle (reply r code body u)) = reportPath (reply r code body u) := by simp only [reportPath, hlki]
    obtain ⟨kp, kn⟩ := h.reports hl
    rw [hpath, hlki]
    exact ⟨hreps.trans kp, hloss.trans kn⟩

theorem answerConditions_bad {r : Request} (h : 64 < byteAt r.payload 0 ∨ 1 < byteAt r.payload 1) (s : State) :
    answerConditions r s = refuse r .badValue s := by
  simp [answerConditions, h]

theorem answerConditions_view {r : Request} (h0 : byteAt r.payload 0 ≤ 64) (h1 : byteAt r.payload 1 ≤ 1) (s : State) :
    let admitted := (allConds.drop (byteAt r.payload 0)).filter fun i => admits (byteAt r.payload 1 == 1) s.cmn.conds[i]
    answerConditions r s = reply r .ok (.conditions ((admitted.take 12).map fun i => condView i s.cmn.conds[i])
      ((admitted[11]?.map (·.val + 1)).getD 65)) s := by
  simp only [answerConditions, h0.not_gt, h1.not_gt, decide_false, Bool.or_self, Bool.false_eq_true, if_false,
    scanConds_eq s (byteAt r.payload 1 == 1) 11 (byteAt r.payload 0)]

/-- The selection ALL, 0, admits every entry; ACTIVE, 1, one that is not CLEAR or is changed (R161). -/
theorem admits_selection {n : Nat} (h : n ≤ 1) (e : CondEntry) :
    admits (n == 1) e = (n == 0 || e.st != .clear || e.changed) := by
  match n with
  | 0 | 1 => rfl
  | n + 2 => omega

theorem answerRecover_bad {r : Request} (h : 64 < byteAt r.payload 0) (s : State) : answerRecover r s = refuse r .badValue s :=
  dif_neg (by omega)

theorem answerRecover_ix {r : Request} {ix : CondIx} (h : ix.val = byteAt r.payload 0) (s : State) : answerRecover r s =
    if (kindOf ix).1.latching = false ∨ s.cmn.conds[ix].st ≠ .fault then refuse r .state s
    else accept r (setCond ix .recovering s) := by
  have hlt : byteAt r.payload 0 < 65 := h ▸ ix.isLt
  have hix : (⟨byteAt r.payload 0, hlt⟩ : CondIx) = ix := Fin.ext h.symm
  simp only [answerRecover, dif_pos hlt, hix, Bool.or_eq_true, Bool.not_eq_true', bne_iff_ne]

theorem answerMask_read {r : Request} (h : r.payload = []) (s : State) : answerMask r s = reply r .ok (.masks s.cmn.mask) s :=
  if_pos (by simp [h])

theorem answerMask_bad {r : Request} (h : r.payload ≠ []) (hb : 16 < byteAt r.payload 0 ∨ 3 < byteAt r.payload 1) (s : State) :
    answerMask r s = refuse r .badValue s := by
  rw [answerMask, if_neg (by simpa using h)]
  by_cases hk : byteAt r.payload 0 < 17
  · have hv : maskOfCode (byteAt r.payload 1) = none := by
      rw [maskOfCode, List.getElem?_eq_none_iff]
      simp only [List.length_cons, List.length_nil]
      omega
    simp only [dif_pos hk, hv]
  · exact dif_neg hk

theorem answerMask_set {r : Request} (h : r.payload ≠ []) {k : Fin 17} {v : MaskValue} (hk : k.val = byteAt r.payload 0)
    (hv : maskOfCode (byteAt r.payload 1) = some v) (s : State) :
    answerMask r s = accept r { s with cmn.mask := put s.cmn.mask k v } := by
  have hlt : byteAt r.payload 0 < 17 := hk ▸ k.isLt
  have hix : (⟨byteAt r.payload 0, hlt⟩ : Fin 17) = k := Fin.ext hk.symm
  rw [answerMask, if_neg (by simpa using h)]
  simp only [dif_pos hlt, hv, hix]

/-! ### CONVERT_ONE and ZERO_NOW (R21, R40) -/

theorem answerConvertOne_bad {r : Request} (h : 7 < byteAt r.payload 0 ∨ 3 < byteAt r.payload 1) (s : State) :
    answerConvertOne r s = refuse r .badValue s := dif_neg (by omega)

theorem answerConvertOne_channel {r : Request} {c : Fin 8} {g : Fin 4} (hc : c.val = byteAt r.payload 0)
    (hg : g.val = byteAt r.payload 1) (s : State) : answerConvertOne r s =
      if s.csq.single.isSome then refuse r .busy s else accept r { s with csq.single := some ⟨c, g, false⟩ } := by
  have hlt : byteAt r.payload 0 < 8 ∧ byteAt r.payload 1 < 4 := ⟨hc ▸ c.isLt, hg ▸ g.isLt⟩
  have hce : (⟨byteAt r.payload 0, hlt.1⟩ : Fin 8) = c := Fin.ext hc.symm
  have hge : (⟨byteAt r.payload 1, hlt.2⟩ : Fin 4) = g := Fin.ext hg.symm
  simp only [answerConvertOne, dif_pos hlt, hce, hge]

theorem answerConvertOne_busy {r : Request} {c : Fin 8} {g : Fin 4} (hc : c.val = byteAt r.payload 0)
    (hg : g.val = byteAt r.payload 1) {s : State} (h : s.csq.single ≠ none) : answerConvertOne r s = refuse r .busy s := by
  rw [answerConvertOne_channel hc hg]
  exact if_pos (Option.isSome_iff_ne_none.mpr h)

theorem answerConvertOne_ok {r : Request} {c : Fin 8} {g : Fin 4} (hc : c.val = byteAt r.payload 0)
    (hg : g.val = byteAt r.payload 1) {s : State} (h : s.csq.single = none) :
    answerConvertOne r s = accept r { s with csq.single := some ⟨c, g, false⟩ } := by
  rw [answerConvertOne_channel hc hg]
  exact if_neg (by simp [h])

theorem answerZeroNow_bad {r : Request} (h : 5 < byteAt r.payload 0) (s : State) : answerZeroNow r s = refuse r .badValue s :=
  dif_neg (by omega)

theorem answerZeroNow_channel {r : Request} {c : Chan} (hc : c.val = byteAt r.payload 0) (s : State) : answerZeroNow r s =
    if !lanePresent s.sst.live (chanLane c) then refuse r .badValue s
    else if s.zsc.meas.any (·.chan == c) then refuse r .busy s
    else if !scansChan s.sst.live.conv.scanList c then refuse r .state s
    else accept r (changeZero c (fun z => { z with requested := true }) s) := by
  have hlt : byteAt r.payload 0 < 6 := hc ▸ c.isLt
  have hce : (⟨byteAt r.payload 0, hlt⟩ : Chan) = c := Fin.ext hc.symm
  simp only [answerZeroNow, dif_pos hlt, hce]

theorem chanPresent (st : Settings) (c : Chan) : lanePresent st (chanLane c) = decide (c.val / 2 < st.site.laneCount) := rfl

section ZeroNowRows

variable {r : Request} {c : Chan} {s : State}

theorem answerZeroNow_absent (hc : c.val = byteAt r.payload 0) (h : s.sst.live.site.laneCount ≤ c.val / 2) :
    answerZeroNow r s = refuse r .badValue s := by
  rw [answerZeroNow_channel hc]
  exact if_pos (by rw [chanPresent]; simpa using h)

theorem answerZeroNow_busy (hc : c.val = byteAt r.payload 0) (h : c.val / 2 < s.sst.live.site.laneCount)
    (hm : ∃ m, s.zsc.meas = some m ∧ m.chan = c) : answerZeroNow r s = refuse r .busy s := by
  obtain ⟨m, hm, hmc⟩ := hm
  rw [answerZeroNow_channel hc, if_neg (by rw [chanPresent]; simpa using h)]
  exact if_pos (by simp [hm, hmc])

/-- Where the channel's lane is present and another channel, or none, is being measured, the scan list decides. -/
theorem answerZeroNow_scan (hc : c.val = byteAt r.payload 0) (h : c.val / 2 < s.sst.live.site.laneCount)
    (hm : ∀ m, s.zsc.meas = some m → m.chan ≠ c) : answerZeroNow r s =
      if scansChan s.sst.live.conv.scanList c then accept r (changeZero c (fun z => { z with requested := true }) s)
      else refuse r .state s := by
  rw [answerZeroNow_channel hc, if_neg (by rw [chanPresent]; simpa using h), if_neg (by rw [Option.any_eq_true]; simpa using hm)]
  cases scansChan s.sst.live.conv.scanList c <;> rfl

end ZeroNowRows

/-! ### The setup requests (R177, R178) -/

theorem inSetup_busy {s : State} (h : s.sst.storeBusy = true) (r : Request) (rule : State → State) :
    inSetup r rule s = refuse r .busy s := if_pos h

theorem inSetup_other {s : State} (h : s.sst.storeBusy = false) (hm : s.cmn.mode ≠ .setup) (r : Request) (rule : State → State) :
    inSetup r rule s = refuse r .state s := by
  simp [inSetup, h, hm]

theorem inSetup_setup {s : State} (h : s.sst.storeBusy = false) (hm : s.cmn.mode = .setup) (r : Request) (rule : State → State) :
    inSetup r rule s = rule s := by
  simp [inSetup, h, hm]

theorem answerSetupBegin_busy {s : State} (h : s.sst.storeBusy = true) (r : Request) : answerSetupBegin r s = refuse r .busy s :=
  if_pos h

theorem answerSetupBegin_setup {s : State} (h : s.sst.storeBusy = false) (hm : s.cmn.mode = .setup) (r : Request) :
    answerSetupBegin r s = refuse r .state s := by
  simp [answerSetupBegin, h, hm]

theorem answerSetupBegin_ok {s : State} (h : s.sst.storeBusy = false) (hm : s.cmn.mode ≠ .setup) (r : Request) :
    answerSetupBegin r s = accept r { s with sst.working := some (newWorking s), cmn.mode := .setup } := by
  simp [answerSetupBegin, h, hm]

section CommitRows

variable {s : State} (hb : s.sst.storeBusy = false) (hm : s.cmn.mode = .setup) (r : Request)

include hb hm

theorem answerCommit_retained (hr : s.sst.retained ≠ none) : answerCommit r s = refuse r .busy s := by
  rw [answerCommit, inSetup_setup hb hm]
  exact if_pos (Option.isSome_iff_ne_none.mpr hr)

/-- Where no generation is retained the checks decide: a failed one refuses the commit, otherwise the store write begins. -/
theorem answerCommit_checked (hr : s.sst.retained = none) {w : Settings} (hw : s.sst.working = some w) : answerCommit r s =
    match commitFailure s w with
    | some (param, entry) => reply r .badValue (.badSetting param entry) s
    | none => { s with sst.storeBusy := true, lki.heldCommit := some r.tag } := by
  rw [answerCommit, inSetup_setup hb hm, if_neg (by simp [hr]), hw]
  rfl

end CommitRows

end Sys2Proof.Machine

namespace Sys2Proof.Proofs

open Sys2Proof.Machine
open Sys2Proof.Safety

/-- Settles O42: each row of the table is a use of `serve`, whose judging is the same for all. -/
theorem requestsAreJudged : Obligations.RequestsAreJudged := by
  unfold Obligations.RequestsAreJudged
  intro tableLengths rows
  refine ⟨?_, fun r s h hu => unknownType_answered h fun hmem => ?_⟩
  · have hrows : ∀ row ∈ rows, JudgedBy row.2.1 row.1 row.2.2.1 row.2.2.2 := by
      simp only [rows, List.forall_mem_cons]
      and_intros
      on_goal 23 => exact judgedBy_of_serve (fun _ => rfl) tableWriteFits_iff
      on_goal 30 => exact fun _ h => absurd h List.not_mem_nil
      all_goals exact judgedBy_of_serve (fun _ => rfl) (lengthIn_iff (by simp [or_comm]))
    exact hrows
  · obtain ⟨row, hrow, hcode⟩ := List.mem_map.mp (show r.type.toNat ∈ rows.map (·.1) from hmem)
    exact hu row hrow hcode

/-- Settles O43, each request by its answer; STATUS clears its flags after it has shown them. -/
theorem statusIdentRestart : Obligations.StatusIdentRestart := by
  unfold Obligations.StatusIdentRestart
  refine fun r s hp => ⟨fun h => ?_, fun h => ?_, fun h hk => ?_⟩
  · refine ⟨_, serve_open h (by simp [hp]), ?_⟩
    have hans : answerStatus r (dropRequest s) =
        reply r .ok (.status (statusBody (dropRequest s))) (dropRequest (withoutLossFlags s)) := giveAnswer_withoutLossFlags _ _
    rw [hans]
    exact reply_answered r _ _ (withoutLossFlags s) h.queues.held
  · exact ⟨_, serve_open h (by simp [hp]), reply_of_asks h rfl _ _⟩
  · exact ⟨_, serve_keyed h (by simp [hp]) hk, reply_of_asks h rfl _ _⟩

/-- CONDITIONS and ACK_CONDITIONS (R161). -/
theorem conditions_views {r : Request} {s : State} (h : Asks 0x02 r s) (hl : r.payload.length = 2) :
    ∃ t, exec .conditions s = .next t ∧
      (64 < byteAt r.payload 0 ∨ 1 < byteAt r.payload 1 → AnsweredFrom r .badValue .empty [] s t) ∧
      (byteAt r.payload 0 ≤ 64 → byteAt r.payload 1 ≤ 1 →
        let admitted := (allConds.drop (byteAt r.payload 0)).filter fun i =>
          byteAt r.payload 1 == 0 || s.cmn.conds[i].st != .clear || s.cmn.conds[i].changed
        AnsweredFrom r .ok (.conditions ((admitted.take 12).map fun i => condView i s.cmn.conds[i])
          ((admitted[11]?.map (·.val + 1)).getD 65)) [] s t) := by
  refine ⟨_, serve_open h (by simp [hl]), fun hb => ?_, fun h0 h1 => ?_⟩
  · rw [answerConditions_bad hb]
    exact refuse_of_asks h _
  · rw [answerConditions_view h0 h1]
    simp only [admits_selection h1]
    exact reply_of_asks h rfl _ _

theorem ackConditions_clears {r : Request} {s : State} (h : Asks 0x03 r s) (hl : r.payload.length = 1) :
    ∃ t, exec .ackConditions s = .next t ∧
      (1 < byteAt r.payload 0 → AnsweredFrom r .badValue .empty [] s t) ∧
      (byteAt r.payload 0 ≤ 1 → AnsweredFrom r .ok .empty [] (ackConditions (byteAt r.payload 0 == 1) s) t) := by
  refine ⟨_, serve_open h (by simp [hl]), fun hb => ?_, fun h1 => ?_⟩
  · rw [answerAck, if_pos hb]
    exact refuse_of_asks h _
  · rw [answerAck, if_neg h1.not_gt]
    exact reply_answered r .ok .empty (ackConditions (byteAt r.payload 0 == 1) s) h.queues.held

/-- RECOVER (R159). -/
theorem recover_moves {r : Request} {s : State} (h : Asks 0x04 r s) (hl : r.payload.length = 1)
    (hk : s.liu.deb[mkInput].level = true) :
    ∃ t, exec .recover s = .next t ∧
      (64 < byteAt r.payload 0 → AnsweredFrom r .badValue .empty [] s t) ∧
      (∀ ix : CondIx, ix.val = byteAt r.payload 0 →
        let e := movedEntry .recovering s.tbu.time s.cmn.conds[ix]
        ((kindOf ix).1.latching = true → s.cmn.conds[ix].st = .fault →
          AnsweredFrom r .ok .empty (changeReports ix e s) (withEntry ix e s) t) ∧
        ((kindOf ix).1.latching = false ∨ s.cmn.conds[ix].st ≠ .fault → AnsweredFrom r .state .empty [] s t)) := by
  refine ⟨_, serve_keyed h (by simp [hl]) hk, fun hb => ?_, fun ix hix => ⟨fun hlatch hst => ?_, fun hno => ?_⟩⟩
  · rw [answerRecover_bad hb]
    exact refuse_of_asks h _
  · rw [answerRecover_ix hix, dropRequest_cmn, if_neg (not_or.mpr ⟨by simp [hlatch], not_not_intro hst⟩)]
    have hp : Places (changeReports ix (movedEntry .recovering s.tbu.time s.cmn.conds[ix]) s)
        (dropRequest (withEntry ix (movedEntry .recovering s.tbu.time s.cmn.conds[ix]) s))
        (setCond ix .recovering (dropRequest s)) := setCond_places ix .recovering (dropRequest s)
    exact reply_places hp h.queues.held .ok .empty
  · rw [answerRecover_ix hix, dropRequest_cmn, if_pos hno]
    exact refuse_of_asks h _

/-- REPORT_MASK (R160). -/
theorem reportMask_sets {r : Request} {s : State} (h : Asks 0x05 r s) (hl : r.payload.length = 0 ∨ r.payload.length = 2) :
    ∃ t, exec .reportMask s = .next t ∧
      (r.payload = [] → AnsweredFrom r .ok (.masks s.cmn.mask) [] s t) ∧
      (r.payload ≠ [] → (16 < byteAt r.payload 0 ∨ 3 < byteAt r.payload 1) → AnsweredFrom r .badValue .empty [] s t) ∧
      (∀ (k : Fin 17) (v : MaskValue), r.payload ≠ [] → k.val = byteAt r.payload 0 →
        maskOfCode (byteAt r.payload 1) = some v →
        AnsweredFrom r .ok .empty [] { s with cmn := { s.cmn with mask := put s.cmn.mask k v } } t) := by
  refine ⟨_, serve_open h (by simpa using hl), fun hp => ?_, fun hp hb => ?_, fun k v hp hk hv => ?_⟩
  · rw [answerMask_read hp]
    exact reply_of_asks h rfl _ _
  · rw [answerMask_bad hp hb]
    exact refuse_of_asks h _
  · rw [answerMask_set hp hk hv]
    exact reply_of_asks (x := { s with cmn.mask := put s.cmn.mask k v }) h rfl _ _

/-- Settles O44, each request by its own lemma. -/
theorem conditionRequests : Obligations.ConditionRequests := by
  unfold Obligations.ConditionRequests
  refine ⟨fun r s => ⟨fun h hl => conditions_views h hl, fun h hl => ?ack⟩,
    fun r s => ⟨fun h hl hk => ?recover, fun h hl => reportMask_sets h hl⟩⟩
  case ack =>
    obtain ⟨t, ht, hbad, hok⟩ := ackConditions_clears h hl
    refine ⟨t, ht, hbad, fun h1 => ?_⟩
    have hflag : (s.lki.coldInd && !(byteAt r.payload 0 == 1)) = if byteAt r.payload 0 = 1 then false else s.lki.coldInd := by
      split <;> simp [*]
    have hack := hok h1
    rw [ackConditions, hflag] at hack
    exact hack
  case recover =>
    obtain ⟨t, ht, hbad, hmove⟩ := recover_moves h hl hk
    refine ⟨t, ht, hbad, fun ix hix => ?_⟩
    obtain ⟨hok, hstate⟩ := hmove ix hix
    refine ⟨fun hlatch hst => ?_, hstate⟩
    have hans := hok hlatch hst
    rw [movedEntry, if_neg (by rw [hst]; decide)] at hans
    exact hans

/-- CONVERT_ONE (R21). -/
theorem convertOne_pends {r : Request} {s : State} (h : Asks 0x40 r s) (hl : r.payload.length = 2) :
    ∃ t, exec .convertOne s = .next t ∧
      (s.liu.deb[mkInput].level = false → AnsweredFrom r .access .empty [] s t) ∧
      (s.liu.deb[mkInput].level = true →
        (7 < byteAt r.payload 0 ∨ 3 < byteAt r.payload 1 → AnsweredFrom r .badValue .empty [] s t) ∧
        (∀ (c : Fin 8) (g : Fin 4), c.val = byteAt r.payload 0 → g.val = byteAt r.payload 1 →
          (s.csq.single ≠ none → AnsweredFrom r .busy .empty [] s t) ∧
          (s.csq.single = none →
            AnsweredFrom r .ok .empty [] { s with csq := { s.csq with single := some ⟨c, g, false⟩ } } t))) := by
  cases hk : s.liu.deb[mkInput].level
  · exact ⟨_, serve_locked h (by simp [lengthIn, hl]) hk, fun _ => refuse_of_asks h _, nofun⟩
  refine ⟨_, serve_keyed h (by simp [hl]) hk, nofun, fun _ => ⟨fun hb => ?_, fun c g hc hg => ⟨fun hs => ?_, fun hs => ?_⟩⟩⟩
  · rw [answerConvertOne_bad hb]
    exact refuse_of_asks h _
  · rw [answerConvertOne_busy (s := dropRequest s) hc hg hs]
    exact refuse_of_asks h _
  · rw [answerConvertOne_ok (s := dropRequest s) hc hg hs]
    exact reply_of_asks (x := { s with csq.single := some ⟨c, g, false⟩ }) h rfl _ _

/-- ZERO_NOW (R40), the key at MAINTAIN, for a channel of the device. -/
theorem zeroNow_channel {r : Request} {s : State} (h : Asks 0x41 r s) {c : Chan} (hc : c.val = byteAt r.payload 0) :
    let t := settle (answerZeroNow r (dropRequest s))
    (s.sst.live.site.laneCount ≤ c.val / 2 → AnsweredFrom r .badValue .empty [] s t) ∧
    (c.val / 2 < s.sst.live.site.laneCount →
      ((∃ m, s.zsc.meas = some m ∧ m.chan = c) → AnsweredFrom r .busy .empty [] s t) ∧
      ((∀ m, s.zsc.meas = some m → m.chan ≠ c) →
        (scansChan s.sst.live.conv.scanList c = false → AnsweredFrom r .state .empty [] s t) ∧
        (scansChan s.sst.live.conv.scanList c = true →
          AnsweredFrom r .ok .empty [] (changeZero c (fun z => { z with requested := true }) s) t))) := by
  refine ⟨fun habsent => ?_, fun hpresent => ⟨fun hm => ?_, fun hm => ⟨fun hscan => ?_, fun hscan => ?_⟩⟩⟩
  · rw [answerZeroNow_absent (s := dropRequest s) hc habsent]
    exact refuse_of_asks h _
  · rw [answerZeroNow_busy (s := dropRequest s) hc hpresent hm]
    exact refuse_of_asks h _
  · rw [answerZeroNow_scan (s := dropRequest s) hc hpresent hm, dropRequest_sst, hscan]
    exact refuse_of_asks h _
  · rw [answerZeroNow_scan (s := dropRequest s) hc hpresent hm, dropRequest_sst, hscan]
    exact reply_answered r .ok .empty (changeZero c (fun z => { z with requested := true }) s) h.queues.held

/-- Settles O53, from the rows of the two requests. -/
theorem convertOneAndZeroNow : Obligations.ConvertOneAndZeroNow := by
  unfold Obligations.ConvertOneAndZeroNow
  refine fun r s => ⟨fun h hl => convertOne_pends h hl, fun h hl => ?_⟩
  cases hk : s.liu.deb[mkInput].level
  · exact ⟨_, serve_locked h (by simp [lengthIn, hl]) hk, fun _ => refuse_of_asks h _, nofun⟩
  refine ⟨_, serve_keyed h (by simp [hl]) hk, nofun, fun _ => ⟨fun hb => ?_, fun c hc => zeroNow_channel h hc⟩⟩
  rw [answerZeroNow_bad hb]
  exact refuse_of_asks h _

/-- SETUP_BEGIN (R177). -/
theorem setupBegin_answered {r : Request} {s : State} (h : Asks 0x30 r s) (hp : r.payload = [])
    (hk : s.liu.deb[mkInput].level = true) : ∃ t, exec .setupBegin s = .next t ∧
      (s.sst.storeBusy = true → AnsweredFrom r .busy .empty [] s t) ∧
      (s.sst.storeBusy = false → s.cmn.mode = .setup → AnsweredFrom r .state .empty [] s t) ∧
      (s.sst.storeBusy = false → s.cmn.mode ≠ .setup →
        AnsweredFrom r .ok .empty [] { s with sst.working := some (newWorking s), cmn.mode := .setup } t) := by
  refine ⟨_, serve_keyed h (by simp [hp]) hk, fun hb => ?_, fun hb hm => ?_, fun hb hm => ?_⟩
  · rw [answerSetupBegin_busy (s := dropRequest s) hb]
    exact refuse_of_asks h _
  · rw [answerSetupBegin_setup (s := dropRequest s) hb hm]
    exact refuse_of_asks h _
  · rw [answerSetupBegin_ok (s := dropRequest s) hb hm]
    exact reply_of_asks (x := { s with sst.working := some (newWorking s), cmn.mode := .setup }) h rfl _ _

/-- What a request that needs SETUP is answered outside it, or during a store write (Table 12-6). -/
theorem inSetup_refused {c : Nat} {r : Request} {s : State} (h : Asks c r s) (rule : State → State) :
    (s.sst.storeBusy = true → AnsweredFrom r .busy .empty [] s (settle (inSetup r rule (dropRequest s)))) ∧
    (s.sst.storeBusy = false → s.cmn.mode ≠ .setup → AnsweredFrom r .state .empty [] s (settle (inSetup r rule (dropRequest s)))) := by
  refine ⟨fun hb => ?_, fun hb hm => ?_⟩
  · rw [inSetup_busy (s := dropRequest s) hb]
    exact refuse_of_asks h _
  · rw [inSetup_other (s := dropRequest s) hb hm]
    exact refuse_of_asks h _

/-- SETUP_ABANDON (R177). -/
theorem setupAbandon_answered {r : Request} {s : State} (h : Asks 0x32 r s) (hp : r.payload = [])
    (hk : s.liu.deb[mkInput].level = true) : ∃ t, exec .setupAbandon s = .next t ∧
      (s.sst.storeBusy = true → AnsweredFrom r .busy .empty [] s t) ∧
      (s.sst.storeBusy = false → s.cmn.mode ≠ .setup → AnsweredFrom r .state .empty [] s t) ∧
      (s.sst.storeBusy = false → s.cmn.mode = .setup → AnsweredFrom r .ok .empty [] (dropWorking s) t) := by
  obtain ⟨hbusy, hstate⟩ := inSetup_refused h fun s => accept r (dropWorking s)
  refine ⟨_, serve_keyed h (by simp [hp]) hk, hbusy, hstate, fun hb hm => ?_⟩
  rw [answerSetupAbandon, inSetup_setup (s := dropRequest s) hb hm]
  exact reply_answered r .ok .empty (dropWorking s) h.queues.held

/-- SETUP_COMMIT (R178), in SETUP with no store write in progress. -/
theorem setupCommit_inSetup {r : Request} {s : State} (h : Asks 0x31 r s) (hb : s.sst.storeBusy = false) (hm : s.cmn.mode = .setup) :
    let t := settle (answerCommit r (dropRequest s))
    (s.sst.retained ≠ none → AnsweredFrom r .busy .empty [] s t) ∧
    (s.sst.retained = none → ∀ w, s.sst.working = some w →
      (∀ p e, commitFailure s w = some (p, e) → AnsweredFrom r .badValue (.badSetting p e) [] s t) ∧
      (commitFailure s w = none → FormedFrom { dropRequest s with sst.storeBusy := true, lki.heldCommit := some r.tag } t)) := by
  refine ⟨fun hr => ?_, fun hr w hw => ⟨fun p e hf => ?_, fun hf => ?_⟩⟩
  · rw [answerCommit_retained (s := dropRequest s) hb hm r hr]
    exact refuse_of_asks h _
  all_goals
    have hcheck : commitFailure (dropRequest s) w = commitFailure s w := rfl
    rw [answerCommit_checked (s := dropRequest s) hb hm r hr hw, hcheck, hf]
  · exact reply_of_asks h rfl _ _
  · exact settle_formedFrom _

/-- Settles O54, each request by its own lemma. -/
theorem setupRequests : Obligations.SetupRequests := by
  unfold Obligations.SetupRequests
  refine ⟨fun r s hp hk => ⟨fun h => setupBegin_answered h hp hk, fun h => setupAbandon_answered h hp hk⟩, fun r s h hp hk => ?_⟩
  obtain ⟨hbusy, hstate⟩ := inSetup_refused h fun s =>
    if s.sst.retained.isSome then refuse r .busy s
    else match commitFailure s (s.sst.working.getD s.sst.live) with
      | some (param, entry) => reply r .badValue (.badSetting param entry) s
      | none => { s with sst.storeBusy := true, lki.heldCommit := some r.tag }
  exact ⟨_, serve_keyed h (by simp [hp]) hk, hbusy, hstate, fun hb hm => setupCommit_inSetup h hb hm⟩

end Sys2Proof.Proofs
end

section
/-! SUPPORT. Proofs about the settings by parameter number (12, section 12.7) and about PARAM_WRITE, PARAM_READ, TABLE_WRITE and TABLE_READ
(R177). -/

namespace Sys2Proof.Machine

open Sys2Proof.Safety

/-! ### Numbers of parameters -/

theorem ofNumber_number (p : Param) : Param.ofNumber p.number = some p := by
  cases p
  case startOpen i | stripSpacing i | signDist i | slipDist i | threshDist i | baseRef i | loopUse i | loopPol i | fch i | tempQ i =>
    revert i
    decide
  all_goals rfl

theorem number_of_single {n : Nat} {p : Param} (h : Param.single n = some p) : n = p.number := by
  fun_cases Param.single n
  case case60 =>
    rw [Param.single.eq_60] at h
    · cases h
    all_goals assumption
  all_goals
    cases h
    rfl

/-- A parameter of a run that a number names has that number. -/
theorem number_of_run {n base k : Nat} {f : Fin k → Param} {p : Param} (hf : ∀ i, (f i).number = base + i.val)
    (h : (inRun n base k).map f = some p) : n = p.number := by
  obtain ⟨i, hi, rfl⟩ := Option.map_eq_some_iff.mp h
  unfold inRun at hi
  split at hi
  next hn =>
    cases hi
    rw [hf]
    show n = base + (n - base)
    omega
  · cases hi

theorem number_of_ofNumber {n : Nat} {p : Param} (h : Param.ofNumber n = some p) : n = p.number := by
  simp only [Param.ofNumber, Option.orElse_eq_orElse, Option.orElse_eq_or, Option.or_eq_some_iff] at h
  rcases h with h | ⟨-, h | ⟨-, h | ⟨-, h | ⟨-, h | ⟨-, h | ⟨-, h | ⟨-, h | ⟨-, h | ⟨-, h | ⟨-, h⟩⟩⟩⟩⟩⟩⟩⟩⟩⟩
  · exact number_of_single h
  all_goals exact number_of_run (fun _ => rfl) h

theorem number_le (p : Param) : p.number ≤ 171 := by
  cases p
  case startOpen i | stripSpacing i | signDist i | slipDist i | threshDist i | baseRef i | loopUse i | loopPol i | fch i | tempQ i =>
    simp only [Param.number]
    omega
  all_goals decide

/-! ### Reading back (12, section 12.7) -/

theorem bounds_of_accepts {p : Param} {v : Int} (h : p.accepts v = true) : p.bounds.1 ≤ v ∧ v ≤ p.bounds.2 := by
  simp only [Param.accepts, Bool.and_eq_true, decide_eq_true_eq] at h
  exact h.1.1

theorem maskOfSet_setOfMask {m : Nat} (h : m < 64) : maskOfSet (setOfMask m) = m := by
  have hall : ∀ k : Fin 64, maskOfSet (setOfMask k.val) = k.val := by decide
  exact hall ⟨m, h⟩

/-- A flag of settings reads back: 0 stands for true and 1 for false. -/
theorem codeOf_flag {v : Int} (h0 : 0 ≤ v) (h1 : v ≤ 1) : codeOf [true, false] (v == 0) = v := by
  obtain rfl | rfl : v = 0 ∨ v = 1 := by omega
  · rfl
  · rfl

theorem codeOf_loopPol {v : Int} (h0 : 0 ≤ v) (h1 : v ≤ 1) :
    codeOf [LoopPol.occHigh, .occLow] (nameOf .occHigh [.occHigh, .occLow] v) = v := by
  obtain rfl | rfl : v = 0 ∨ v = 1 := by omega
  · rfl
  · rfl

theorem codeOf_enfEdge {v : Int} (h0 : 0 ≤ v) (h3 : v ≤ 3) :
    codeOf [EnfEdge.off, .rise, .fall, .both] (nameOf .off [.off, .rise, .fall, .both] v) = v := by
  obtain rfl | rfl | rfl | rfl : v = 0 ∨ v = 1 ∨ v = 2 ∨ v = 3 := by omega
  all_goals rfl

theorem codeOf_traceMode {v : Int} (h0 : 0 ≤ v) (h2 : v ≤ 2) :
    codeOf [TraceMode.off, .running, .holdOnDivert] (nameOf .off [.off, .running, .holdOnDivert] v) = v := by
  obtain rfl | rfl | rfl : v = 0 ∨ v = 1 ∨ v = 2 := by omega
  all_goals rfl

/-- What a write in range stores is what a read gives, by the kind of the setting: a named value by its code, a vector at its place, TRACE_CH as a
mask, and a number as it is, being not negative where it is stored as such. -/
theorem get_set {p : Param} {v : Int} (st : Settings) (h : p.accepts v = true) : Param.get (Param.set st v p) p = v := by
  obtain ⟨hlow, hhigh⟩ := bounds_of_accepts h
  cases p
  all_goals simp only [Param.get, Param.set, Param.bounds, put_getElem_self, Option.getD_some] at hlow hhigh ⊢
  case startOpen i => exact codeOf_flag hlow hhigh
  case loopUse i => exact codeOf_flag hlow hhigh
  case loopPol i => exact codeOf_loopPol hlow hhigh
  case enfEdge => exact codeOf_enfEdge hlow hhigh
  case traceMode => exact codeOf_traceMode hlow hhigh
  case traceCh =>
    rw [maskOfSet_setOfMask (by omega)]
    exact Int.toNat_of_nonneg hlow
  all_goals exact Int.toNat_of_nonneg (by omega)

/-! ### Reads from a source (R177) -/

theorem readFrom_unknown (r : Request) (source : Nat) (read : Settings → AnswerBody) (s : State) :
    readFrom r source false read s = refuse r .badValue s := rfl

/-- What a read of a known setting is answered, by its source and the device mode. -/
theorem readFrom_answered {c : Nat} {r : Request} {s : State} (h : Asks c r s) (source : Nat) (read : Settings → AnswerBody) :
    let t := settle (readFrom r source true read (dropRequest s))
    (source = 0 → AnsweredFrom r .ok (read s.sst.live) [] s t) ∧
    (source = 1 → s.cmn.mode = .setup → ∀ w, s.sst.working = some w → AnsweredFrom r .ok (read w) [] s t) ∧
    (source = 1 → s.cmn.mode ≠ .setup → AnsweredFrom r .state .empty [] s t) ∧
    (1 < source → AnsweredFrom r .badValue .empty [] s t) := by
  refine ⟨fun h0 => ?_, fun h1 hm w hw => ?_, fun h1 hm => ?_, fun hs => ?_⟩
  · subst h0
    exact reply_of_asks h rfl _ _
  · subst h1
    have hread : readFrom r 1 true read (dropRequest s) = reply r .ok (read w) (dropRequest s) := by simp [readFrom, hm, hw]
    rw [hread]
    exact reply_of_asks h rfl _ _
  · subst h1
    have hread : readFrom r 1 true read (dropRequest s) = refuse r .state (dropRequest s) := by simp [readFrom, hm]
    rw [hread]
    exact refuse_of_asks h _
  · have hread : readFrom r source true read (dropRequest s) = refuse r .badValue (dropRequest s) := by simp [readFrom, hs]
    rw [hread]
    exact refuse_of_asks h _

theorem readTable_scan {n e : Nat} {j : Fin 16} (hn : n = 21) (hj : j.val = e) (st : Settings) :
    readTable n e st = some (.scanEntry st.conv.scanList[j]) := by
  subst hn hj
  simp [readTable, scanListNo]

theorem readTable_class {n e : Nat} {j : Fin 16} (hn : n = 125) (hj : j.val = e) (st : Settings) :
    readTable n e st = some (.classEntry st.dec.classTable[j]) := by
  subst hn hj
  simp [readTable, scanListNo, classTableNo]

theorem readTable_limit {n e : Nat} {j : Fin 8} (hn : n = 126) (hj : j.val = e) (st : Settings) :
    readTable n e st = some (.limitRow st.dec.limitRows[j]) := by
  subst hn hj
  simp [readTable, scanListNo, classTableNo, limitRowsNo]

theorem readTable_none {n e : Nat} (h : (n ≠ 21 ∧ n ≠ 125 ∧ n ≠ 126) ∨ 15 < e ∨ (n = 126 ∧ 7 < e)) (st : Settings) :
    readTable n e st = none := by
  by_cases h21 : n = 21
  · simp [readTable, scanListNo, h21]
    omega
  by_cases h125 : n = 125
  · simp [readTable, scanListNo, classTableNo, h125]
    omega
  by_cases h126 : n = 126
  · simp [readTable, scanListNo, classTableNo, limitRowsNo, h126]
    omega
  · simp [readTable, scanListNo, classTableNo, limitRowsNo, h21, h125, h126]

/-- What a TABLE_READ of a known entry is answered. -/
theorem answerTableRead_answered {r : Request} {s : State} (h : Asks 0x36 r s) {body : Settings → AnswerBody}
    (hb : ∀ st, readTable (u16At r.payload 0) (byteAt r.payload 2) st = some (body st)) :
    let source := byteAt r.payload 3
    let t := settle (answerTableRead r (dropRequest s))
    (source = 0 → AnsweredFrom r .ok (body s.sst.live) [] s t) ∧
    (source = 1 → s.cmn.mode = .setup → ∀ w, s.sst.working = some w → AnsweredFrom r .ok (body w) [] s t) ∧
    (source = 1 → s.cmn.mode ≠ .setup → AnsweredFrom r .state .empty [] s t) ∧
    (1 < source → AnsweredFrom r .badValue .empty [] s t) := by
  simp only [answerTableRead, hb, Option.isSome_some, Option.getD_some]
  exact readFrom_answered h _ body

/-! ### Which values a parameter takes (12, section 12.7) -/

/-- The ranges of 12, section 12.7: the numbers from the first to the second, and the values from the third to the fourth. -/
def paramRanges : List (Nat × Nat × Int × Int) :=
  [(1, 1, 1, 3), (2, 4, 0, 1), (5, 7, 1000, 5000), (8, 10, 20000, 2000000), (11, 13, 20000, 3000000), (14, 16, 40000, 4000000),
   (20, 20, 16, 999), (22, 22, -262144, 262143), (23, 23, -65535, 65535), (24, 24, 10, 3600), (25, 25, -262144, 262136),
   (26, 26, 0, 262143), (27, 27, 1, 255), (30, 30, 1, 262143), (31, 31, 1, 262143), (32, 32, 1, 64), (33, 33, 16, 1024),
   (34, 34, 0, 16), (35, 40, -262144, 262136), (41, 41, 16, 1024), (42, 42, 10, 3600), (43, 43, 60, 86400), (44, 44, 0, 524280),
   (45, 45, 0, 524280), (50, 59, 0, 1), (60, 69, 0, 1), (70, 70, 1, 500), (71, 71, 10, 3600), (72, 72, 4, 100), (73, 73, 0, 3),
   (80, 80, 5000, 40000), (81, 81, 500, 5000), (82, 82, 500, 40000), (83, 83, 3000, 30000), (84, 84, 100, 10000), (85, 85, 0, 500),
   (86, 86, 100, 3000), (90, 95, 1, 1048575), (96, 104, 2048, 8191), (105, 105, 1, 500), (106, 106, 0, 500), (107, 107, 0, 500),
   (108, 108, 1, 50), (109, 109, 500, 3000), (110, 110, 500, 10000), (120, 122, 500, 20000), (123, 123, 1000, 100000),
   (124, 124, 1, 13), (127, 127, 20, 2000), (140, 140, 0, 100), (141, 141, 300, 10000), (142, 142, 30, 3600), (143, 143, 100, 5000),
   (150, 150, 5000, 200000), (151, 151, 1, 8), (152, 152, 10, 3600), (153, 153, 0, 600), (154, 154, 10, 1800), (155, 155, 0, 3600),
   (156, 156, 10, 3600), (157, 157, 10, 3600), (158, 158, 30, 7200), (159, 159, 1000, 100000), (160, 160, 0, 2), (161, 161, 0, 63),
   (170, 170, 9600, 115200), (171, 171, 5, 3600)]

/-- The bounds that the ranges give a number. -/
def boundsOfNumber (n : Nat) : List (Int × Int) := (paramRanges.filter fun x => x.1 ≤ n && n ≤ x.2.1).map (·.2.2)

/-- A number has the bounds of the parameter that it names, and no others. -/
theorem boundsOfNumber_eq (n : Nat) : boundsOfNumber n = (Param.ofNumber n).toList.map Param.bounds := by
  by_cases hn : n < 172
  · have hall : ∀ k : Fin 172, boundsOfNumber k.val = (Param.ofNumber k.val).toList.map Param.bounds := by decide +kernel
    exact hall ⟨n, hn⟩
  · have hnone : Param.ofNumber n = none := by
      rw [Option.eq_none_iff_forall_ne_some]
      intro p hp
      have := number_of_ofNumber hp
      have := number_le p
      omega
    have hrows : ∀ x ∈ paramRanges, x.2.1 ≤ 171 := by decide
    have hnil : (paramRanges.filter fun x => x.1 ≤ n && n ≤ x.2.1) = [] := by
      rw [List.filter_eq_nil_iff]
      intro x hx
      have := hrows x hx
      simp
      omega
    rw [boundsOfNumber, hnil, hnone]
    rfl

/-- The number n takes the value v, by the ranges and the two settings that take not every value of theirs. -/
def NumberTakes (n : Nat) (v : Int) : Prop :=
  (∃ x ∈ paramRanges, x.1 ≤ n ∧ n ≤ x.2.1 ∧ x.2.2.1 ≤ v ∧ v ≤ x.2.2.2) ∧ (n = 23 → v ≠ 0) ∧
  (n = 170 → v = 9600 ∨ v = 19200 ∨ v = 38400 ∨ v = 57600 ∨ v = 115200)

theorem inRanges_iff (n : Nat) (v : Int) : (∃ x ∈ paramRanges, x.1 ≤ n ∧ n ≤ x.2.1 ∧ x.2.2.1 ≤ v ∧ v ≤ x.2.2.2) ↔
    ∃ p, Param.ofNumber n = some p ∧ p.bounds.1 ≤ v ∧ v ≤ p.bounds.2 := by
  have hbounds : (∃ x ∈ paramRanges, x.1 ≤ n ∧ n ≤ x.2.1 ∧ x.2.2.1 ≤ v ∧ v ≤ x.2.2.2) ↔
      ∃ b ∈ boundsOfNumber n, b.1 ≤ v ∧ v ≤ b.2 := by
    simp only [boundsOfNumber, List.mem_map, List.mem_filter, Bool.and_eq_true, decide_eq_true_eq]
    constructor
    · rintro ⟨x, hx, h1, h2, h3, h4⟩
      exact ⟨x.2.2, ⟨x, ⟨hx, h1, h2⟩, rfl⟩, h3, h4⟩
    · rintro ⟨b, ⟨x, ⟨hx, h1, h2⟩, rfl⟩, h3, h4⟩
      exact ⟨x, hx, h1, h2, h3, h4⟩
  rw [hbounds, boundsOfNumber_eq]
  simp

theorem accepts_iff (p : Param) (v : Int) : p.accepts v = true ↔ (p.bounds.1 ≤ v ∧ v ≤ p.bounds.2) ∧ (p.number = 23 → v ≠ 0) ∧
    (p.number = 170 → v = 9600 ∨ v = 19200 ∨ v = 38400 ∨ v = 57600 ∨ v = 115200) := by
  have hgain : p.number = 23 ↔ p = .tempGain :=
    ⟨fun h => Option.some_injective _ ((ofNumber_number p).symm.trans (h ▸ rfl)), fun h => h ▸ rfl⟩
  have hbaud : p.number = 170 ↔ p = .linkBaud :=
    ⟨fun h => Option.some_injective _ ((ofNumber_number p).symm.trans (h ▸ rfl)), fun h => h ▸ rfl⟩
  rw [hgain, hbaud]
  simp [Param.accepts, linkRates, imp_iff_not_or, and_assoc]

theorem numberTakes_iff (n : Nat) (v : Int) : NumberTakes n v ↔ ∃ p, Param.ofNumber n = some p ∧ p.accepts v = true := by
  simp only [NumberTakes, inRanges_iff, accepts_iff]
  constructor
  · rintro ⟨⟨p, hp, hb⟩, hgain, hbaud⟩
    rw [number_of_ofNumber hp] at hgain hbaud
    exact ⟨p, hp, hb, hgain, hbaud⟩
  · rintro ⟨p, hp, hb, hgain, hbaud⟩
    rw [← number_of_ofNumber hp] at hgain hbaud
    exact ⟨⟨p, hp, hb⟩, hgain, hbaud⟩

/-! ### Writes to the working copy (R177) -/

/-- A request at level MAINTAIN whose length fits, the key at MAINTAIN, is given to its rule. -/
theorem serve_fitting {code : Nat} {fits : List Byte → Bool} {rule : Request → State → State} {r : Request} {s : State}
    (h : Asks code r s) (hf : fits r.payload = true) (hk : s.liu.deb[mkInput].level = true) :
    serve code fits true rule s = .next (settle (rule r (dropRequest s))) := by
  have hm : maintain (dropRequest s) = true := hk
  rw [serve_spec _ _ _ h]
  simp [judgeRequest, hf, hm]

/-- The state with another working copy. -/
def withWorking (w : Settings) (s : State) : State := { s with sst := { s.sst with working := some w } }

section WriteOutcomes

variable {c : Nat} {r : Request} {s : State} (h : Asks c r s) (hb : s.sst.storeBusy = false) (hm : s.cmn.mode = .setup)

include h hb hm

/-- What a write in SETUP does where its change of the working copy w is w'. -/
theorem write_answered {f : Settings → Option Settings} {w w' : Settings} (hw : s.sst.working = some w) (hf : f w = some w') :
    AnsweredFrom r .ok .empty [] (withWorking w' s) (settle (inSetup r (changeWorking r f) (dropRequest s))) := by
  have hchange : changeWorking r f (dropRequest s) = accept r (withWorking w' (dropRequest s)) := by
    rw [changeWorking, dropRequest_sst, hw, Option.getD_some, hf]
    rfl
  rw [inSetup_setup (s := dropRequest s) hb hm, hchange]
  exact reply_answered r .ok .empty (withWorking w' s) h.queues.held

/-- What a write in SETUP does whose change no working copy takes. -/
theorem write_refused {f : Settings → Option Settings} (hf : ∀ w, f w = none) :
    AnsweredFrom r .badValue .empty [] s (settle (inSetup r (changeWorking r f) (dropRequest s))) := by
  have hchange : changeWorking r f (dropRequest s) = refuse r .badValue (dropRequest s) := by rw [changeWorking, hf]
  rw [inSetup_setup (s := dropRequest s) hb hm, hchange]
  exact refuse_of_asks h _

end WriteOutcomes

theorem writeParam_of_takes {n : Nat} {v : Int} {p : Param} (hp : Param.ofNumber n = some p) (hv : p.accepts v = true)
    (w : Settings) : writeParam n v w = some (Param.set w v p) := by
  simp [writeParam, hp, hv]

theorem writeParam_none {n : Nat} {v : Int} (h : ¬ NumberTakes n v) (w : Settings) : writeParam n v w = none := by
  rw [numberTakes_iff] at h
  cases hp : Param.ofNumber n with
  | none => simp [writeParam, hp]
  | some p =>
    have hv : ¬ p.accepts v = true := fun hv => h ⟨p, hp, hv⟩
    simp [writeParam, hp, hv]

/-! ### Table entries (Tables 2-2, 7-3, 7-5) -/

section TableEntries

variable {p : List Byte}

theorem scanEntryOf_some {c : Fin 8} {g : Fin 4} (hc : c.val = byteAt p 3) (hg : g.val = byteAt p 4) (h5 : 1 ≤ byteAt p 5)
    (h6 : byteAt p 6 ≤ 1) : scanEntryOf p = some ⟨c, g, byteAt p 5, byteAt p 6 == 1⟩ := by
  have hlt : byteAt p 3 < 8 ∧ byteAt p 4 < 4 := ⟨hc ▸ c.isLt, hg ▸ g.isLt⟩
  have hce : (⟨byteAt p 3, hlt.1⟩ : Fin 8) = c := Fin.ext hc.symm
  have hge : (⟨byteAt p 4, hlt.2⟩ : Fin 4) = g := Fin.ext hg.symm
  simp [scanEntryOf, hlt, hce, hge, h5, h6]

theorem scanEntryOf_none (h : 7 < byteAt p 3 ∨ 3 < byteAt p 4 ∨ byteAt p 5 = 0 ∨ 1 < byteAt p 6) : scanEntryOf p = none := by
  unfold scanEntryOf
  split_ifs with hlt hrest
  · simp only [Bool.and_eq_true, decide_eq_true_eq] at hrest
    omega
  · rfl
  · rfl

/-- The fields of a limit row lie in the ranges of Table 7-5. -/
def limitsInRange (p : List Byte) : Bool :=
  within 1000 200000 (s32At p 3) && within 1000 60000 (s32At p 7) && within 1000 120000 (s32At p 11) && within 1000 180000 (s32At p 15)

/-- The limit row of a TABLE_WRITE. -/
def limitRowWith (p : List Byte) : LimitRow := ⟨(s32At p 3).toNat, (s32At p 7).toNat, (s32At p 11).toNat, (s32At p 15).toNat⟩

theorem limitRowOf_eq (p : List Byte) : limitRowOf p = if limitsInRange p then some (limitRowWith p) else none := rfl

theorem limitsInRange_iff (p : List Byte) : limitsInRange p = true ↔
    (1000 ≤ s32At p 3 ∧ s32At p 3 ≤ 200000) ∧ (1000 ≤ s32At p 7 ∧ s32At p 7 ≤ 60000) ∧
      (1000 ≤ s32At p 11 ∧ s32At p 11 ≤ 120000) ∧ (1000 ≤ s32At p 15 ∧ s32At p 15 ≤ 180000) := by
  simp [limitsInRange, within, and_assoc]

/-- The fields of a class entry but its row lie in the ranges of Table 7-3. -/
def classInRange (p : List Byte) : Bool :=
  byteAt p 3 ≤ 1 && 1 ≤ byteAt p 4 && byteAt p 4 ≤ 12 && 1 ≤ byteAt p 5 && byteAt p 5 ≤ 12 &&
    (Vector.ofFn fun j : Fin 8 => byteAt p (6 + j.val)).toList.all (· ≤ 3) &&
    (Vector.ofFn fun j : Fin 8 => byteAt p (14 + j.val)).toList.all (· ≤ 3) && byteAt p 23 ≤ 1

theorem classInRange_iff (p : List Byte) : classInRange p = true ↔
    byteAt p 3 ≤ 1 ∧ (1 ≤ byteAt p 4 ∧ byteAt p 4 ≤ 12) ∧ (1 ≤ byteAt p 5 ∧ byteAt p 5 ≤ 12) ∧
      (∀ j : Fin 8, byteAt p (6 + j.val) ≤ 3 ∧ byteAt p (14 + j.val) ≤ 3) ∧ byteAt p 23 ≤ 1 := by
  simp [classInRange, and_assoc, forall_and, Fin.forall_iff]

/-- The class entry of a TABLE_WRITE whose row is given. -/
def classEntryWith (p : List Byte) (row : Fin 8) : ClassEntry where
  valid := byteAt p 3 == 1
  axMin := byteAt p 4
  axMax := byteAt p 5
  pattern := Vector.ofFn fun j => byteAt p (6 + j.val)
  mask := Vector.ofFn fun j => byteAt p (14 + j.val)
  row := row
  heavy := byteAt p 23 == 1

theorem classEntryOf_row {row : Fin 8} (hr : row.val = byteAt p 22) :
    classEntryOf p = if classInRange p then some (classEntryWith p row) else none := by
  have hlt : byteAt p 22 < 8 := hr ▸ row.isLt
  have hre : (⟨byteAt p 22, hlt⟩ : Fin 8) = row := Fin.ext hr.symm
  simp only [classEntryOf, dif_pos hlt, hre]
  rfl

theorem classEntryOf_none (h : ¬ classInRange p = true ∨ 7 < byteAt p 22) : classEntryOf p = none := by
  by_cases hlt : byteAt p 22 < 8
  · have hc : ¬ classInRange p = true := h.resolve_right (by omega)
    rw [classEntryOf_row (row := ⟨byteAt p 22, hlt⟩) rfl, if_neg hc]
  · exact dif_neg hlt

/-! ### Table writes by the table named -/

theorem writeTable_scan (hn : u16At p 0 = 21) (w : Settings) : writeTable p w =
    if h : byteAt p 2 < 16 then
      (scanEntryOf p).map fun x => { w with conv := { w.conv with scanList := put w.conv.scanList ⟨byteAt p 2, h⟩ x } }
    else none := by
  simp only [writeTable, hn, scanListNo, if_true]
  rfl

theorem writeTable_limit (hn : u16At p 0 = 126) (w : Settings) : writeTable p w =
    if h : byteAt p 2 < 8 then
      (limitRowOf p).map fun x => { w with dec := { w.dec with limitRows := put w.dec.limitRows ⟨byteAt p 2, h⟩ x } }
    else none := by
  simp only [writeTable, hn, scanListNo, classTableNo, limitRowsNo, if_true, Nat.reduceEqDiff, if_false]
  rfl

theorem writeTable_class (hn : u16At p 0 = 125) (w : Settings) : writeTable p w =
    if h : byteAt p 2 < 16 then
      (classEntryOf p).map fun x => { w with dec := { w.dec with classTable := put w.dec.classTable ⟨byteAt p 2, h⟩ x } }
    else none := by
  simp only [writeTable, hn, scanListNo, classTableNo, if_true, Nat.reduceEqDiff, if_false]
  rfl

theorem writeTable_other (h1 : u16At p 0 ≠ 21) (h2 : u16At p 0 ≠ 125) (h3 : u16At p 0 ≠ 126) (w : Settings) : writeTable p w = none := by
  simp [writeTable, scanListNo, classTableNo, limitRowsNo, h1, h2, h3]

end TableEntries

end Sys2Proof.Machine

namespace Sys2Proof.Proofs

open Sys2Proof.Machine
open Sys2Proof.Safety

/-- Settles O57, from the laws of numbers and of reading back, and from what a read of a known setting is answered. -/
theorem paramsReadBack : Obligations.ParamsReadBack := by
  unfold Obligations.ParamsReadBack
  refine ⟨ofNumber_number, fun _ _ => number_of_ofNumber, fun _ _ st => get_set st, fun r s => ⟨fun h hl => ?_, fun h hl => ?_⟩⟩
  · refine ⟨_, serve_open h (by simp [hl]), fun p hp => ?_, fun hp => ?_⟩
    · simp only [answerParamRead, hp, Option.isSome_some, Option.map_some, Option.getD_some]
      exact readFrom_answered h _ fun st => .param (Param.get st p)
    · simp only [answerParamRead, hp, Option.isSome_none, readFrom_unknown]
      exact refuse_of_asks h _
  · refine ⟨_, serve_open h (by simp [hl]), fun j hn hj => ?_, fun j hn hj => ?_, fun j hn hj => ?_, fun hbad => ?_⟩
    · exact answerTableRead_answered h (readTable_scan hn hj)
    · exact answerTableRead_answered h (readTable_class hn hj)
    · exact answerTableRead_answered h (readTable_limit hn hj)
    · simp only [answerTableRead, readTable_none hbad, Option.isSome_none, readFrom_unknown]
      exact refuse_of_asks h _

/-- PARAM_WRITE in SETUP (R177). -/
theorem paramWrite_inSetup {r : Request} {s : State} (h : Asks 0x33 r s) (hb : s.sst.storeBusy = false) (hm : s.cmn.mode = .setup) :
    let n := u16At r.payload 0
    let v := s32At r.payload 2
    let t := settle (answerParamWrite r (dropRequest s))
    (∀ w, s.sst.working = some w → NumberTakes n v →
      ∃ p, Param.ofNumber n = some p ∧ AnsweredFrom r .ok .empty [] (withWorking (Param.set w v p) s) t) ∧
    (¬ NumberTakes n v → AnsweredFrom r .badValue .empty [] s t) := by
  refine ⟨fun w hw ht => ?_, fun ht => ?_⟩
  · obtain ⟨p, hp, hv⟩ := (numberTakes_iff _ _).mp ht
    exact ⟨p, hp, write_answered h hb hm hw (writeParam_of_takes hp hv w)⟩
  · exact write_refused h hb hm (writeParam_none ht)

section TableWrites

variable {r : Request} {s : State} (h : Asks 0x35 r s) (hb : s.sst.storeBusy = false) (hm : s.cmn.mode = .setup) {w : Settings}

include h hb hm

/-- A write of the scan list in SETUP (Table 2-2). -/
theorem tableWrite_scan (hw : s.sst.working = some w) {j : Fin 16} {c : Fin 8} {g : Fin 4} (hn : u16At r.payload 0 = 21)
    (hj : j.val = byteAt r.payload 2) (hc : c.val = byteAt r.payload 3) (hg : g.val = byteAt r.payload 4)
    (h5 : 1 ≤ byteAt r.payload 5) (h6 : byteAt r.payload 6 ≤ 1) :
    AnsweredFrom r .ok .empty [] (withWorking { w with conv := { w.conv with
      scanList := put w.conv.scanList j ⟨c, g, byteAt r.payload 5, byteAt r.payload 6 == 1⟩ } } s)
      (settle (answerTableWrite r (dropRequest s))) := by
  have hlt : byteAt r.payload 2 < 16 := hj ▸ j.isLt
  have hje : (⟨byteAt r.payload 2, hlt⟩ : Fin 16) = j := Fin.ext hj.symm
  refine write_answered h hb hm hw ?_
  rw [writeTable_scan hn, dif_pos hlt, hje, scanEntryOf_some hc hg h5 h6]
  rfl

/-- A write of a limit row in SETUP (Table 7-5). -/
theorem tableWrite_limit (hw : s.sst.working = some w) {j : Fin 8} (hn : u16At r.payload 0 = 126) (hj : j.val = byteAt r.payload 2)
    (hl : limitsInRange r.payload = true) :
    AnsweredFrom r .ok .empty [] (withWorking { w with dec := { w.dec with limitRows := put w.dec.limitRows j (limitRowWith r.payload) } } s)
      (settle (answerTableWrite r (dropRequest s))) := by
  have hlt : byteAt r.payload 2 < 8 := hj ▸ j.isLt
  have hje : (⟨byteAt r.payload 2, hlt⟩ : Fin 8) = j := Fin.ext hj.symm
  refine write_answered h hb hm hw ?_
  rw [writeTable_limit hn, dif_pos hlt, hje, limitRowOf_eq, if_pos hl]
  rfl

/-- A write of a class entry in SETUP (Table 7-3). -/
theorem tableWrite_class (hw : s.sst.working = some w) {j : Fin 16} {row : Fin 8} (hn : u16At r.payload 0 = 125)
    (hj : j.val = byteAt r.payload 2) (hc : classInRange r.payload = true) (hr : row.val = byteAt r.payload 22) :
    AnsweredFrom r .ok .empty [] (withWorking { w with dec := { w.dec with
      classTable := put w.dec.classTable j (classEntryWith r.payload row) } } s) (settle (answerTableWrite r (dropRequest s))) := by
  have hlt : byteAt r.payload 2 < 16 := hj ▸ j.isLt
  have hje : (⟨byteAt r.payload 2, hlt⟩ : Fin 16) = j := Fin.ext hj.symm
  refine write_answered h hb hm hw ?_
  rw [writeTable_class hn, dif_pos hlt, hje, classEntryOf_row hr, if_pos hc]
  rfl

/-- A write in SETUP that no working copy takes: an unknown entry, a field out of range, or an unknown table. -/
theorem tableWrite_refused (hbad :
    (u16At r.payload 0 = 21 ∧ (15 < byteAt r.payload 2 ∨ scanEntryOf r.payload = none)) ∨
    (u16At r.payload 0 = 126 ∧ (7 < byteAt r.payload 2 ∨ limitRowOf r.payload = none)) ∨
    (u16At r.payload 0 = 125 ∧ (15 < byteAt r.payload 2 ∨ classEntryOf r.payload = none)) ∨
    (u16At r.payload 0 ≠ 21 ∧ u16At r.payload 0 ≠ 125 ∧ u16At r.payload 0 ≠ 126)) :
    AnsweredFrom r .badValue .empty [] s (settle (answerTableWrite r (dropRequest s))) := by
  refine write_refused h hb hm fun w => ?_
  rcases hbad with ⟨hn, he | hf⟩ | ⟨hn, he | hf⟩ | ⟨hn, he | hf⟩ | ⟨h21, h125, h126⟩
  · rw [writeTable_scan hn, dif_neg (by omega)]
  · simp [writeTable_scan hn, hf]
  · rw [writeTable_limit hn, dif_neg (by omega)]
  · simp [writeTable_limit hn, hf]
  · rw [writeTable_class hn, dif_neg (by omega)]
  · simp [writeTable_class hn, hf]
  · exact writeTable_other h21 h125 h126 w

end TableWrites

/-- Settles O56, each write by its own lemma; the ranges are those of `paramRanges`. -/
theorem workingCopyWrites : Obligations.WorkingCopyWrites := by
  unfold Obligations.WorkingCopyWrites
  intro r s hk refusals written bad ranges takes
  refine ⟨fun h hl => ?_, fun h hf => ?_⟩
  · exact ⟨_, serve_keyed h (by simp [hl]) hk, inSetup_refused h _, fun hb hm => paramWrite_inSetup h hb hm⟩
  · refine ⟨_, serve_fitting h hf hk, inSetup_refused h _, fun hb hm => ⟨fun w hw => ⟨?scan, ?limit, ?classEntry⟩, ?badScan, ?badLimit,
      ?badClass, ?badTable⟩⟩
    case scan => exact fun j c g hn hj hc hg h5 h6 => tableWrite_scan h hb hm hw hn hj hc hg h5 h6
    case limit =>
      exact fun j hn hj a1 a2 b1 b2 c1 c2 d1 d2 => tableWrite_limit h hb hm hw hn hj
        ((limitsInRange_iff _).mpr ⟨⟨a1, a2⟩, ⟨b1, b2⟩, ⟨c1, c2⟩, ⟨d1, d2⟩⟩)
    case classEntry =>
      exact fun j row hn hj h3 a1 a2 b1 b2 hcodes hr h23 => tableWrite_class h hb hm hw hn hj
        ((classInRange_iff _).mpr ⟨h3, ⟨a1, a2⟩, ⟨b1, b2⟩, hcodes, h23⟩) hr
    case badScan =>
      exact fun hn hbad => tableWrite_refused h hb hm (.inl ⟨hn, hbad.imp_right scanEntryOf_none⟩)
    case badLimit =>
      refine fun hn hbad => tableWrite_refused h hb hm (.inr (.inl ⟨hn, hbad.imp_right fun hbad => ?_⟩))
      have hl := limitsInRange_iff r.payload
      rw [limitRowOf_eq, if_neg (fun hin => by have := hl.mp hin; omega)]
    case badClass =>
      refine fun hn hbad => tableWrite_refused h hb hm (.inr (.inr (.inl ⟨hn, hbad.imp_right fun hbad => ?_⟩)))
      by_cases hr : 7 < byteAt r.payload 22
      · exact classEntryOf_none (.inr hr)
      refine classEntryOf_none (.inl fun hin => ?_)
      obtain ⟨h3, h4, h5, hcodes, h23⟩ := (classInRange_iff _).mp hin
      rcases hbad with _ | _ | _ | _ | _ | ⟨j, hj⟩ | _ | _
      case inr.inr.inr.inr.inr.inl =>
        have := hcodes j
        omega
      all_goals omega
    case badTable => exact fun h21 h125 h126 => tableWrite_refused h hb hm (.inr (.inr (.inr ⟨h21, h125, h126⟩)))

end Sys2Proof.Proofs
end

section
/-! SUPPORT. Proofs about the commit checks (Table 12-7): each is a list of conditions with the failure that each carries, and the first
condition that does not hold gives the failure of the whole. -/

namespace Sys2Proof.Machine

open Sys2Proof.Safety

/-! ### Checks as conditions with their failures -/

/-- The failure of the first condition that does not hold. -/
def failOf (checks : List (Bool × Nat × Nat)) : Failure := (checks.find? fun c => !c.1).map (·.2)

/-- The failure of one condition. -/
def checkOf (c : Bool × Nat × Nat) : Failure := if c.1 then none else some c.2

@[simp] theorem failOf_nil : failOf [] = none := rfl

theorem failOf_cons (c : Bool × Nat × Nat) (cs : List (Bool × Nat × Nat)) : failOf (c :: cs) = (checkOf c).or (failOf cs) := by
  obtain ⟨b, f⟩ := c
  cases b <;> simp [failOf, checkOf]

theorem failOf_append (cs ds : List (Bool × Nat × Nat)) : failOf (cs ++ ds) = (failOf cs).or (failOf ds) := by
  induction cs with
  | nil => rfl
  | cons c cs ih => rw [List.cons_append, failOf_cons, failOf_cons, ih, Option.or_assoc]

theorem failOf_eq_none {cs : List (Bool × Nat × Nat)} : failOf cs = none ↔ ∀ c ∈ cs, c.1 = true := by
  simp [failOf]

theorem firstFailure_cons (f : Failure) (fs : List Failure) : firstFailure (f :: fs) = f.or (firstFailure fs) := by
  cases f <;> rfl

@[simp] theorem firstFailure_nil : firstFailure [] = none := rfl

theorem firstFailure_append (fs gs : List Failure) : firstFailure (fs ++ gs) = (firstFailure fs).or (firstFailure gs) := by
  induction fs with
  | nil => rfl
  | cons f fs ih => rw [List.cons_append, firstFailure_cons, firstFailure_cons, ih, Option.or_assoc]

theorem firstFailure_map {α : Type} {f : α → Failure} {g : α → Bool × Nat × Nat} (h : ∀ a, f a = checkOf (g a)) (xs : List α) :
    firstFailure (xs.map f) = failOf (xs.map g) := by
  induction xs with
  | nil => rfl
  | cons x xs ih => rw [List.map_cons, List.map_cons, firstFailure_cons, failOf_cons, ih, h]

/-- A condition asked of some elements only holds of the others. -/
theorem firstFailure_filter_map {α : Type} {p : α → Bool} {f : α → Failure} {g : α → Bool × Nat × Nat} (h : ∀ a, f a = checkOf (g a))
    (xs : List α) : firstFailure ((xs.filter p).map f) = failOf (xs.map fun a => (!p a || (g a).1, (g a).2)) := by
  induction xs with
  | nil => rfl
  | cons x xs ih =>
    rw [List.map_cons, failOf_cons]
    cases hp : p x
    · rw [List.filter_cons_of_neg (by simp [hp]), ih]
      simp [checkOf]
    · rw [List.filter_cons_of_pos hp, List.map_cons, firstFailure_cons, ih, h]
      rfl

theorem checkParam_eq (p : Param) (ok : Bool) : checkParam p ok = checkOf (ok, p.number, 255) := rfl

/-- A setting stored as a number lies in its range. -/
theorem inRange_eq {p : Param} {st : Settings} {x lo hi : Nat} (hg : p.get st = Int.ofNat x) (hb : p.bounds = (Int.ofNat lo, Int.ofNat hi))
    (h1 : p ≠ .tempGain) (h2 : p ≠ .linkBaud) : inRange st p = checkOf (decide (lo ≤ x ∧ x ≤ hi), p.number, 255) := by
  have hacc : p.accepts (p.get st) = decide (lo ≤ x ∧ x ≤ hi) := by
    have hgain : (p != .tempGain) = true := bne_iff_ne.mpr h1
    have hbaud : (p != .linkBaud) = true := bne_iff_ne.mpr h2
    simp [Param.accepts, hg, hb, hgain, hbaud]
  rw [inRange, hacc, checkParam_eq]

/-! ### Geometry (R4) -/

/-- The geometry checks, each with the failure it carries. -/
def geometryChecks (w : Settings) : List (Bool × Nat × Nat) :=
  let present : Lane → Bool := fun l => l.val < w.site.laneCount
  let lanes : List Lane := [0, 1, 2]
  [(decide (1 ≤ w.site.laneCount ∧ w.site.laneCount ≤ 3), 1, 255)] ++
  lanes.map (fun l => (present l || !w.site.startOpen[l], 2 + l.val, 255)) ++
  lanes.flatMap (fun l =>
    [(decide (1000 ≤ w.site.stripSpacing[l] ∧ w.site.stripSpacing[l] ≤ 5000), 5 + l.val, 255),
     (decide (20000 ≤ w.site.signDist[l] ∧ w.site.signDist[l] ≤ 2000000), 8 + l.val, 255),
     (decide (20000 ≤ w.site.slipDist[l] ∧ w.site.slipDist[l] ≤ 3000000), 11 + l.val, 255),
     (decide (40000 ≤ w.site.threshDist[l] ∧ w.site.threshDist[l] ≤ 4000000), 14 + l.val, 255)]) ++
  lanes.map (fun l => (!present l || decide (w.site.signDist[l] < w.site.slipDist[l]), 11 + l.val, 255)) ++
  lanes.map (fun l => (!present l || decide (w.site.slipDist[l] < w.site.threshDist[l]), 14 + l.val, 255))

theorem inRange_laneCount (w : Settings) :
    inRange w .laneCount = checkOf (decide (1 ≤ w.site.laneCount ∧ w.site.laneCount ≤ 3), 1, 255) :=
  inRange_eq rfl rfl nofun nofun

/-- The ranges of a lane's distances. -/
theorem laneRanges_eq (w : Settings) (l : Lane) :
    firstFailure ([Param.stripSpacing l, .signDist l, .slipDist l, .threshDist l].map (inRange w)) = failOf
      [(decide (1000 ≤ w.site.stripSpacing[l] ∧ w.site.stripSpacing[l] ≤ 5000), 5 + l.val, 255),
       (decide (20000 ≤ w.site.signDist[l] ∧ w.site.signDist[l] ≤ 2000000), 8 + l.val, 255),
       (decide (20000 ≤ w.site.slipDist[l] ∧ w.site.slipDist[l] ≤ 3000000), 11 + l.val, 255),
       (decide (40000 ≤ w.site.threshDist[l] ∧ w.site.threshDist[l] ≤ 4000000), 14 + l.val, 255)] := by
  simp only [List.map_cons, List.map_nil, firstFailure_cons, failOf_cons]
  rw [inRange_eq (p := .stripSpacing l) rfl rfl nofun nofun, inRange_eq (p := .signDist l) rfl rfl nofun nofun,
    inRange_eq (p := .slipDist l) rfl rfl nofun nofun, inRange_eq (p := .threshDist l) rfl rfl nofun nofun]
  rfl

theorem firstFailure_flatMap {α : Type} {f : α → List Failure} {g : α → List (Bool × Nat × Nat)}
    (h : ∀ a, firstFailure (f a) = failOf (g a)) (xs : List α) : firstFailure (xs.flatMap f) = failOf (xs.flatMap g) := by
  induction xs with
  | nil => rfl
  | cons x xs ih => rw [List.flatMap_cons, List.flatMap_cons, firstFailure_append, failOf_append, h, ih]

theorem checkGeometry_eq (w : Settings) : checkGeometry w = failOf (geometryChecks w) := by
  simp only [checkGeometry, geometryChecks, firstFailure_append, failOf_append, firstFailure_cons, failOf_cons, firstFailure_nil,
    failOf_nil, Option.or_none, inRange_laneCount]
  rw [firstFailure_map (fun _ => checkParam_eq _ _), firstFailure_flatMap (laneRanges_eq w),
    firstFailure_filter_map (fun _ => checkParam_eq _ _), firstFailure_filter_map (fun _ => checkParam_eq _ _)]
  rfl

/-! ### The scan list (R17) -/

/-- Conditions on the places of a vector: the first that does not hold. -/
theorem failOf_places {n : Nat} (q : Fin n → Bool) (no : Nat) :
    failOf ((List.finRange n).map fun j => (q j, no, j.val)) = ((List.finRange n).find? fun j => !q j).map fun j => (no, j.val) := by
  rw [failOf, List.find?_map, Option.map_map]
  rfl

theorem find_filter {α : Type} (p q : α → Bool) (xs : List α) : (xs.filter p).find? q = xs.find? fun a => p a && q a := by
  rw [List.find?_filter]
  simp

theorem filterMap_if {α β : Type} (p : α → Bool) (g : α → β) (xs : List α) :
    (xs.filterMap fun x => if p x then some (g x) else none) = (xs.filter p).map g := by
  induction xs with
  | nil => rfl
  | cons x xs ih => cases hp : p x <;> simp [hp, ih]

/-- The indexes of the elements that satisfy p, where the list is given by the places of a run from 0 on. -/
theorem indexesOf_map {α : Type} {n : Nat} (p : α → Bool) (f : Fin n → α) {js : List (Fin n)}
    (hjs : ∀ (i : Nat) (h : i < js.length), js[i].val = i) : indexesOf p (js.map f) = (js.filter fun j => p (f j)).map (·.val) := by
  have hzip : (js.map f).zipIdx = js.map fun j => (f j, j.val) := by
    apply List.ext_getElem
    · simp
    · intro i h1 h2
      simp [hjs]
  rw [indexesOf, hzip, List.filterMap_map]
  exact filterMap_if _ _ _

theorem toList_eq_map {α : Type} {n : Nat} (v : Vector α n) : v.toList = (List.finRange n).map fun j => v[j] := by
  apply List.ext_getElem
  · simp
  · intro i h1 h2
    simp

theorem indexesOf_toList {α : Type} {n : Nat} (p : α → Bool) (v : Vector α n) :
    indexesOf p v.toList = ((List.finRange n).filter fun j => p v[j]).map (·.val) := by
  rw [toList_eq_map]
  exact indexesOf_map p _ (by simp)

/-- Conditions on the elements of a vector, as a search for the first element that does not satisfy its own. -/
theorem head_indexesOf_toList {α : Type} {n : Nat} (p : α → Bool) (v : Vector α n) (no : Nat) :
    ((indexesOf p v.toList).head?).map (no, ·) = failOf ((List.finRange n).map fun j => (!p v[j], no, j.val)) := by
  rw [failOf_places, indexesOf_toList, List.head?_map, List.head?_filter, Option.map_map]
  simp only [Bool.not_not]
  rfl

/-- Place j is in use: no entry before it is marked END (R15). -/
def placeUsed (list : Vector ScanEntry 16) (j : Fin 16) : Bool := decide (∀ i : Fin 16, i < j → list[i].endMark = false)

/-- The places in use. -/
def usedPlaces (list : Vector ScanEntry 16) : List (Fin 16) := (List.finRange 16).filter (placeUsed list)

/-- Some entry is marked END. -/
def hasEnd (list : Vector ScanEntry 16) : Bool := (List.finRange 16).any fun j => list[j].endMark

section UsedEntries

variable {list : Vector ScanEntry 16}

/-- Where m is the first place marked END the places in use are those up to it. -/
theorem placeUsed_iff {m : Fin 16} (hm : list[m].endMark = true) (hfirst : ∀ i : Fin 16, i < m → list[i].endMark = false) (j : Fin 16) :
    placeUsed list j = true ↔ j ≤ m := by
  rw [placeUsed, decide_eq_true_iff]
  constructor
  · intro h
    by_contra hj
    exact Bool.false_ne_true ((h m (not_le.mp hj)).symm.trans hm)
  · exact fun hj i hi => hfirst i (hi.trans_le hj)

theorem finRange_take : ∀ m : Fin 16, (List.finRange 16).take (m.val + 1) = (List.finRange 16).filter (· ≤ m) := by decide

/-- The first place marked END, where there is one. -/
theorem exists_first_end (h : hasEnd list = true) :
    ∃ m : Fin 16, list[m].endMark = true ∧ ∀ i : Fin 16, i < m → list[i].endMark = false := by
  obtain ⟨m, hm⟩ := Option.isSome_iff_exists.mp (List.find?_isSome.mpr (List.any_eq_true.mp h))
  obtain ⟨hend, k, hk, hkm, hbefore⟩ := List.find?_eq_some_iff_getElem.mp hm
  refine ⟨m, hend, fun i hi => ?_⟩
  have hik : i.val < k := by
    have : k = m.val := by simpa using congrArg Fin.val hkm
    omega
  simpa using hbefore i.val hik

theorem usedPlaces_eq_take {m : Fin 16} (hm : list[m].endMark = true) (hfirst : ∀ i : Fin 16, i < m → list[i].endMark = false) :
    usedPlaces list = (List.finRange 16).take (m.val + 1) := by
  rw [finRange_take]
  refine List.filter_congr fun j _ => ?_
  rw [Bool.eq_iff_iff, placeUsed_iff hm hfirst, decide_eq_true_iff]

/-- The used entries are those at the places in use. -/
theorem usedEntries_eq (h : hasEnd list = true) : usedEntries list = (usedPlaces list).map fun j => list[j] := by
  obtain ⟨m, hm, hfirst⟩ := exists_first_end h
  have hidx : list.toList.findIdx? (·.endMark) = some m.val := by
    rw [List.findIdx?_eq_some_iff_getElem]
    exact ⟨by simp, by simpa using hm, fun k hk => by simpa using hfirst ⟨k, hk.trans m.isLt⟩ hk⟩
  rw [usedEntries, hidx, usedPlaces_eq_take hm hfirst, List.map_take, ← toList_eq_map]

theorem usedPlaces_getElem (h : hasEnd list = true) (i : Nat) (hi : i < (usedPlaces list).length) : (usedPlaces list)[i].val = i := by
  obtain ⟨m, hm, hfirst⟩ := exists_first_end h
  simp only [usedPlaces_eq_take hm hfirst, List.getElem_take, List.getElem_finRange]
  rfl

theorem mem_usedPlaces {j : Fin 16} : j ∈ usedPlaces list ↔ placeUsed list j = true := by
  simp [usedPlaces]

/-- A used place's number is below the count of the used ones. -/
theorem lt_length_of_used (h : hasEnd list = true) {j : Fin 16} (hj : placeUsed list j = true) : j.val < (usedPlaces list).length := by
  obtain ⟨i, hi, hij⟩ := List.mem_iff_getElem.mp (mem_usedPlaces.mpr hj)
  have := usedPlaces_getElem h i hi
  rw [hij] at this
  omega

theorem usedEntries_any (h : hasEnd list = true) (p : ScanEntry → Bool) :
    (usedEntries list).any p = (List.finRange 16).any fun j => placeUsed list j && p list[j] := by
  rw [usedEntries_eq h, List.any_map, usedPlaces, List.any_filter]
  rfl

/-! ### The checks of Table 2-3 -/

theorem checkEnd_eq : checkEnd list = failOf ((hasEnd list, 21, 255) ::
    (List.finRange 16).map fun j => (!(list[j].endMark && !placeUsed list j), 21, j.val)) := by
  rw [checkEnd, indexesOf_toList, failOf_cons, failOf_places]
  simp only [Bool.not_not]
  rw [← find_filter]
  have hsorted : ((List.finRange 16).filter fun j => list[j].endMark).Pairwise (· < ·) :=
    (List.pairwise_lt_finRange 16).filter _
  have hmem : ∀ j, j ∈ (List.finRange 16).filter (fun j => list[j].endMark) ↔ list[j].endMark = true := by simp
  have hany : hasEnd list = !((List.finRange 16).filter fun j => list[j].endMark).isEmpty := by
    rw [hasEnd, Bool.eq_iff_iff]
    simp
  rw [hany]
  generalize (List.finRange 16).filter (fun j => list[j].endMark) = ends at hsorted hmem
  have hhead : ∀ a rest, ends = a :: rest → placeUsed list a = true := by
    rintro a rest rfl
    rw [placeUsed, decide_eq_true_iff]
    intro i hi
    rw [← Bool.not_eq_true, ← hmem]
    intro hin
    rcases List.mem_cons.mp hin with rfl | hin
    · exact lt_irrefl _ hi
    · exact lt_asymm hi ((List.pairwise_cons.mp hsorted).1 i hin)
  match ends, hhead with
  | [], _ => rfl
  | [a], hhead => simp [hhead a [] rfl, checkOf]
  | a :: b :: rest, hhead =>
    have hb : placeUsed list b = false := by
      rw [placeUsed, decide_eq_false_iff_not]
      intro h
      have hab : a < b := (List.pairwise_cons.mp hsorted).1 b (by simp)
      exact Bool.false_ne_true ((h a hab).symm.trans ((hmem a).mp (by simp)))
    simp [hhead a _ rfl, hb, checkOf, scanListNo]

theorem checkEntries_eq (h : hasEnd list = true) : checkEntries list = failOf ((List.finRange 16).map fun j =>
    (!placeUsed list j || decide (1 ≤ list[j].every ∧ list[j].every ≤ 255), 21, j.val)) := by
  rw [checkEntries, usedEntries_eq h, indexesOf_map _ _ (usedPlaces_getElem h), failOf_places, List.head?_map, List.head?_filter,
    usedPlaces, find_filter, Option.map_map]
  simp only [Bool.not_or, Bool.not_not, Bool.decide_and]
  rfl

/-- A channel stands in an earlier entry. -/
theorem repeated_iff (h : hasEnd list = true) {j : Fin 16} (hj : placeUsed list j = true) :
    (((usedEntries list).take j.val).any fun e => (usedEntries list)[j.val]?.any (·.channel == e.channel)) = true ↔
      ¬ ∀ i : Fin 16, i < j → list[i].channel ≠ list[j].channel := by
  have hlt := lt_length_of_used h hj
  have hentry : ∀ (i : Fin 16) (hi : i.val < (usedPlaces list).length), (usedPlaces list)[i.val] = i := fun i hi =>
    Fin.ext (usedPlaces_getElem h i.val hi)
  rw [usedEntries_eq h, List.getElem?_map, List.getElem?_eq_getElem hlt, hentry j hlt, ← List.map_take, List.any_map, List.any_eq_true]
  simp only [Option.map_some, Option.any_some, Function.comp_apply, beq_iff_eq, not_forall, ne_eq, not_not]
  constructor
  · rintro ⟨i, hi, heq⟩
    obtain ⟨k, hk, rfl⟩ := List.mem_iff_getElem.mp hi
    simp only [List.length_take, lt_min_iff] at hk
    rw [List.getElem_take] at heq
    refine ⟨(usedPlaces list)[k], ?_, heq.symm⟩
    rw [Fin.lt_def, usedPlaces_getElem h k hk.2]
    exact hk.1
  · rintro ⟨i, hi, heq⟩
    have hi' : i.val < (usedPlaces list).length := lt_trans hi hlt
    refine ⟨i, List.mem_iff_getElem.mpr ⟨i.val, by simp; omega, ?_⟩, heq.symm⟩
    rw [List.getElem_take, hentry i hi']

theorem map_val_usedPlaces (h : hasEnd list = true) : (usedPlaces list).map (·.val) = List.range (usedEntries list).length := by
  apply List.ext_getElem
  · simp [usedEntries_eq h]
  · intro i h1 h2
    simp [usedPlaces_getElem h]

theorem checkRepeats_eq (h : hasEnd list = true) : checkRepeats list = failOf ((List.finRange 16).map fun j =>
    (!placeUsed list j || decide (∀ i : Fin 16, i < j → list[i].channel ≠ list[j].channel), 21, j.val)) := by
  rw [checkRepeats, failOf_places]
  rw [List.head?_filter, ← map_val_usedPlaces h, List.find?_map, usedPlaces, find_filter, Option.map_map]
  have hcongr : ∀ j : Fin 16, (placeUsed list j && ((fun j => ((usedEntries list).take j).any fun e => (usedEntries list)[j]?.any (·.channel == e.channel)) ∘ Fin.val) j) =
      !(!placeUsed list j || decide (∀ i : Fin 16, i < j → list[i].channel ≠ list[j].channel)) := by
    intro j
    cases hj : placeUsed list j
    · rfl
    · rw [Bool.true_and, Bool.not_true, Bool.false_or, Bool.eq_iff_iff, Bool.not_eq_true', decide_eq_false_iff_not]
      exact repeated_iff h hj
  simp only [hcongr]
  rfl

/-- A lane set open at start, or now other than CLOSED, has both channels in used entries with EVERY 1. -/
def coverHolds (s : State) (w : Settings) : Bool :=
  ([0, 1, 2] : List Lane).all fun l => !(w.site.startOpen[l] || laneModeOf s l != .closed) ||
    ([2 * l.val, 2 * l.val + 1].all fun c => (List.finRange 16).any fun j =>
      placeUsed w.conv.scanList j && w.conv.scanList[j].channel.val == c && w.conv.scanList[j].every == 1)

theorem coversLane_eq (h : hasEnd list = true) (l : Lane) : coversLane list l =
    [2 * l.val, 2 * l.val + 1].all fun c => (List.finRange 16).any fun j =>
      placeUsed list j && list[j].channel.val == c && list[j].every == 1 := by
  simp only [coversLane, scansChan, usedEntries_any h, List.all_cons, List.all_nil, Bool.and_true, s1Chan, s2Chan, Bool.and_assoc]

end UsedEntries

theorem coverHolds_eq (s : State) {w : Settings} (h : hasEnd w.conv.scanList = true) : coverHolds s w =
    allLanes.all fun l => !(w.site.startOpen[l] || laneModeOf s l != .closed) || coversLane w.conv.scanList l := by
  simp only [coverHolds, coversLane_eq h]
  rfl

/-- The checks of Table 2-3, each with the failure it carries. -/
def scanChecks (s : State) (w : Settings) : List (Bool × Nat × Nat) :=
  let list := w.conv.scanList
  (hasEnd list, 21, 255) ::
    ((List.finRange 16).map (fun j => (!(list[j].endMark && !placeUsed list j), 21, j.val)) ++
    (List.finRange 16).map (fun j => (!placeUsed list j || decide (1 ≤ list[j].every ∧ list[j].every ≤ 255), 21, j.val)) ++
    (List.finRange 16).map (fun j =>
      (!placeUsed list j || decide (∀ i : Fin 16, i < j → list[i].channel ≠ list[j].channel), 21, j.val)) ++
    [(coverHolds s w, 21, 255), (decide ((usedPlaces list).length ≤ w.conv.scanDiv), 20, 255)])

theorem checkScan_eq (s : State) (w : Settings) : checkScan s w = failOf (scanChecks s w) := by
  by_cases h : hasEnd w.conv.scanList = true
  · have hcover : checkCover s w = checkOf (coverHolds s w, 21, 255) := by rw [coverHolds_eq s h]; rfl
    have hdiv : decide ((usedEntries w.conv.scanList).length + 1 ≤ w.conv.scanDiv + 1) =
        decide ((usedPlaces w.conv.scanList).length ≤ w.conv.scanDiv) := by simp [usedEntries_eq h]
    simp only [checkScan, scanChecks, firstFailure_cons, firstFailure_nil, checkEnd_eq, checkEntries_eq h, checkRepeats_eq h, hcover, hdiv,
      checkParam_eq, failOf_cons, failOf_append, failOf_nil, Option.or_assoc]
    rfl
  · have hend : checkOf (hasEnd w.conv.scanList, 21, 255) = some (21, 255) := if_neg h
    simp only [checkScan, scanChecks, firstFailure_cons, checkEnd_eq, failOf_cons, hend, Option.some_or]

/-! ### Weighing and decision settings (R93, R104) -/

/-- The checks of the weighing settings, each with the failure it carries. -/
def weighChecks (w : Settings) : List (Bool × Nat × Nat) :=
  (List.finRange 6).map (fun c => (decide (w.site.laneCount ≤ c.val / 2) || (w.weigh.fch[c]).isSome, 90 + c.val, 255)) ++
  [(decide (w.weigh.marginA ≤ w.weigh.marginB), 107, 255)]

theorem checkWeigh_eq (w : Settings) : checkWeigh w = failOf (weighChecks w) := by
  have hchan : ∀ c : Chan, checkParam (.fch c) (!lanePresent w (chanLane c) || w.weigh.fch[c].isSome) =
      checkOf (decide (w.site.laneCount ≤ c.val / 2) || w.weigh.fch[c].isSome, 90 + c.val, 255) := by
    intro c
    have habsent : (!lanePresent w (chanLane c)) = decide (w.site.laneCount ≤ c.val / 2) := by
      rw [chanPresent, ← decide_not, decide_eq_decide, not_lt]
    rw [habsent]
    rfl
  rw [checkWeigh, weighChecks, firstFailure_append, failOf_append, firstFailure_map hchan]
  simp only [firstFailure_cons, failOf_cons, firstFailure_nil, failOf_nil]
  rfl

/-- The checks of the decision settings, each with the failure it carries. -/
def decisionChecks (w : Settings) : List (Bool × Nat × Nat) :=
  [(decide (w.dec.gapB1 < w.dec.gapB2), 121, 255), (decide (w.dec.gapB2 < w.dec.gapB3), 122, 255)] ++
  (List.finRange 16).map (fun j =>
    (!w.dec.classTable[j].valid || decide (w.dec.classTable[j].axMin ≤ w.dec.classTable[j].axMax), 125, j.val)) ++
  (List.finRange 8).map (fun j => (decide (w.dec.limitRows[j].gross ≤ w.deck.budget), 126, j.val)) ++
  [((List.finRange 8).all fun j => w.dec.heavyThreshold < w.dec.limitRows[j].gross, 123, 255)]

theorem checkDecision_eq (w : Settings) : checkDecision w = failOf (decisionChecks w) := by
  have hrows : (w.dec.limitRows.toList.all fun r => decide (w.dec.heavyThreshold < r.gross)) =
      (List.finRange 8).all fun j => decide (w.dec.heavyThreshold < w.dec.limitRows[j].gross) := by
    rw [toList_eq_map, List.all_map]
    rfl
  simp only [checkDecision, decisionChecks, firstFailure_cons, firstFailure_nil, hrows, head_indexesOf_toList, checkParam_eq, failOf_cons,
    failOf_append, failOf_nil, Option.or_none, Option.or_assoc, Bool.not_and, ← decide_not, not_lt]
  rfl

/-! ### The commit checks (Table 12-7) -/

/-- The commit checks in their order, each with the failure it carries. -/
def commitCheckList (s : State) (w : Settings) : List (Bool × Nat × Nat) :=
  geometryChecks w ++ scanChecks s w ++ [(decide (w.det.pulseOff ≤ w.det.pulseOn), 31, 255)] ++ weighChecks w ++ decisionChecks w

theorem commitFailure_eq (s : State) (w : Settings) : commitFailure s w = failOf (commitCheckList s w) := by
  simp only [commitFailure, commitCheckList, firstFailure_cons, firstFailure_nil, checkGeometry_eq, checkScan_eq, checkParam_eq,
    checkWeigh_eq, checkDecision_eq, failOf_append, failOf_cons, failOf_nil, Option.or_none, Option.or_assoc]
  rfl

/-! ### What a working copy that passes keeps -/

/-- The checks of a list hold. -/
def AllHold (cs : List (Bool × Nat × Nat)) : Prop := ∀ c ∈ cs, c.1 = true

theorem allHold_append {cs ds : List (Bool × Nat × Nat)} : AllHold (cs ++ ds) ↔ AllHold cs ∧ AllHold ds := List.forall_mem_append

theorem allHold_cons {c : Bool × Nat × Nat} {cs : List (Bool × Nat × Nat)} : AllHold (c :: cs) ↔ c.1 = true ∧ AllHold cs :=
  List.forall_mem_cons

theorem allHold_nil : AllHold [] ↔ True := by simp [AllHold]

theorem allHold_map {α : Type} {g : α → Bool × Nat × Nat} {xs : List α} : AllHold (xs.map g) ↔ ∀ a ∈ xs, (g a).1 = true :=
  List.forall_mem_map

theorem allHold_flatMap {α : Type} {g : α → List (Bool × Nat × Nat)} {xs : List α} : AllHold (xs.flatMap g) ↔ ∀ a ∈ xs, AllHold (g a) :=
  List.forall_mem_flatMap

theorem mem_lanes (l : Lane) : l ∈ ([0, 1, 2] : List Lane) := by
  revert l
  decide

theorem geometry_holds {w : Settings} (h : AllHold (geometryChecks w)) :
    (1 ≤ w.site.laneCount ∧ w.site.laneCount ≤ 3) ∧
    (∀ l : Lane,
      1000 ≤ w.site.stripSpacing[l] ∧ w.site.stripSpacing[l] ≤ 5000 ∧
      20000 ≤ w.site.signDist[l] ∧ w.site.signDist[l] ≤ 2000000 ∧
      20000 ≤ w.site.slipDist[l] ∧ w.site.slipDist[l] ≤ 3000000 ∧
      40000 ≤ w.site.threshDist[l] ∧ w.site.threshDist[l] ≤ 4000000) ∧
    (∀ l : Lane, l.val < w.site.laneCount →
      w.site.signDist[l] < w.site.slipDist[l] ∧ w.site.slipDist[l] < w.site.threshDist[l]) ∧
    (∀ l : Lane, w.site.laneCount ≤ l.val → w.site.startOpen[l] = false) := by
  simp only [geometryChecks, allHold_append, allHold_cons, allHold_nil, allHold_map, allHold_flatMap, mem_lanes, true_implies, and_true,
    decide_eq_true_eq, Bool.or_eq_true, Bool.not_eq_true', decide_eq_false_iff_not, not_lt] at h
  obtain ⟨⟨⟨⟨hcount, hopen⟩, hranges⟩, hslip⟩, hthresh⟩ := h
  refine ⟨hcount, fun l => ?_, fun l hl => ?_, fun l hl => ?_⟩
  · obtain ⟨⟨h1, h2⟩, ⟨h3, h4⟩, ⟨h5, h6⟩, h7, h8⟩ := hranges l
    exact ⟨h1, h2, h3, h4, h5, h6, h7, h8⟩
  · exact ⟨(hslip l).resolve_left (by omega), (hthresh l).resolve_left (by omega)⟩
  · exact (hopen l).resolve_left (by omega)

/-- The scan list of a working copy that passes: one END mark, the used entries in range and of different channels, the pass inside the
period, and the lanes covered. -/
theorem scan_holds {s : State} {w : Settings} (h : AllHold (scanChecks s w)) :
    let list := w.conv.scanList
    (∃ j : Fin 16, list[j].endMark = true ∧ (∀ k : Fin 16, list[k].endMark = true → k = j) ∧
      (∀ a b : Fin 16, a < b → b ≤ j → list[a].channel ≠ list[b].channel) ∧
      (∀ a : Fin 16, a ≤ j → 1 ≤ list[a].every ∧ list[a].every ≤ 255) ∧
      j.val + 1 ≤ w.conv.scanDiv) ∧
    (∀ l : Lane, w.site.startOpen[l] = true ∨ laneModeOf s l ≠ .closed → coversLane list l = true) := by
  intro list
  simp only [scanChecks, allHold_append, allHold_cons, allHold_nil, allHold_map, List.mem_finRange, true_implies, and_true,
    decide_eq_true_eq, Bool.or_eq_true, Bool.not_eq_true'] at h
  obtain ⟨hend, ⟨⟨hone, hevery⟩, hchannels⟩, hcover, hdiv⟩ := h
  obtain ⟨m, hm, hfirst⟩ := exists_first_end hend
  have hused : ∀ a : Fin 16, a ≤ m → placeUsed w.conv.scanList a = true := fun a => (placeUsed_iff hm hfirst a).mpr
  refine ⟨⟨m, hm, fun k hk => ?_, fun a b hab hb => ?_, fun a ha => ?_, ?_⟩, fun l hl => ?_⟩
  · have hku : placeUsed w.conv.scanList k = true := by
      have hk' : w.conv.scanList[k].endMark = true := hk
      have := hone k
      rw [hk', Bool.true_and, Bool.not_eq_false'] at this
      exact this
    refine le_antisymm ((placeUsed_iff hm hfirst k).mp hku) ?_
    by_contra hkm
    exact Bool.false_ne_true ((hfirst k (not_le.mp hkm)).symm.trans hk)
  · exact (hchannels b).resolve_left (by rw [hused b hb]; decide) a hab
  · exact (hevery a).resolve_left (by rw [hused a ha]; decide)
  · have hlen : (usedPlaces w.conv.scanList).length = m.val + 1 := by
      rw [usedPlaces_eq_take hm hfirst, List.length_take, List.length_finRange]
      omega
    omega
  · rw [coverHolds_eq s hend, List.all_eq_true] at hcover
    have hc := hcover l (mem_lanes l)
    rw [Bool.or_eq_true, Bool.not_eq_true', Bool.or_eq_false_iff] at hc
    refine hc.resolve_left fun ⟨hopen, hmode⟩ => ?_
    rcases hl with hl | hl
    · exact Bool.false_ne_true (hopen.symm.trans hl)
    · exact hl (by simpa using hmode)

end Sys2Proof.Machine

namespace Sys2Proof.Proofs

open Sys2Proof.Machine
open Sys2Proof.Safety

/-- Settles O55: the failure is that of the first check of `commitCheckList`, and what passes is read off those checks. -/
theorem commitChecks : Obligations.CommitChecks := by
  unfold Obligations.CommitChecks
  intro s w list present used lanes entries rows checks
  have hchecks : commitCheckList s w = checks := by
    simp only [commitCheckList, geometryChecks, scanChecks, weighChecks, decisionChecks, checks, List.append_assoc, List.cons_append,
      List.nil_append]
    rfl
  have hfail : commitFailure s w = failOf checks := hchecks ▸ commitFailure_eq s w
  refine ⟨hfail, fun hnone => ?_⟩
  have hall : AllHold (commitCheckList s w) := failOf_eq_none.mp ((commitFailure_eq s w).symm.trans hnone)
  simp only [commitCheckList, allHold_append, allHold_cons, allHold_nil, and_true, decide_eq_true_eq] at hall
  obtain ⟨⟨⟨⟨hgeo, hscan⟩, hpulse⟩, hweigh⟩, hdec⟩ := hall
  obtain ⟨⟨hlow, hhigh⟩, hranges, horder, hopen⟩ := geometry_holds hgeo
  obtain ⟨hlist, hcover⟩ := scan_holds hscan
  simp only [weighChecks, allHold_append, allHold_cons, allHold_nil, allHold_map, List.mem_finRange, true_implies, and_true,
    decide_eq_true_eq, Bool.or_eq_true] at hweigh
  obtain ⟨hfch, hmargin⟩ := hweigh
  simp only [decisionChecks, allHold_append, allHold_cons, allHold_nil, allHold_map, List.mem_finRange, true_implies, and_true,
    decide_eq_true_eq, Bool.or_eq_true, Bool.not_eq_true', List.all_eq_true] at hdec
  obtain ⟨⟨⟨⟨hgap1, hgap2⟩, hclass⟩, hbudget⟩, hheavy⟩ := hdec
  refine ⟨hlow, hhigh, hranges, horder, hopen, hlist, hcover, hpulse, fun c hc => ?_, hmargin, hgap1, hgap2, fun j hj => ?_,
    fun j => ⟨hbudget j, hheavy j⟩⟩
  · exact Option.isSome_iff_ne_none.mp ((hfch c).resolve_left (by omega))
  · exact (hclass j).resolve_left (by rw [hj]; decide)

end Sys2Proof.Proofs
end

section
/-! SUPPORT. Proofs about the cabinet link (chapter 12, sections 12.1 and 12.2): the frames of a run of bytes, what a received frame does, the
timeouts of the receiver, and the transmitter's choice. -/

namespace Sys2Proof.Machine

open Sys2Proof.Safety

/-! ### The frames of a run of bytes (R173) -/

/-- The bound of the search does not matter where it is above the number of bytes. -/
theorem hunt_bound (wait : Bool) {n m : Nat} {bs : List Byte} (hn : bs.length < n) (hm : bs.length < m) :
    hunt wait n bs = hunt wait m bs := by
  induction n generalizing m bs with
  | zero => omega
  | succ n ih =>
    obtain ⟨m, rfl⟩ : ∃ k, m = k + 1 := ⟨m - 1, by omega⟩
    match bs with
    | [] => rfl
    | [b] =>
      have hrest : hunt wait n [] = hunt wait m [] := ih (by simpa using hn) (by simpa using hm)
      simp only [hunt, hrest]
    | b :: len :: more =>
      simp only [List.length_cons] at hn hm
      have hrest : hunt wait n (len :: more) = hunt wait m (len :: more) :=
        ih (by simp only [List.length_cons]; omega) (by simp only [List.length_cons]; omega)
      have hdrop : hunt wait n (more.drop (len.toNat + 2)) = hunt wait m (more.drop (len.toNat + 2)) :=
        ih (by rw [List.length_drop]; omega) (by rw [List.length_drop]; omega)
      simp only [hunt, hrest, hdrop]

@[simp] theorem takeFrames_nil (wait : Bool) : takeFrames wait [] = ([], []) := rfl

/-- A byte that is no sync byte is dropped. -/
theorem takeFrames_other (wait : Bool) {b : Byte} (h : b ≠ 0x7E#8) (rest : List Byte) : takeFrames wait (b :: rest) = takeFrames wait rest := by
  have hb : (b != syncByte) = true := bne_iff_ne.mpr h
  cases rest
  all_goals
    rw [takeFrames, List.length_cons, hunt, if_pos hb]
    rfl

/-- A sync byte with what follows it: a frame begins here only with a LEN in range. -/
theorem takeFrames_sync (wait : Bool) (len : Byte) (more : List Byte) : takeFrames wait (0x7E#8 :: len :: more) =
    if !goodLen len then takeFrames wait (len :: more)
    else if more.length < len.toNat + 2 then
      if wait then ([], 0x7E#8 :: len :: more) else takeFrames wait (len :: more)
    else if crcHolds len more then
      let found := takeFrames wait (more.drop (len.toNat + 2))
      (requestOf len more :: found.1, found.2)
    else takeFrames wait (len :: more) := by
  have hdrop : hunt wait (more.length + 2) (more.drop (len.toNat + 2)) = takeFrames wait (more.drop (len.toNat + 2)) :=
    hunt_bound wait (by rw [List.length_drop]; omega) (Nat.lt_succ_self _)
  rw [takeFrames, List.length_cons, List.length_cons, hunt, if_neg (by decide)]
  simp only [hdrop]
  rfl

theorem goodLen_iff (len : Byte) : goodLen len = true ↔ 2 ≤ len.toNat ∧ len.toNat ≤ 252 := by
  simp [goodLen]

theorem takeFrames_badLen (wait : Bool) {len : Byte} (h : len.toNat < 2 ∨ 252 < len.toNat) (more : List Byte) :
    takeFrames wait (0x7E#8 :: len :: more) = takeFrames wait (len :: more) := by
  have hbad : goodLen len = false := by
    rw [← Bool.not_eq_true, goodLen_iff]
    omega
  rw [takeFrames_sync, hbad]
  rfl

/-- The check of a candidate, with the two bytes of its CRC as one word. -/
theorem crcHolds_iff (len : Byte) (more : List Byte) : crcHolds len more = true ↔
    (crc16 (len :: more.take len.toNat)).toNat = 256 * (more.getD len.toNat 0).toNat + (more.getD (len.toNat + 1) 0).toNat := by
  have hword : u16At more len.toNat = 256 * (more.getD len.toNat 0).toNat + (more.getD (len.toNat + 1) 0).toNat := by
    rw [u16At, byteAt, byteAt, Nat.mul_comm]
  have h1 := (more.getD len.toNat 0).isLt
  have h2 := (more.getD (len.toNat + 1) 0).isLt
  rw [crcHolds, beq_iff_eq, ← BitVec.toNat_inj, BitVec.toNat_ofNat, hword, Nat.mod_eq_of_lt (by omega)]

/-- A candidate given up: its LEN is out of range, or it is complete and its check fails. -/
theorem takeFrames_givenUp (wait : Bool) {len : Byte} {more : List Byte} (h : len.toNat < 2 ∨ 252 < len.toNat ∨
    (len.toNat + 2 ≤ more.length ∧ ¬ crcHolds len more = true)) :
    takeFrames wait (0x7E#8 :: len :: more) = takeFrames wait (len :: more) := by
  by_cases hlen : goodLen len = true
  · obtain ⟨hlow, hhigh⟩ := (goodLen_iff len).mp hlen
    obtain ⟨hcomplete, hcrc⟩ := (h.resolve_left (by omega)).resolve_left (by omega)
    rw [takeFrames_sync, hlen, if_neg (by decide), if_neg (by omega), if_neg hcrc]
  · rw [goodLen_iff] at hlen
    exact takeFrames_badLen wait (by omega) more

/-- A candidate cut off is kept, or where it is abandoned given up. -/
theorem takeFrames_cutOff {len : Byte} {more : List Byte} (h2 : 2 ≤ len.toNat) (h252 : len.toNat ≤ 252)
    (h : more.length < len.toNat + 2) :
    takeFrames true (0x7E#8 :: len :: more) = ([], 0x7E#8 :: len :: more) ∧
    takeFrames false (0x7E#8 :: len :: more) = takeFrames false (len :: more) := by
  have hlen : goodLen len = true := (goodLen_iff len).mpr ⟨h2, h252⟩
  constructor
  · rw [takeFrames_sync, hlen, if_neg (by decide), if_pos h]
    rfl
  · rw [takeFrames_sync, hlen, if_neg (by decide), if_pos h]
    rfl

theorem takeFrames_junk (wait : Bool) {junk : List Byte} (h : ∀ b ∈ junk, b ≠ 0x7E#8) (rest : List Byte) :
    takeFrames wait (junk ++ rest) = takeFrames wait rest := by
  induction junk with
  | nil => rfl
  | cons b bs ih =>
    rw [List.cons_append, takeFrames_other wait (h b (by simp)), ih fun c hc => h c (by simp [hc])]

/-- Bytes that are abandoned leave nothing kept. -/
theorem hunt_false_kept (n : Nat) (bs : List Byte) : (hunt false n bs).2 = [] := by
  induction n generalizing bs with
  | zero => rfl
  | succ n ih =>
    match bs with
    | [] => rfl
    | [b] =>
      rw [hunt]
      split
      · exact ih []
      · rfl
    | b :: len :: more =>
      rw [hunt]
      split
      · exact ih _
      · dsimp only
        split
        · exact ih _
        · split
          · exact ih _
          · split
            · exact ih _
            · exact ih _

theorem takeFrames_false_kept (bs : List Byte) : (takeFrames false bs).2 = [] := hunt_false_kept _ bs

/-- The bytes of a frame are taken as that frame and no other. -/
theorem takeFrames_frameBytes (type tag : Byte) {payload : List Byte} (h : payload.length ≤ 250) :
    takeFrames true (frameBytes type tag payload) = ([⟨type, tag, payload⟩], []) := by
  have hlen : (BitVec.ofNat 8 (payload.length + 2)).toNat = payload.length + 2 := by
    rw [BitVec.toNat_ofNat]
    omega
  have hgood : goodLen (BitVec.ofNat 8 (payload.length + 2)) = true := by
    rw [goodLen_iff, hlen]
    omega
  let body : List Byte := BitVec.ofNat 8 (payload.length + 2) :: type :: tag :: payload
  let high : Byte := BitVec.ofNat 8 ((crc16 body).toNat / 256)
  let low : Byte := BitVec.ofNat 8 (crc16 body).toNat
  have hbytes : frameBytes type tag payload =
      0x7E#8 :: BitVec.ofNat 8 (payload.length + 2) :: (type :: tag :: payload ++ [high, low]) := rfl
  have hmore : (type :: tag :: payload ++ [high, low]).length = payload.length + 4 := by simp
  have htake : (type :: tag :: payload ++ [high, low]).take (payload.length + 2) = type :: tag :: payload :=
    List.take_left' (by simp)
  have hcrc : crcHolds (BitVec.ofNat 8 (payload.length + 2)) (type :: tag :: payload ++ [high, low]) = true := by
    rw [crcHolds_iff, hlen, htake]
    have hhigh : (type :: tag :: payload ++ [high, low]).getD (payload.length + 2) 0 = high := by
      rw [List.getD_append_right _ _ _ _ (by simp)]
      simp
    have hlow : (type :: tag :: payload ++ [high, low]).getD (payload.length + 2 + 1) 0 = low := by
      rw [List.getD_append_right _ _ _ _ (by simp)]
      simp
    have hlt := (crc16 body).isLt
    have hbody : crc16 (BitVec.ofNat 8 (payload.length + 2) :: type :: tag :: payload) = crc16 body := rfl
    rw [hhigh, hlow, BitVec.toNat_ofNat, BitVec.toNat_ofNat, hbody]
    omega
  rw [hbytes, takeFrames_sync, hgood, if_neg (by decide), hlen, if_neg (by omega), if_pos hcrc,
    List.drop_eq_nil_of_le (by omega)]
  simp only [takeFrames_nil, requestOf, hlen, htake]
  rfl

/-! ### Received frames (R173, R174) -/

theorem exec_frameReceived (bytes : List Byte) (s : State) : exec (.frameReceived bytes) s = done (receive bytes s) := rfl

/-- An instruction of the receiver that brings bytes. -/
theorem exec_bytes {bytes : List Byte} {i : Instr} (h : i ∈ [Instr.frameReceived bytes, .lenOutOfRange bytes]) (s : State) :
    exec i s = done (receive bytes s) := by
  simp only [List.mem_cons, List.not_mem_nil, or_false] at h
  rcases h with rfl | rfl
  · rfl
  · rfl

theorem gapDue_iff (s : State) : gapDue s = true ↔ s.lki.rx ≠ [] ∧ 2000 < (s.tbu.time - s.lki.rxLast).toNat := by
  rw [gapDue, Bool.and_eq_true, Bool.not_eq_true', List.isEmpty_eq_false_iff, decide_eq_true_iff]
  rfl

theorem examine_eq (wait : Bool) (bytes : List Byte) (s : State) : examine wait bytes s =
    (takeFrames wait bytes).1.foldl acceptFrame { s with lki.rx := (takeFrames wait bytes).2 } := rfl

/-- Bytes that arrive with no incomplete candidate. -/
theorem receive_of_empty {s : State} (h : s.lki.rx = []) (bytes : List Byte) : receive bytes s =
    (takeFrames true bytes).1.foldl acceptFrame { s with lki := { s.lki with rx := (takeFrames true bytes).2, rxLast := s.tbu.time } } := by
  have hgap : gapDue s = false := by simp [gapDue, h]
  simp only [receive, hgap, Bool.false_eq_true, if_false, h, List.nil_append, examine_eq]
  rfl

/-- The entry of LINK_SILENT after a valid frame: cleared where it was given (R173). -/
def silentEntry (s : State) : CondEntry :=
  if s.lki.silentGiven = false ∨ s.cmn.conds[linkSilentIx].st = .recovering then s.cmn.conds[linkSilentIx]
  else movedEntry .clear s.tbu.time s.cmn.conds[linkSilentIx]

/-- The state with the frame time kept and the request queued, or discarded with REQUEST_OVERRUN where 4 wait (R173, R174). -/
def withRequest (r : Request) (s : State) : State :=
  { s with lki := { s.lki with
      lastValid := s.tbu.time
      requests := if 4 ≤ s.lki.requests.length then s.lki.requests else s.lki.requests ++ [r]
      requestOverrun := s.lki.requestOverrun || decide (4 ≤ s.lki.requests.length) } }

/-- The state with LINK_SILENT no longer given. -/
def withoutSilent (s : State) : State := { s with lki := { s.lki with silentGiven := false } }

theorem acceptFrame_eq (s : State) (r : Request) : acceptFrame s r =
    withRequest r (if s.lki.silentGiven then giveClear linkSilentIx (withoutSilent s) else s) := by
  unfold acceptFrame
  dsimp only
  rw [← withoutSilent]
  generalize (if s.lki.silentGiven then giveClear linkSilentIx (withoutSilent s) else s) = u
  by_cases h : 4 ≤ u.lki.requests.length
  · simp [withRequest, Config.requestCap, State.now, h]
  · simp [withRequest, Config.requestCap, State.now, h]

/-- The state with frame time, request queue and overrun mark given. -/
def withQueue (last : Time) (requests : List Request) (overrun : Bool) (s : State) : State :=
  { s with lki := { s.lki with lastValid := last, requests := requests, requestOverrun := overrun } }

theorem Places.withQueue {rs : List Report} {x t : State} (h : Places rs x t) (last : Time) (requests : List Request) (overrun : Bool) :
    Places rs (withQueue last requests overrun x) (withQueue last requests overrun t) where
  rest := congrArg (Machine.withQueue last [] overrun) h.rest
  retained := h.retained
  requests := rfl
  answers := h.answers
  reports := h.reports
  behind := h.behind
  room := h.room

theorem withRequest_eq (r : Request) (s : State) : withRequest r s = withQueue s.tbu.time
    (if 4 ≤ s.lki.requests.length then s.lki.requests else s.lki.requests ++ [r])
    (s.lki.requestOverrun || decide (4 ≤ s.lki.requests.length)) s := rfl

theorem Places.withRequest {rs : List Report} {x t : State} (h : Places rs x t) (r : Request) :
    Places rs (withRequest r x) (withRequest r t) := by
  have htime : t.tbu.time = x.tbu.time := (congrArg (fun u : State => u.tbu.time) h.rest :)
  have hover : t.lki.requestOverrun = x.lki.requestOverrun := (congrArg (fun u : State => u.lki.requestOverrun) h.rest :)
  rw [withRequest_eq, withRequest_eq, htime, hover, h.requests]
  exact h.withQueue _ _ _

/-- What a valid frame does. -/
theorem acceptFrame_places (s : State) (r : Request) :
    Places (changeReports linkSilentIx (silentEntry s) s) (withEntry linkSilentIx (silentEntry s) (withoutSilent (withRequest r s)))
      (acceptFrame s r) := by
  rw [acceptFrame_eq]
  cases hgiven : s.lki.silentGiven
  · have hentry : silentEntry s = s.cmn.conds[linkSilentIx] := if_pos (.inl hgiven)
    have hsame : withoutSilent (withRequest r s) = withRequest r s := by rw [withoutSilent, ← hgiven]; rfl
    have hp := (unchanged_places linkSilentIx s).withRequest r
    rw [hentry, hsame]
    exact hp
  · have hentry : silentEntry s = clearedEntry s.tbu.time s.cmn.conds[linkSilentIx] := by
      simp only [silentEntry, clearedEntry, hgiven, Bool.true_eq_false, false_or, beq_iff_eq]
    rw [hentry]
    exact (giveClear_places linkSilentIx (withoutSilent s)).withRequest r

/-- Bytes with one valid frame, where no incomplete candidate is kept. -/
theorem receive_frame {bytes kept : List Byte} {r : Request} {s : State} (hrx : s.lki.rx = [])
    (hb : takeFrames true bytes = ([r], kept)) :
    ReportedFrom (changeReports linkSilentIx (silentEntry s) s) (withEntry linkSilentIx (silentEntry s) { s with
      lki := { s.lki with
        rx := kept, rxLast := s.tbu.time, lastValid := s.tbu.time, silentGiven := false
        requests := if 4 ≤ s.lki.requests.length then s.lki.requests else s.lki.requests ++ [r]
        requestOverrun := s.lki.requestOverrun || decide (4 ≤ s.lki.requests.length) } })
      (settle (receive bytes s)) := by
  rw [receive_of_empty hrx, hb]
  exact placed_settled (acceptFrame_places { s with lki := { s.lki with rx := kept, rxLast := s.tbu.time } } r).toPlacedFrom

/-- Bytes in which no frame is found, with those kept, or after a gap that abandons them. -/
theorem receive_none {bytes : List Byte} {s : State}
    (hold : gapDue s = true → (takeFrames false s.lki.rx).1 = [])
    (hnone : (takeFrames true ((if gapDue s then [] else s.lki.rx) ++ bytes)).1 = []) :
    receive bytes s = { s with lki := { s.lki with
      rx := (takeFrames true ((if gapDue s then [] else s.lki.rx) ++ bytes)).2, rxLast := s.tbu.time } } := by
  cases hgap : gapDue s
  · simp only [hgap, Bool.false_eq_true, if_false] at hnone
    simp only [receive, hgap, Bool.false_eq_true, if_false, examine_eq, hnone, List.foldl_nil]
    rfl
  · simp only [hgap, if_true] at hnone
    simp only [receive, hgap, if_true, abandonFrame, examine_eq, hold hgap, takeFrames_false_kept, List.foldl_nil, hnone]
    rfl

/-! ### Timeouts (R173) -/

theorem linkSilentDue_iff (s : State) : linkSilentDue s = true ↔
    s.lki.silentGiven = false ∧ s.sst.live.link.linkSilent * 100000 ≤ (s.tbu.time - s.lki.lastValid).toNat := by
  rw [linkSilentDue, Bool.and_eq_true, Bool.not_eq_true', passed, decide_eq_true_iff]
  rfl

theorem acceptFrame_rx (s : State) (r : Request) : (acceptFrame s r).lki.rx = s.lki.rx :=
  (congrArg (fun u : State => u.lki.rx) (acceptFrame_places s r).rest :)

theorem foldl_acceptFrame_rx (rs : List Request) (s : State) : (rs.foldl acceptFrame s).lki.rx = s.lki.rx := by
  induction rs generalizing s with
  | nil => rfl
  | cons r rs ih => rw [List.foldl_cons, ih, acceptFrame_rx]

theorem abandonFrame_rx (s : State) : (abandonFrame s).lki.rx = [] := by
  rw [abandonFrame, examine_eq, foldl_acceptFrame_rx]
  exact takeFrames_false_kept _

theorem settle_lki (s : State) : (settle s).lki = s.lki := (congrArg (fun u : State => u.lki) (settle_formedFrom s).rest :)

/-! ### The transmitter (R175) -/

section Kick

variable {s : State}

theorem kick_idle (h : s.lki.tx = none) (hw : s.lki.warmDue = true) : kick s = s := by
  simp [kick, h, hw]

theorem kick_ready (h : s.lki.tx = none) (hw : s.lki.warmDue = false) {a : Answer} {as : List Answer} (hr : s.lki.ready = a :: as) :
    kick s = { s with lki := { s.lki with tx := some (.answer a), ready := as } } := by
  simp [kick, h, hw, hr]

theorem kick_report (h : s.lki.tx = none) (hw : s.lki.warmDue = false) (hr : s.lki.ready = []) {r : Report} {rs : List Report}
    (hp : s.lki.reports = r :: rs) : kick s = { s with lki := { s.lki with tx := some (.report r), reports := rs } } := by
  simp [kick, h, hw, hr, hp]

theorem kick_empty (hr : s.lki.ready = []) (hp : s.lki.reports = []) : kick s = s := by
  simp [kick, hr, hp]

theorem kick_sending (h : s.lki.tx.isSome = true) : kick s = s := by
  simp [kick, h]

end Kick

/-- The state with the transmitter free, and the mark that a warm start is due as given. -/
def freed (due : Bool) (s : State) : State := { s with lki := { s.lki with tx := none, warmDue := due } }

theorem finishFrame_eq {s : State} {f : TxFrame} (h : s.lki.tx = some f) :
    finishFrame s = kick (freed (s.lki.warmDue || isRestartOk f) s) := by
  simp only [finishFrame, freed, h, Option.any_some]

end Sys2Proof.Machine

namespace Sys2Proof.Proofs

open Sys2Proof.Machine
open Sys2Proof.Safety

/-- Settles O38, the bytes that are no sync byte being dropped. -/
theorem frameRoundTrip : Obligations.FrameRoundTrip := by
  unfold Obligations.FrameRoundTrip
  intro junk type tag payload hjunk hlen
  rw [takeFrames_junk true hjunk, takeFrames_frameBytes type tag hlen]

/-- Settles O39: the bytes of one frame are taken as that frame, and what a frame or none does is `receive_frame` and `receive_none`. -/
theorem frameReceivedQueues : Obligations.FrameReceivedQueues := by
  unfold Obligations.FrameReceivedQueues
  refine ⟨fun type tag payload s hrx hlen => ?_, fun bytes kept r s hrx hb => ?_, fun wait len more => ?_, fun bytes s => ?_,
    fun len more s hrx h2 h252 hlen hsync hcrc => ?_⟩
  · have hone := takeFrames_frameBytes type tag hlen
    have hframe : ∀ bytes, takeFrames true bytes = ([⟨type, tag, payload⟩], []) →
        ReportedFrom (changeReports linkSilentIx (silentEntry s) s) (withEntry linkSilentIx (silentEntry s) { s with
          lki := { s.lki with
            rxLast := s.tbu.time, lastValid := s.tbu.time, silentGiven := false
            requests := if s.lki.requests.length < 4 then s.lki.requests ++ [⟨type, tag, payload⟩] else s.lki.requests
            requestOverrun := s.lki.requestOverrun || decide (4 ≤ s.lki.requests.length) } }) (settle (receive bytes s)) := by
      intro bytes hb
      have hq : (if s.lki.requests.length < 4 then s.lki.requests ++ [⟨type, tag, payload⟩] else s.lki.requests) =
          if 4 ≤ s.lki.requests.length then s.lki.requests else s.lki.requests ++ [⟨type, tag, payload⟩] := by
        by_cases hl : s.lki.requests.length < 4
        · rw [if_pos hl, if_neg (by omega)]
        · rw [if_neg hl, if_pos (by omega)]
      have hf := receive_frame hrx hb
      rw [← hrx] at hf
      rw [hq]
      exact hf
    refine ⟨⟨_, rfl, hframe _ hone⟩, fun len hbad => ⟨_, rfl, hframe _ ?_⟩⟩
    have hne : len ≠ 0x7E#8 := by
      rintro rfl
      revert hbad
      decide
    rw [takeFrames_badLen true hbad, takeFrames_other true hne, hone]
  · exact fun i hi => ⟨_, exec_bytes hi s, receive_frame hrx hb⟩
  · intro n word
    have hcrc : crcHolds len more = true ↔ (crc16 (len :: more.take n)).toNat = word := crcHolds_iff len more
    refine ⟨fun h => takeFrames_givenUp wait ?_, fun h2 h252 hcut => takeFrames_cutOff h2 h252 hcut⟩
    rw [hcrc]
    exact h
  · intro gap found hold hnone i hi
    have hgap : gapDue s = true ↔ gap := gapDue_iff s
    have hkept : (if gapDue s then [] else s.lki.rx) = if gap then [] else s.lki.rx := by simp only [hgap]
    have hreceive := receive_none (bytes := bytes) (s := s) (fun h => hold (hgap.mp h)) (hkept ▸ hnone)
    rw [hkept] at hreceive
    refine ⟨_, exec_bytes hi s, ?_⟩
    rw [hreceive]
    exact settle_formedFrom _
  · have hgiven : takeFrames true (0x7E#8 :: len :: more) = ([], []) := by
      rw [takeFrames_givenUp true (.inr (.inr ⟨hlen.ge, fun h => hcrc ((crcHolds_iff len more).mp h)⟩)),
        ← List.append_nil (len :: more), takeFrames_junk true hsync, takeFrames_nil]
    refine ⟨_, exec_frameReceived _ s, ?_⟩
    rw [receive_of_empty hrx, hgiven]
    have hkeep : { s with lki := { s.lki with rx := [], rxLast := s.tbu.time } } =
        { s with lki := { s.lki with rxLast := s.tbu.time } } := by rw [← hrx]
    simp only [List.foldl_nil, hkeep]
    exact settle_formedFrom _

/-- Settles O40, from the occasions of the two timeouts. -/
theorem linkTimeouts : Obligations.LinkTimeouts := by
  unfold Obligations.LinkTimeouts
  refine fun s => ⟨fun hgiven hpassed => ?_, fun hrx hgap => ?_⟩
  · have hdue := (linkSilentDue_iff s).mpr ⟨hgiven, hpassed⟩
    refine ⟨settle (giveCause linkSilentIx s.now { s with lki.silentGiven := true }), by simp [exec, execLinkSilentExpiry, when', done, hdue], ?_⟩
    exact placed_settled (giveCause_placed linkSilentIx s.tbu.time { s with lki.silentGiven := true })
  · have hdue := (gapDue_iff s).mpr ⟨hrx, hgap⟩
    refine ⟨settle (abandonFrame s), by simp [exec, execFrameGapTimeout, when', done, hdue], (settle_formedFrom _).formed, ?_, fun hnone => ?_⟩
    · rw [settle_lki, abandonFrame_rx]
    · have habandon : abandonFrame s = { s with lki := { s.lki with rx := [] } } := by
        rw [abandonFrame, examine_eq, hnone, takeFrames_false_kept]
        rfl
      rw [habandon]
      exact settle_formedFrom _

/-- Settles O41: the transmitter's choice is `kick` of the transmitter freed, and a report is placed by `placeReport_spec`. -/
theorem transmitterChooses : Obligations.TransmitterChooses := by
  unfold Obligations.TransmitterChooses
  refine ⟨fun f s htx => ?_, fun r s => ?_⟩
  · intro due
    refine ⟨settle (finishFrame s), by simp [exec, execFrameSent, when', done, sending, htx], fun hdue => ?_, fun hdue => ⟨?_, ?_, ?_⟩⟩
    all_goals
      have hfinish : finishFrame s = kick (freed due s) := finishFrame_eq htx
      rw [hfinish]
    · rw [kick_idle rfl hdue, hdue]
      exact settle_formedFrom _
    all_goals
      have hwarm : s.lki.warmDue = false := (Bool.or_eq_false_iff.mp hdue).1
      have hfreed : freed due s = { s with lki := { s.lki with tx := none } } := by rw [freed, hdue, ← hwarm]
    · intro a as hready
      rw [kick_ready (s := freed due s) rfl hdue hready, hfreed]
      exact settle_formedFrom _
    · intro r rs hready hreports
      rw [kick_report (s := freed due s) rfl hdue hready hreports, hfreed]
      exact settle_formedFrom _
    · intro hready hreports
      rw [kick_empty (s := freed due s) hready hreports, hfreed]
      exact settle_formedFrom _
  · obtain ⟨hans, hreps, hrest, -, -⟩ := placeReport_spec r s
    refine ⟨hans, hrest, fun hlen => hreps hlen, fun hfull hsend => ?_⟩
    have henq : enqueueReport r s = { s with lki := { s.lki with reports := s.lki.reports.tail ++ [r], noticeLoss := true } } := if_pos hfull
    have hplace : placeReport r s = { s with lki := { s.lki with reports := s.lki.reports.tail ++ [r], noticeLoss := true } } := by
      rw [placeReport, henq]
      exact kick_sending hsend
    rw [hplace]
    exact ⟨rfl, rfl, rfl⟩

end Sys2Proof.Proofs
end

section
/-! SUPPORT. Proofs about the timers of the Condition Monitor (R154 to R156, R159) and single conversions (R22), with what holds of every
operation that places reports. -/

namespace Sys2Proof.Machine

open Sys2Proof.Safety

/-! ### A command on its occasion -/

theorem when'_due {due : Bool} (h : due = true) (s x : State) : when' due s x = .next (settle x) := by
  rw [when', if_pos h]
  rfl

theorem when'_idle {due : Bool} (h : due = false) (s x : State) : when' due s x = .next s := by
  rw [when', h]
  rfl

/-- A command on its occasion whose operation places reports. -/
theorem when'_placed {due : Bool} (h : due = true) (s : State) {rs : List Report} {x y : State} (hp : PlacedFrom rs x y) :
    ∃ t, when' due s y = .next t ∧ ReportedFrom rs x t := ⟨_, when'_due h s y, placed_settled hp⟩

/-! ### Placing and changes of the rest -/

section Map

variable {rs : List Report} {x t : State}

/-- A change that leaves outputs, link and retained generation may be made after the placing or before it. -/
theorem Places.map (h : Places rs x t) (f : State → State) (hf : ∀ u, sansLink (sansOutputs (f u)) = f (sansLink (sansOutputs u)))
    (hl : ∀ u, (f u).lki = u.lki) (hr : ∀ u, (f u).sst.retained = u.sst.retained) : Places rs (f x) (f t) where
  rest := by rw [hf, hf, h.rest]
  retained := by rw [hr, hr, h.retained]
  requests := by rw [hl, hl, h.requests]
  answers := by simpa only [answerPath, hl] using h.answers
  reports hc := by
    rw [hl] at hc
    simpa only [reportPath, hl] using h.reports hc
  behind := by rw [hl, hl, h.behind]
  room := by rw [hl, hl]; exact h.room

theorem Places.conds (h : Places rs x t) : t.cmn.conds = x.cmn.conds := (congrArg (fun u : State => u.cmn.conds) h.rest :)

theorem Places.mask (h : Places rs x t) : t.cmn.mask = x.cmn.mask := (congrArg (fun u : State => u.cmn.mask) h.rest :)

theorem Places.tbu (h : Places rs x t) : t.tbu = x.tbu := (congrArg (fun u : State => u.tbu) h.rest :)

theorem Places.convTimes (h : Places rs x t) : t.cmn.convTimes = x.cmn.convTimes :=
  (congrArg (fun u : State => u.cmn.convTimes) h.rest :)

theorem Places.csq (h : Places rs x t) : t.csq = x.csq := (congrArg (fun u : State => u.csq) h.rest :)

theorem Places.live (h : Places rs x t) : t.sst.live = x.sst.live := (congrArg (fun u : State => u.sst.live) h.rest :)

/-- The report of an entry's change is the same after reports have been placed. -/
theorem Places.reports_eq (h : Places rs x t) (ix : CondIx) (e : CondEntry) : changeReports ix e t = changeReports ix e x := by
  have hmask : maskOf ix t = maskOf ix x := by rw [maskOf, h.mask, maskOf]
  have hnow : t.now = x.now := by rw [State.now, h.tbu, State.now]
  rw [changeReports, changeReports, h.conds, hmask, hnow]

theorem Places.entered (h : Places rs x t) (ix : CondIx) (e : CondEntry) : Places rs (withEntry ix e x) (withEntry ix e t) where
  rest := by
    exact (congrArg (withEntry ix e) h.rest :)
  retained := h.retained
  requests := h.requests
  answers := h.answers
  reports := h.reports
  behind := h.behind
  room := h.room

/-- An operation that moves one entry, after reports have been placed. -/
theorem Places.thenEntry (h : Places rs x t) {ix : CondIx} {e : CondEntry} {u : State}
    (k : Places (changeReports ix e t) (withEntry ix e t) u) :
    Places (rs ++ changeReports ix e x) (withEntry ix e x) u := by
  rw [h.reports_eq] at k
  exact (h.entered ix e).trans k

theorem Places.caused (h : Places rs x t) (ix : CondIx) (isFault : Bool) (tm : Time) :
    let e := causedEntry isFault tm x.cmn.conds[ix]
    Places (rs ++ changeReports ix e x) (withEntry ix e x) (giveGraded ix isFault tm t) := by
  have k := giveGraded_places ix isFault tm t
  simp only [h.conds] at k
  exact h.thenEntry k

theorem Places.cleared (h : Places rs x t) (ix : CondIx) :
    let e := clearedEntry x.tbu.time x.cmn.conds[ix]
    Places (rs ++ changeReports ix e x) (withEntry ix e x) (giveClear ix t) := by
  have k := giveClear_places ix t
  simp only [h.conds, h.tbu] at k
  exact h.thenEntry k

end Map

/-! ### The kinds with a rule of their own -/

/-- The state with the CONV_LINK time list given. -/
def withConvTimes (times : List StoredTime) (s : State) : State := { s with cmn.convTimes := times }

theorem recentRun_eq (n d : Nat) (t : Time) (xs : List StoredTime) : recentRun n d t xs =
    decide (xs.length = n ∧ ∃ o ∈ xs.head?, o.old = false ∧ (t - o.time).toNat < d) := by
  rw [Bool.eq_iff_iff]
  cases hx : xs.head?
  · simp [recentRun, hx]
  · simp only [recentRun, hx, Option.any_some, Bool.and_eq_true, beq_iff_eq, Bool.not_eq_true', decide_eq_true_iff, Option.mem_def,
      Option.some.injEq, exists_eq_left', ticksFrom]
    exact and_congr_right' (and_congr_right' decide_eq_true_iff)

/-- A CONV_LINK cause after reports have been placed. -/
theorem Places.convLink {rs : List Report} {x t : State} (h : Places rs x t) (tm : Time) :
    let times := keepNewest 16 (x.cmn.convTimes ++ [⟨tm, false⟩])
    let e := causedEntry (recentRun 16 100000 tm times) tm x.cmn.conds[convLinkIx]
    Places (rs ++ changeReports convLinkIx e x) (withEntry convLinkIx e (withConvTimes times x)) (convLinkCause tm t) := by
  intro times e
  have ht : convLinkCause tm t = giveGraded convLinkIx (recentRun 16 100000 tm times) tm (withConvTimes times t) := by
    rw [convLinkCause, h.convTimes]
    rfl
  rw [ht]
  exact (h.map (withConvTimes times) (fun _ => rfl) (fun _ => rfl) fun _ => rfl).caused convLinkIx _ tm

/-! ### The timers of the Condition Monitor -/

theorem tempStaleDue_iff (s : State) : tempStaleDue s = true ↔ s.csq.temp.stale = false ∧
    s.csq.inForce.tempStale * 100000 ≤ (s.tbu.time - (s.csq.temp.value.map (·.2)).getD 0).toNat := by
  rw [tempStaleDue, Bool.and_eq_true, Bool.not_eq_true', passed, decide_eq_true_iff]
  rfl

/-- The state with the time of the cause that moved TEMP_LOST to ALERT given. -/
def withTempLostTime (t : Option Time) (s : State) : State := { s with cmn.tempLostTime := t }

/-- A TEMP_LOST cause keeps its time where the entry was CLEAR (R154). -/
theorem tempLostCause_placed (s : State) :
    let e := causedEntry false s.tbu.time s.cmn.conds[tempLostIx]
    PlacedFrom (changeReports tempLostIx e s) (withEntry tempLostIx e
      (withTempLostTime (if s.cmn.conds[tempLostIx].st = .clear then some s.tbu.time else s.cmn.tempLostTime) s)) (tempLostCause s) := by
  by_cases hc : s.cmn.conds[tempLostIx].st = .clear
  · have hb : (s.cmn.conds[tempLostIx].st == .clear) = true := beq_iff_eq.mpr hc
    rw [tempLostCause, if_pos hb, if_pos hc]
    exact giveCause_placed tempLostIx s.tbu.time (withTempLostTime (some s.tbu.time) s)
  · have hb : ¬ (s.cmn.conds[tempLostIx].st == .clear) = true := fun h => hc (beq_iff_eq.mp h)
    rw [tempLostCause, if_neg hb, if_neg hc]
    exact giveCause_placed tempLostIx s.tbu.time s

theorem entryPresent_iff (s : State) (ix : CondIx) :
    entryPresent s ix = true ↔ ∀ l ∈ entryLane ix, l.val < s.sst.live.site.laneCount := by
  cases h : entryLane ix <;> simp [entryPresent, h, lanePresent]

theorem passed_iff (now t : Time) (d : Nat) : passed now t d = true ↔ d ≤ (now - t).toNat := decide_eq_true_iff

theorem decayOf_eq (ix : CondIx) : decayOf ix = if (kindOf ix).1 = .laneIntrusion then 6000000 else 3000000 := by
  simp [decayOf, Config.intrusionDecay, Config.alertDecay]

section EntryTimers

variable {s : State} {ix : CondIx} {since : Time}

theorem decayPassed_of {now : Time} {e : CondEntry} (hk : (kindOf ix).1.family = .counted) (hst : e.st = .alert) (hlast : e.last = some since)
    (h : e.lapsed = true ∨ (if (kindOf ix).1 = .laneIntrusion then 6000000 else 3000000) ≤ (now - since).toNat) :
    decayPassed now ix e = true := by
  rw [← decayOf_eq, ← passed_iff] at h
  simp [decayPassed, hk, hst, hlast, h]

theorem watchPassed_of {now : Time} {e : CondEntry} (hst : e.st = .recovering) (hwatch : e.watch = some since)
    (h : e.lapsed = true ∨ 6000000 ≤ (now - since).toNat) : watchPassed now e = true := by
  rw [← passed_iff] at h
  simp [watchPassed, hst, hwatch, h, Config.recoverWatch]

end EntryTimers

theorem convLinkClearDue_of {s : State} {since : Time} (hst : s.cmn.conds[convLinkIx].st = .fault)
    (hlast : s.cmn.conds[convLinkIx].last = some since) (h : 1000000 ≤ (s.tbu.time - since).toNat) : convLinkClearDue s = true := by
  have hp : passed s.now since Config.convLinkQuiet = true := (passed_iff _ _ _).mpr h
  rw [convLinkClearDue, inFault, hst, hlast, Option.any_some, hp]
  rfl

theorem tempLostFaultDue_of {s : State} {since : Time} (hst : s.cmn.conds[tempLostIx].st = .alert) (htime : s.cmn.tempLostTime = some since)
    (h : s.csq.inForce.tempStale * 100000 ≤ (s.tbu.time - since).toNat) : tempLostFaultDue s = true := by
  have hp : passed s.now since (secs s.csq.inForce.tempStale) = true := (passed_iff _ _ _).mpr h
  rw [tempLostFaultDue, hst, htime, Option.any_some, hp]
  rfl

/-! ### Samples (R12, R19) -/

/-- The answer counts for the slot: it comes before the slot has ended, and is a good sample of the channel and gain code (R12). -/
abbrev Counts (s : State) (channel : Fin 8) (gain : Fin 4) (a : ConvAnswer) : Prop :=
  (s.tbu.time - s.csq.passTime).toNat ≤ s.csq.slotIx ∧ a.channel = channel.val ∧ a.gain = gain.val ∧ a.check = ~~~a.raw

theorem slotOpen_iff (s : State) : slotOpen s = true ↔ (s.tbu.time - s.csq.passTime).toNat ≤ s.csq.slotIx := decide_eq_true_iff

theorem counts_iff (s : State) (channel : Fin 8) (gain : Fin 4) (a : ConvAnswer) :
    Counts s channel gain a ↔ slotOpen s = true ∧ goodSample channel gain a = true := by
  simp [Counts, slotOpen_iff, goodSample, and_assoc]

/-- The sample that the answer to a slot gives: its value where the answer counts. -/
theorem bind_inSlot {α : Type} (s : State) (channel : Fin 8) (gain : Fin 4) (ans : Option ConvAnswer) (f : ConvAnswer → α) :
    ((answerInSlot ans s).bind fun a => if goodSample channel gain a then some (f a) else none) =
      ans.bind fun a => if Counts s channel gain a then some (f a) else none := by
  cases ans with
  | none => simp [answerInSlot]
  | some a =>
    cases hopen : slotOpen s <;> simp [answerInSlot, hopen, counts_iff]

theorem judge_inSlot (s : State) (channel : Fin 8) (gain : Fin 4) (ans : Option ConvAnswer) : judge channel gain (answerInSlot ans s) =
      ans.bind fun a => if Counts s channel gain a then some (a.raw.toInt * (8 / 2 ^ gain.val)) else none := by
  have hnorm : ∀ raw : BitVec 16, normOf gain raw = raw.toInt * (8 / 2 ^ gain.val) := fun raw => by
    simp [normOf]
  simp only [judge, hnorm]
  exact bind_inSlot s channel gain ans fun a => a.raw.toInt * (8 / 2 ^ gain.val)

/-! ### Single conversions (R22) -/

theorem singleDue_of {s : State} {p : SingleConv} (hslots : s.csq.slots = []) (hp : s.csq.single = some p) (ha : p.armed = true)
    (hix : s.csq.slotIx ≤ (s.tbu.time - s.csq.passTime).toNat) : singleDue s = true := by
  have hix' : decide (s.csq.slotIx ≤ ticksFrom s.csq.passTime s.now) = true := decide_eq_true hix
  rw [singleDue, hslots, hp, Option.any_some, ha, hix']
  rfl

/-- The state with the single conversion ended and its slot counted. -/
def withoutSingle (s : State) : State := { s with csq := { s.csq with single := none, slotIx := s.csq.slotIx + 1 } }

/-- What the end of a single conversion does: its report, and for a missing sample the CONV_LINK cause after it. -/
theorem takeSingle_eq {s : State} {p : SingleConv} (hp : s.csq.single = some p) (ans : Option ConvAnswer) : takeSingle ans s =
    let s1 := placeReport (singleReport p (answerInSlot ans s) s.csq.passTime) (withoutSingle s)
    if (judge p.chan p.gain (answerInSlot ans s)).isNone then convLinkCause s1.csq.passTime s1 else s1 := by
  simp only [takeSingle, hp]
  rfl

end Sys2Proof.Machine

namespace Sys2Proof.Proofs

open Sys2Proof.Machine
open Sys2Proof.Safety

/-- Settles O14, each timer from its occasion and the move of its entry. -/
theorem conditionTimers : Obligations.ConditionTimers := by
  unfold Obligations.ConditionTimers
  refine ⟨fun s hfresh hpassed => ?_, fun ix s since => ⟨fun habsent => ?_, fun hhere hk hst hlast h => ?_, fun hhere hst hwatch h => ?_⟩,
    fun s since => ⟨fun hst hlast h => ?_, fun hst htime h => ?_⟩⟩
  · exact when'_placed ((tempStaleDue_iff s).mpr ⟨hfresh, hpassed⟩) s (tempLostCause_placed { s with csq.temp.stale := true })
  · have hp : entryPresent s ix = false := by
      rw [← Bool.not_eq_true, entryPresent_iff]
      exact habsent
    have hdecay : alertDecayDue ix s = false := by rw [alertDecayDue, hp, Bool.false_and]
    have hwatch : recoverWatchDue ix s = false := by rw [recoverWatchDue, hp, Bool.false_and]
    exact ⟨when'_idle hdecay s _, when'_idle hwatch s _⟩
  · have hdue : alertDecayDue ix s = true := by
      rw [alertDecayDue, State.now, (entryPresent_iff s ix).mpr hhere, decayPassed_of hk hst hlast h, Bool.and_self]
    exact when'_placed hdue s (setCond_placed ix .clear s)
  · have hdue : recoverWatchDue ix s = true := by
      rw [recoverWatchDue, State.now, (entryPresent_iff s ix).mpr hhere, watchPassed_of hst hwatch h, Bool.and_self]
    exact when'_placed hdue s (setCond_placed ix .clear s)
  · exact when'_placed (convLinkClearDue_of hst hlast h) s
      ((setCond_places convLinkIx .clear s).map (withConvTimes []) (fun _ => rfl) (fun _ => rfl) fun _ => rfl).toPlacedFrom
  · exact when'_placed (tempLostFaultDue_of hst htime h) s (giveFault_placed tempLostIx s.tbu.time s)

/-- Settles O13: the report, and the CONV_LINK cause after it where the sample is missing. -/
theorem singleConversionReports : Obligations.SingleConversionReports := by
  unfold Obligations.SingleConversionReports
  intro s p ans hslots hp ha hix good report x
  have hgood : good = (answerInSlot ans s).bind fun a =>
      if goodSample p.chan p.gain a then some (a.raw.toInt, a.raw.toInt * (8 / 2 ^ p.gain.val)) else none :=
    (bind_inSlot s p.chan p.gain ans _).symm
  have hnorm : ∀ raw : BitVec 16, normOf p.gain raw = raw.toInt * (8 / 2 ^ p.gain.val) := fun raw => by simp [normOf]
  have hreport : singleReport p (answerInSlot ans s) s.csq.passTime = report := by
    simp only [singleReport, hnorm, report, hgood]
  have hjudge : (judge p.chan p.gain (answerInSlot ans s)).isNone = good.isNone := by
    rw [hgood]
    cases answerInSlot ans s with
    | none => rfl
    | some a => cases hg : goodSample p.chan p.gain a <;> simp [judge, hg]
  have hplace : Places [report] x (placeReport report (withoutSingle s)) := placeReport_places report x
  refine ⟨_, when'_due (singleDue_of hslots hp ha hix) s _, fun hsome => ?_, fun hnone => ?_⟩
  all_goals rw [takeSingle_eq hp, hreport]
  all_goals dsimp only
  all_goals rw [hjudge]
  · rw [if_neg (by rw [← Option.not_isSome, hsome]; decide)]
    exact placed_settled hplace.toPlacedFrom
  · rw [if_pos (by rw [hnone]; rfl), hplace.csq]
    have hlink := hplace.convLink s.csq.passTime
    simp only [recentRun_eq] at hlink
    exact placed_settled hlink.toPlacedFrom

end Sys2Proof.Proofs
end

section
/-! SUPPORT. Proofs about conversion slots (R12, R15, R19, R20, R23 to R25). -/

namespace Sys2Proof.Machine

open Sys2Proof.Safety

theorem slotDue_of {s : State} {e : ScanEntry} {rest : List ScanEntry} (hslots : s.csq.slots = e :: rest)
    (hix : s.csq.slotIx ≤ (s.tbu.time - s.csq.passTime).toNat) : slotDue s = true := by
  have hix' : decide (s.csq.slotIx ≤ ticksFrom s.csq.passTime s.now) = true := decide_eq_true hix
  rw [slotDue, hslots, hix']
  rfl

/-- The Converter Sequencer once the slot of entry e has given a sample or none (R19, R23, R25). -/
def csqAfter (e : ScanEntry) (rest : List ScanEntry) (norm : Option Int) (c : CsqState) : CsqState :=
  { c with
    slots := rest
    slotIx := c.slotIx + 1
    held := match norm with
      | some v => put c.held e.channel v
      | none => c.held
    temp := match norm with
      | some v => if e.channel = 6 then
          ⟨some (max (-400) (min 800 (Int.fdiv ((v - c.inForce.tempOfs) * c.inForce.tempGain) 65536)), c.passTime), false⟩ else c.temp
      | none => c.temp
    refFails := match norm with
      | some v => if e.channel = 7 then
          if |v - c.inForce.refNom| ≤ (c.inForce.refTol : Int) then 0 else min (c.refFails + 1) c.inForce.refN else c.refFails
      | none => c.refFails }

/-- The state with the slot of entry e done. -/
def slotDone (e : ScanEntry) (rest : List ScanEntry) (norm : Option Int) (s : State) : State := { s with csq := csqAfter e rest norm s.csq }

/-- The state with the slot taken from the pass, before its sample. -/
def slotTaken (rest : List ScanEntry) (s : State) : State := { s with csq := { s.csq with slots := rest, slotIx := s.csq.slotIx + 1 } }

/-- The state with the slot taken and its good sample held. -/
def slotHeld (e : ScanEntry) (rest : List ScanEntry) (v : Int) (s : State) : State :=
  { s with csq := { s.csq with slots := rest, slotIx := s.csq.slotIx + 1, held := put s.csq.held e.channel v } }

theorem takeSlot_eq {s : State} {e : ScanEntry} {rest : List ScanEntry} (hslots : s.csq.slots = e :: rest) (ans : Option ConvAnswer) :
    takeSlot ans s = takeSample e (judge e.channel e.gain (answerInSlot ans s)) (slotTaken rest s) := by
  simp only [takeSlot, hslots]
  rfl

theorem takeSample_some (e : ScanEntry) (rest : List ScanEntry) (v : Int) (s : State) :
    takeSample e (some v) (slotTaken rest s) = routeSample e.channel v false (slotHeld e rest v s) := rfl

theorem takeSample_none (e : ScanEntry) (rest : List ScanEntry) (s : State) : takeSample e none (slotTaken rest s) =
    routeSample e.channel s.csq.held[e.channel] true (convLinkCause s.csq.passTime (slotTaken rest s)) := rfl

section Route

variable {channel : Fin 8} {v : Int} {s : State}

theorem routeSample_strip {c : Chan} (h : c.val = channel.val) (missing : Bool) :
    routeSample channel v missing s = stripSample c v missing s := by
  have hlt : channel.val < 6 := h ▸ c.isLt
  have hc : (⟨channel.val, hlt⟩ : Chan) = c := Fin.ext h.symm
  rw [routeSample, dif_pos hlt, hc]

theorem routeSample_missing (h : 6 ≤ channel.val) : routeSample channel v true s = s := by
  rw [routeSample, dif_neg (by omega)]
  rfl

theorem routeSample_temperature (h : channel = 6) : routeSample channel v false s = takeTemperature v s := by
  subst h
  rfl

theorem routeSample_reference (h : channel = 7) : routeSample channel v false s = checkReference v s := by
  subst h
  rfl

end Route

/-- A sample of a strip channel changes no more of the sequencer than that it is held. -/
theorem slotDone_strip {e : ScanEntry} (h : e.channel.val < 6) (rest : List ScanEntry) (v : Int) (s : State) :
    slotDone e rest (some v) s = slotHeld e rest v s := by
  have h6 : e.channel ≠ 6 := fun hc => by rw [hc] at h; exact absurd h (by decide)
  have h7 : e.channel ≠ 7 := fun hc => by rw [hc] at h; exact absurd h (by decide)
  simp only [slotDone, csqAfter, slotHeld, h6, h7, if_false]

theorem slotDone_temperature {e : ScanEntry} (h : e.channel = 6) (rest : List ScanEntry) (v : Int) (s : State) :
    slotDone e rest (some v) s = { slotHeld e rest v s with csq.temp := ⟨some (temperatureOf s.csq.inForce v, s.csq.passTime), false⟩ } := by
  have h7 : ¬ (6 : Fin 8) = 7 := by decide
  simp only [slotDone, csqAfter, slotHeld, h, if_true, h7, if_false]
  rfl

theorem slotDone_reference {e : ScanEntry} (h : e.channel = 7) (rest : List ScanEntry) (v : Int) (s : State) :
    slotDone e rest (some v) s = { slotHeld e rest v s with csq.refFails :=
      if |v - s.csq.inForce.refNom| ≤ (s.csq.inForce.refTol : Int) then 0 else min (s.csq.refFails + 1) s.csq.inForce.refN } := by
  have h6 : ¬ (7 : Fin 8) = 6 := by decide
  simp only [slotDone, csqAfter, slotHeld, h, if_true, h6, if_false]

/-- A reading of channel 6 (R23, R24). -/
theorem takeTemperature_fresh {e : ScanEntry} (h : e.channel = 6) (rest : List ScanEntry) (v : Int) {s : State}
    (hs : s.csq.temp.stale = false) : takeTemperature v (slotHeld e rest v s) = slotDone e rest (some v) s := by
  have hstale : (slotHeld e rest v s).csq.temp.stale = false := hs
  rw [takeTemperature, hstale, slotDone_temperature h]
  rfl

theorem takeTemperature_stale {e : ScanEntry} (h : e.channel = 6) (rest : List ScanEntry) (v : Int) {s : State}
    (hs : s.csq.temp.stale = true) : takeTemperature v (slotHeld e rest v s) = tempLostClear (slotDone e rest (some v) s) := by
  have hstale : (slotHeld e rest v s).csq.temp.stale = true := hs
  rw [takeTemperature, hstale, slotDone_temperature h]
  rfl

/-- A reading of channel 7 within REF_TOL (R25). -/
theorem checkReference_good {e : ScanEntry} (h : e.channel = 7) (rest : List ScanEntry) {v : Int} {s : State}
    (hg : |v - s.csq.inForce.refNom| ≤ (s.csq.inForce.refTol : Int)) :
    checkReference v (slotHeld e rest v s) = slotDone e rest (some v) s := by
  rw [slotDone_reference h, if_pos hg]
  exact if_pos hg

/-- A reading of channel 7 outside REF_TOL (R25). -/
theorem checkReference_bad {e : ScanEntry} (h : e.channel = 7) (rest : List ScanEntry) {v : Int} {s : State}
    (hg : ¬ |v - s.csq.inForce.refNom| ≤ (s.csq.inForce.refTol : Int)) :
    checkReference v (slotHeld e rest v s) = giveGraded refCheckIx
      (decide (s.csq.inForce.refN ≤ (slotDone e rest (some v) s).csq.refFails)) s.tbu.time (slotDone e rest (some v) s) := by
  rw [slotDone_reference h, if_neg hg]
  exact if_neg hg

/-- A command's end leaves what no conversion changes, and the sequencer, as the operation did. -/
theorem settle_sameD {x y : State} (h : SameD x y) : (settle y).csq = x.csq ∧ (settle y).tbu = x.tbu ∧ (settle y).liu = x.liu ∧
    (settle y).rtk = x.rtk ∧ (settle y).sst.live = x.sst.live ∧ (settle y).pending = x.pending := by
  have hrest := (settle_formedFrom y).rest
  refine ⟨(congrArg (fun u : State => u.csq) hrest :).trans h.csq, (congrArg (fun u : State => u.tbu) hrest :).trans h.tbu,
    (congrArg (fun u : State => u.liu) hrest :).trans h.liu, (congrArg (fun u : State => u.rtk) hrest :).trans h.rtk, ?_,
    (congrArg (fun u : State => u.pending) hrest :).trans h.pending⟩
  have hlive : y.sst.live = x.sst.live := congrArg SstState.live h.sst
  exact (congrArg (fun u : State => u.sst.live) hrest :).trans hlive

end Sys2Proof.Machine

namespace Sys2Proof.Proofs

open Sys2Proof.Machine
open Sys2Proof.Safety

/-- The slot of an entry that gives no sample: its CONV_LINK cause, and the held value to the strip channel's receivers. -/
theorem slot_missing {s : State} {e : ScanEntry} {rest : List ScanEntry} {ans : Option ConvAnswer} (hslots : s.csq.slots = e :: rest)
    (hj : judge e.channel e.gain (answerInSlot ans s) = none) :
    let times := keepNewest 16 (s.cmn.convTimes ++ [⟨s.csq.passTime, false⟩])
    let ce := causedEntry (recentRun 16 100000 s.csq.passTime times) s.csq.passTime s.cmn.conds[convLinkIx]
    let lost := withEntry convLinkIx ce (withConvTimes times (slotDone e rest none s))
    let y := convLinkCause s.csq.passTime (slotTaken rest s)
    SameD (slotDone e rest none s) (takeSlot ans s) ∧ PlacedFrom (changeReports convLinkIx ce s) lost y ∧
      (6 ≤ e.channel.val → takeSlot ans s = y) ∧
      (∀ c : Chan, c.val = e.channel.val → takeSlot ans s = stripSample c s.csq.held[e.channel] true y) := by
  intro times ce lost y
  have htake : takeSlot ans s = routeSample e.channel s.csq.held[e.channel] true y := by
    rw [takeSlot_eq hslots, hj, takeSample_none]
  have hsame : SameD (slotDone e rest none s) y := (convLinkCause_same _ _).toB.toC.toD
  have hhigh : 6 ≤ e.channel.val → takeSlot ans s = y := fun h => htake.trans (routeSample_missing h)
  have hstrip : ∀ c : Chan, c.val = e.channel.val → takeSlot ans s = stripSample c s.csq.held[e.channel] true y :=
    fun c hc => htake.trans (routeSample_strip hc true)
  refine ⟨?_, ((Places.refl (slotTaken rest s)).convLink s.csq.passTime).toPlacedFrom, hhigh, hstrip⟩
  by_cases h : e.channel.val < 6
  · rw [hstrip ⟨e.channel.val, h⟩ rfl]
    exact hsame.trans ((detectorSample_same _ _ _ _ _).trans (zeroSample_same _ _ _ _))
  · rw [hhigh (by omega)]
    exact hsame

/-- The slot of an entry that gives a sample. -/
theorem slot_good {s : State} {e : ScanEntry} {rest : List ScanEntry} {ans : Option ConvAnswer} {v : Int} (hslots : s.csq.slots = e :: rest)
    (hj : judge e.channel e.gain (answerInSlot ans s) = some v) :
    let x := slotDone e rest (some v) s
    let te := clearedEntry s.tbu.time s.cmn.conds[tempLostIx]
    let re := causedEntry (decide (s.csq.inForce.refN ≤ x.csq.refFails)) s.tbu.time s.cmn.conds[refCheckIx]
    let y := takeSlot ans s
    SameD x y ∧
      (e.channel = 6 → s.csq.temp.stale = false → y = x) ∧
      (e.channel = 6 → s.csq.temp.stale = true →
        PlacedFrom (changeReports tempLostIx te s) (withEntry tempLostIx te (withTempLostTime none x)) y) ∧
      (e.channel = 7 → |v - s.csq.inForce.refNom| ≤ (s.csq.inForce.refTol : Int) → y = x) ∧
      (e.channel = 7 → ¬ |v - s.csq.inForce.refNom| ≤ (s.csq.inForce.refTol : Int) →
        PlacedFrom (changeReports refCheckIx re s) (withEntry refCheckIx re x) y) ∧
      (∀ c : Chan, c.val = e.channel.val → y = stripSample c v false x) := by
  intro x te re y
  have hy : y = routeSample e.channel v false (slotHeld e rest v s) := by
    show takeSlot ans s = _
    rw [takeSlot_eq hslots, hj, takeSample_some]
  have hfresh : e.channel = 6 → s.csq.temp.stale = false → y = x := fun h hs => by
    rw [hy, routeSample_temperature h, takeTemperature_fresh h rest v hs]
  have hstale : e.channel = 6 → s.csq.temp.stale = true → y = tempLostClear x := fun h hs => by
    rw [hy, routeSample_temperature h, takeTemperature_stale h rest v hs]
  have hgood : e.channel = 7 → |v - s.csq.inForce.refNom| ≤ (s.csq.inForce.refTol : Int) → y = x := fun h hg => by
    rw [hy, routeSample_reference h, checkReference_good h rest hg]
  have hbad : e.channel = 7 → ¬ |v - s.csq.inForce.refNom| ≤ (s.csq.inForce.refTol : Int) →
      y = giveGraded refCheckIx (decide (s.csq.inForce.refN ≤ x.csq.refFails)) s.tbu.time x := fun h hg => by
    rw [hy, routeSample_reference h, checkReference_bad h rest hg]
  have hstrip : ∀ c : Chan, c.val = e.channel.val → y = stripSample c v false x := fun c hc => by
    rw [hy, routeSample_strip hc, ← slotDone_strip (hc ▸ c.isLt)]
  refine ⟨?_, hfresh, fun h hs => ?_, hgood, fun h hg => ?_, hstrip⟩
  · have hcases : e.channel.val < 6 ∨ e.channel = 6 ∨ e.channel = 7 := by
      have := e.channel.isLt
      rw [Fin.ext_iff, Fin.ext_iff]
      show _ ∨ e.channel.val = 6 ∨ e.channel.val = 7
      omega
    rcases hcases with h | h | h
    · rw [hstrip ⟨e.channel.val, h⟩ rfl]
      exact (detectorSample_same _ _ _ _ _).trans (zeroSample_same _ _ _ _)
    · cases hs : s.csq.temp.stale
      · rw [hfresh h hs]
        exact .rfl' x
      · rw [hstale h hs]
        exact (tempLostClear_same x).toB.toC.toD
    · by_cases hg : |v - s.csq.inForce.refNom| ≤ (s.csq.inForce.refTol : Int)
      · rw [hgood h hg]
        exact .rfl' x
      · rw [hbad h hg]
        exact (giveGraded_same _ _ _ _).toB.toC.toD
  · rw [hstale h hs]
    exact giveClear_placed tempLostIx (withTempLostTime none x)
  · rw [hbad h hg]
    exact giveGraded_placed refCheckIx _ _ x

/-- Settles O12, by whether the slot gives a sample. -/
theorem conversionSlotTakesSample : Obligations.ConversionSlotTakesSample := by
  unfold Obligations.ConversionSlotTakesSample
  intro s e rest ans hslots hix norm csq times run ce te re x lost
  have hnorm : judge e.channel e.gain (answerInSlot ans s) = norm := judge_inSlot s e.channel e.gain ans
  have hrun : recentRun 16 100000 s.csq.passTime times = run := recentRun_eq _ _ _ _
  refine ⟨settle (takeSlot ans s), when'_due (slotDue_of hslots hix) s _, (settle_formedFrom _).formed, ?_⟩
  have hx : x = slotDone e rest norm s := rfl
  clear_value norm
  cases norm with
  | none =>
    obtain ⟨hsame, hplaced, hhigh, hstrip⟩ := slot_missing hslots hnorm
    rw [hrun] at hplaced
    obtain ⟨hcsq, htbu, hliu, hrtk, hlive, hpending⟩ := settle_sameD hsame
    refine ⟨hcsq, htbu, hliu, hrtk, hlive, hpending, fun h _ => ?_, fun _ hn => absurd rfl hn, fun _ _ hn => (by cases hn),
      fun c hc => ⟨fun _ hn => (by cases hn), fun _ => ⟨_, hplaced, ?_⟩⟩⟩
    · rw [hhigh h]
      exact placed_settled hplaced
    · have hpass : (convLinkCause s.csq.passTime (slotTaken rest s)).csq.passTime = s.csq.passTime := by
        rw [(convLinkCause_same _ _).csq]
        rfl
      rw [hstrip c hc, stripSample, hpass]
      exact settle_formedFrom _
  | some v =>
    obtain ⟨hsame, hfresh, hstale, hgood, hbad, hstrip⟩ := slot_good hslots hnorm
    obtain ⟨hcsq, htbu, hliu, hrtk, hlive, hpending⟩ := settle_sameD hsame
    refine ⟨hcsq, htbu, hliu, hrtk, hlive, hpending, fun _ hn => (by cases hn), fun h _ => ⟨fun hs => ?_, fun hs => ?_⟩,
      fun w h hw => ?_, fun c hc => ⟨fun w hw => ?_, fun hn => (by cases hn)⟩⟩
    · rw [hfresh h hs]
      exact settle_formedFrom _
    · exact placed_settled (hstale h hs)
    · cases hw
      refine ⟨fun hg => ?_, fun hg => placed_settled (hbad h hg)⟩
      rw [hgood h hg]
      exact settle_formedFrom _
    · cases hw
      rw [hstrip c hc]
      exact settle_formedFrom _

end Sys2Proof.Proofs
end

section
/-! SUPPORT. Proofs about device seconds and the grading of the channels (R6, R37). -/

namespace Sys2Proof.Machine

open Sys2Proof.Safety

/-! ### The notices of a change of grade -/

/-- What the notices of a change of grade do to the entry, in their order (R37; log entry 20). -/
def gradeEdits (now : Time) (old new : ZeroGrade) : List (CondEntry → CondEntry) :=
  let cause := causedEntry false now
  let fault := causedEntry true now
  let clear := clearedEntry now
  match old, new with
  | .fresh, .overdue => [cause]
  | .fresh, .failing => [cause, fault]
  | .overdue, .failing => [fault]
  | .overdue, .fresh | .failing, .fresh => [clear]
  | .failing, .overdue => [clear, cause]
  | .fresh, .fresh | .overdue, .overdue | .failing, .failing => []

/-- An entry after notices given one after the other. -/
def edited (fs : List (CondEntry → CondEntry)) (e : CondEntry) : CondEntry := fs.foldl (fun e f => f e) e

/-- The reports of one notice or of two. -/
def editReports (ix : CondIx) (fs : List (CondEntry → CondEntry)) (s : State) : List Report :=
  match fs with
  | [] => []
  | f :: fs =>
    let e := edited [f] s.cmn.conds[ix]
    changeReports ix e s ++ changeReports ix (edited (f :: fs) s.cmn.conds[ix]) (withEntry ix e s)

theorem withEntry_conds_self (ix : CondIx) (e : CondEntry) (s : State) : (withEntry ix e s).cmn.conds[ix] = e := put_getElem_self _ _ _

theorem withEntry_conds_other {ix jx : CondIx} (h : jx ≠ ix) (e : CondEntry) (s : State) :
    (withEntry ix e s).cmn.conds[jx] = s.cmn.conds[jx] := put_getElem_other _ _ _ _ h

theorem withEntry_withEntry (ix : CondIx) (e f : CondEntry) (s : State) : withEntry ix f (withEntry ix e s) = withEntry ix f s := by
  simp only [withEntry, put_put]

theorem withEntry_self (ix : CondIx) (s : State) : withEntry ix s.cmn.conds[ix] s = s := by
  simp only [withEntry, put_self]

/-- An entry that stands as it is gives no report. -/
theorem changeReports_same (ix : CondIx) (e : CondEntry) (s : State) : changeReports ix e (withEntry ix e s) = [] := by
  simp only [changeReports, withEntry_conds_self, bne_self_eq_false, Bool.false_and, Bool.false_eq_true, if_false]

/-- One notice. -/
theorem places_edited {ix : CondIx} {f : CondEntry → CondEntry} {s t : State}
    (h : Places (changeReports ix (f s.cmn.conds[ix]) s) (withEntry ix (f s.cmn.conds[ix]) s) t) :
    Places (editReports ix [f] s) (withEntry ix (edited [f] s.cmn.conds[ix]) s) t := by
  have hr : editReports ix [f] s = changeReports ix (f s.cmn.conds[ix]) s := by
    simp only [editReports, edited, List.foldl_cons, List.foldl_nil, changeReports_same, List.append_nil]
  rw [hr]
  exact h

/-- A second notice after the first. -/
theorem places_edited_two {ix : CondIx} {f g : CondEntry → CondEntry} {s t : State}
    (h : Places (changeReports ix (f s.cmn.conds[ix]) s ++
        changeReports ix (g (withEntry ix (f s.cmn.conds[ix]) s).cmn.conds[ix]) (withEntry ix (f s.cmn.conds[ix]) s))
      (withEntry ix (g (withEntry ix (f s.cmn.conds[ix]) s).cmn.conds[ix]) (withEntry ix (f s.cmn.conds[ix]) s)) t) :
    Places (editReports ix [f, g] s) (withEntry ix (edited [f, g] s.cmn.conds[ix]) s) t := by
  simp only [withEntry_conds_self, withEntry_withEntry] at h
  exact h

theorem gradeNotices_places (c : Chan) (old new : ZeroGrade) (s : State) :
    let ix := overdueIx c
    let fs := gradeEdits s.tbu.time old new
    Places (editReports ix fs s) (withEntry ix (edited fs s.cmn.conds[ix]) s) (gradeNotices c old new s) := by
  have hcause := giveCause_places (overdueIx c) s.tbu.time s
  have hclear := giveClear_places (overdueIx c) s
  have hnone : Places (editReports (overdueIx c) [] s) (withEntry (overdueIx c) (edited [] s.cmn.conds[overdueIx c]) s) s := by
    have hsame := withEntry_self (overdueIx c) s
    rw [edited, List.foldl_nil, hsame]
    exact .refl s
  cases old <;> cases new
  case fresh.overdue => exact places_edited hcause
  case fresh.failing => exact places_edited_two (hcause.caused (overdueIx c) true s.tbu.time)
  case overdue.failing => exact places_edited (giveFault_places (overdueIx c) s.tbu.time s)
  case overdue.fresh => exact places_edited hclear
  case failing.fresh => exact places_edited hclear
  case failing.overdue => exact places_edited_two (hclear.caused (overdueIx c) false s.tbu.time)
  all_goals exact hnone

/-! ### Grading one channel -/

/-- The lane of the channel is CLOSED (R162). -/
def laneShut (s : State) (c : Chan) : Bool := laneModeOf s (chanLane c) == .closed

/-- A channel's state graded (R37). -/
def gradedChan (s : State) (c : Chan) : ZeroChan := { s.zsc.chans[c] with due := zeroDue s c, grade := gradeOf s c }

/-- The state with the Zero Scheduler's state of a channel replaced. -/
def withChan (c : Chan) (z : ZeroChan) (s : State) : State := { s with zsc := { s.zsc with chans := put s.zsc.chans c z } }

/-- The state with a channel graded, with the entry of its ZERO_OVERDUE as the notices leave it. -/
def gradeStep (s : State) (c : Chan) : State :=
  if laneShut s c then s
  else withEntry (overdueIx c) (edited (gradeEdits s.tbu.time s.zsc.chans[c].grade (gradeOf s c)) s.cmn.conds[overdueIx c])
    (withChan c (gradedChan s c) s)

/-- The reports of a channel's grading. -/
def gradeReports (s : State) (c : Chan) : List Report :=
  if laneShut s c then []
  else editReports (overdueIx c) (gradeEdits s.tbu.time s.zsc.chans[c].grade (gradeOf s c)) s

/-- A channel is graded unless its lane is CLOSED. -/
def gradeOpen (s : State) (c : Chan) : State := if laneShut s c then s else gradeChannel c s

section Frame

variable {rs : List Report} {x t : State} (h : Places rs x t)

include h

theorem Places.zsc : t.zsc = x.zsc := (congrArg (fun u : State => u.zsc) h.rest :)

theorem Places.laneMode (l : Lane) : laneModeOf t l = laneModeOf x l := by
  have hmark : t.cmn.closedMark = x.cmn.closedMark := (congrArg (fun u : State => u.cmn.closedMark) h.rest :)
  have hflag : t.cmn.safeFlag = x.cmn.safeFlag := (congrArg (fun u : State => u.cmn.safeFlag) h.rest :)
  have hfault : ∀ i, inFault t i = inFault x i := fun i => by rw [inFault, h.conds, inFault]
  have hblanket : ∀ l, blanketFault t l = blanketFault x l := fun l => by simp only [blanketFault, funext hfault]
  have hdegraded : ∀ l, degradedFault t l = degradedFault x l := fun l => by simp only [degradedFault, funext hfault]
  rw [laneModeOf, laneModeOf, h.live, hmark, hflag, hblanket, hdegraded]

theorem Places.editReports_eq (ix : CondIx) (fs : List (CondEntry → CondEntry)) : editReports ix fs t = editReports ix fs x := by
  cases fs with
  | nil => rfl
  | cons f fs => simp only [editReports, h.conds, h.reports_eq, (h.entered ix _).reports_eq]

/-- Reports placed before leave the grading of a channel as it is. -/
theorem Places.graded (c : Chan) : Places (rs ++ gradeReports x c) (gradeStep x c) (gradeOpen t c) := by
  have hshut : laneShut t c = laneShut x c := by rw [laneShut, h.laneMode, laneShut]
  have hage : zeroAge t c = zeroAge x c := by rw [zeroAge, h.tbu, h.zsc, zeroAge]
  have hgrade : gradeOf t c = gradeOf x c := by rw [gradeOf, h.live, hage, gradeOf]
  have hdue : zeroDue t c = zeroDue x c := by rw [zeroDue, h.live, hage, h.zsc, zeroDue]
  unfold gradeReports gradeStep gradeOpen
  rw [hshut]
  split
  · rw [List.append_nil]
    exact h
  · have hmap := h.map (withChan c (gradedChan x c)) (fun _ => rfl) (fun _ => rfl) fun _ => rfl
    have hchannel : gradeChannel c t = gradeNotices c x.zsc.chans[c].grade (gradeOf x c) (withChan c (gradedChan x c) t) := by
      have hchan : changeZero c (fun z => { z with due := zeroDue t c, grade := gradeOf t c }) t = withChan c (gradedChan x c) t := by
        rw [hgrade, hdue, withChan, gradedChan, ← h.zsc]
        rfl
      rw [gradeChannel, hchan, hgrade, h.zsc]
    have hnotices := gradeNotices_places c x.zsc.chans[c].grade (gradeOf x c) (withChan c (gradedChan x c) t)
    simp only [hmap.conds, hmap.tbu, hmap.editReports_eq] at hnotices
    rw [hchannel]
    exact (hmap.entered _ _).trans hnotices

end Frame

/-! ### Grading the channels in turn -/

theorem laneModeOf_eq_closed (s : State) (l : Lane) : (laneModeOf s l == .closed) = (!lanePresent s.sst.live l || s.cmn.closedMark[l]) := by
  unfold laneModeOf
  split
  next h => rw [h]; rfl
  next h =>
    rw [Bool.not_eq_true] at h
    rw [h]
    split
    · rfl
    · split <;> rfl

theorem overdueIx_inj : ∀ {c d : Chan}, overdueIx c = overdueIx d → c = d := by decide

/-- What the grading of channel d reads is the same in two states. -/
structure GradesSame (d : Chan) (s u : State) : Prop where
  tbu  : u.tbu = s.tbu
  live : u.sst.live = s.sst.live
  mask : u.cmn.mask = s.cmn.mask
  mark : u.cmn.closedMark = s.cmn.closedMark
  chan : u.zsc.chans[d] = s.zsc.chans[d]
  cond : u.cmn.conds[overdueIx d] = s.cmn.conds[overdueIx d]

namespace GradesSame

variable {d : Chan} {s u : State} (h : GradesSame d s u)

include h

theorem shut : laneShut u d = laneShut s d := by
  rw [laneShut, laneShut, laneModeOf_eq_closed, laneModeOf_eq_closed, h.live, h.mark]

theorem age : zeroAge u d = zeroAge s d := by rw [zeroAge, h.tbu, h.chan, zeroAge]

theorem grade : gradeOf u d = gradeOf s d := by rw [gradeOf, h.live, h.age, gradeOf]

theorem graded : gradedChan u d = gradedChan s d := by
  have hdue : zeroDue u d = zeroDue s d := by rw [zeroDue, h.live, h.age, h.chan, zeroDue]
  rw [gradedChan, gradedChan, h.chan, h.grade, hdue]

theorem reports_eq (e : CondEntry) : changeReports (overdueIx d) e u = changeReports (overdueIx d) e s := by
  have hmask : maskOf (overdueIx d) u = maskOf (overdueIx d) s := by rw [maskOf, h.mask, maskOf]
  have hnow : u.now = s.now := by rw [State.now, h.tbu, State.now]
  rw [changeReports, changeReports, h.cond, hmask, hnow]

theorem entered (e : CondEntry) : GradesSame d (withEntry (overdueIx d) e s) (withEntry (overdueIx d) e u) where
  tbu := h.tbu
  live := h.live
  mask := h.mask
  mark := h.mark
  chan := h.chan
  cond := by rw [withEntry_conds_self, withEntry_conds_self]

theorem editReports_eq (fs : List (CondEntry → CondEntry)) : editReports (overdueIx d) fs u = editReports (overdueIx d) fs s := by
  cases fs with
  | nil => rfl
  | cons f fs => simp only [editReports, h.cond, h.reports_eq, (h.entered _).reports_eq]

end GradesSame

/-- A channel's state and its entry once graded, unless its lane is CLOSED. -/
def finalChan (s : State) (d : Chan) : ZeroChan := if laneShut s d then s.zsc.chans[d] else gradedChan s d

def finalEntry (s : State) (d : Chan) : CondEntry := if laneShut s d then s.cmn.conds[overdueIx d]
  else edited (gradeEdits s.tbu.time s.zsc.chans[d].grade (gradeOf s d)) s.cmn.conds[overdueIx d]

theorem GradesSame.final {d : Chan} {s u : State} (h : GradesSame d s u) :
    finalChan u d = finalChan s d ∧ finalEntry u d = finalEntry s d ∧ gradeReports u d = gradeReports s d := by
  simp only [finalChan, finalEntry, gradeReports, h.shut, h.chan, h.graded, h.tbu, h.grade, h.cond, h.editReports_eq, and_self]

/-- The grading of channel c leaves what that of another channel reads. -/
theorem gradeStep_same (s : State) {c d : Chan} (h : d ≠ c) : GradesSame d s (gradeStep s c) := by
  unfold gradeStep
  split
  · exact ⟨rfl, rfl, rfl, rfl, rfl, rfl⟩
  · exact ⟨rfl, rfl, rfl, rfl, put_getElem_other _ _ _ _ h, withEntry_conds_other (fun he => h (overdueIx_inj he)) _ _⟩

/-- The state with other channel states and entries. -/
def withGrades (chans : Vector ZeroChan 6) (conds : Vector CondEntry 65) (s : State) : State :=
  { s with zsc := { s.zsc with chans := chans }, cmn := { s.cmn with conds := conds } }

theorem withGrades_of_frame {s u : State} (h : u = withGrades u.zsc.chans u.cmn.conds s) (chans : Vector ZeroChan 6)
    (conds : Vector CondEntry 65) : withGrades chans conds u = withGrades chans conds s := by
  rw [h]
  rfl

/-- What the grading of channels, each once, leaves. -/
structure GradedAll (cs : List Chan) (s u : State) : Prop where
  frame    : u = withGrades u.zsc.chans u.cmn.conds s
  chan     : ∀ d ∈ cs, u.zsc.chans[d] = finalChan s d
  entry    : ∀ d ∈ cs, u.cmn.conds[overdueIx d] = finalEntry s d
  other    : ∀ d ∉ cs, u.zsc.chans[d] = s.zsc.chans[d]
  otherIx  : ∀ i : CondIx, (∀ d ∈ cs, i ≠ overdueIx d) → u.cmn.conds[i] = s.cmn.conds[i]

theorem gradeStep_gradedOne (s : State) (c : Chan) : GradedAll [c] s (gradeStep s c) := by
  unfold gradeStep
  refine ⟨by split <;> rfl, fun d hd => ?_, fun d hd => ?_, fun d hd => ?_, fun i hi => ?_⟩
  · obtain rfl := List.mem_singleton.mp hd
    unfold finalChan
    split
    · rfl
    · exact put_getElem_self _ _ _
  · obtain rfl := List.mem_singleton.mp hd
    unfold finalEntry
    split
    · rfl
    · exact withEntry_conds_self _ _ _
  · split
    · rfl
    · exact put_getElem_other _ _ _ _ (fun he => hd (he ▸ List.mem_singleton_self _))
  · split
    · rfl
    · exact withEntry_conds_other (hi c (List.mem_singleton_self c)) _ _

theorem foldl_gradeStep {cs : List Chan} (hn : cs.Nodup) (s : State) : GradedAll cs s (cs.foldl gradeStep s) := by
  induction cs generalizing s with
  | nil => exact ⟨rfl, nofun, nofun, fun _ _ => rfl, fun _ _ => rfl⟩
  | cons c cs ih =>
    obtain ⟨hc, hcs⟩ := List.nodup_cons.mp hn
    have hone := gradeStep_gradedOne s c
    have hrest := ih hcs (gradeStep s c)
    have hsame : ∀ d ∈ cs, GradesSame d s (gradeStep s c) := fun d hd => gradeStep_same s fun he => hc (he ▸ hd)
    rw [List.foldl_cons]
    refine ⟨?_, fun d hd => ?_, fun d hd => ?_, fun d hd => ?_, fun i hi => ?_⟩
    · exact hrest.frame.trans (withGrades_of_frame hone.frame _ _)
    · rcases List.mem_cons.mp hd with rfl | hd
      · exact (hrest.other d hc).trans (hone.chan d (List.mem_singleton_self d))
      · exact (hrest.chan d hd).trans (hsame d hd).final.1
    · rcases List.mem_cons.mp hd with rfl | hd
      · have hne : ∀ k ∈ cs, overdueIx d ≠ overdueIx k := fun k hk he => hc (overdueIx_inj he ▸ hk)
        exact (hrest.otherIx _ hne).trans (hone.entry d (List.mem_singleton_self d))
      · exact (hrest.entry d hd).trans (hsame d hd).final.2.1
    · obtain ⟨hdc, hdcs⟩ := not_or.mp (fun h => hd (List.mem_cons.mpr h))
      exact (hrest.other d hdcs).trans (hone.other d (by simpa using hdc))
    · exact (hrest.otherIx i fun d hd => hi d (by simp [hd])).trans (hone.otherIx i fun d hd => hi d (by simp_all))

/-- The channels graded in turn: the reports of each, in order. -/
theorem Places.gradedAll {cs : List Chan} (hn : cs.Nodup) {rs : List Report} {x t : State} (h : Places rs x t) :
    Places (rs ++ cs.flatMap (gradeReports x)) (cs.foldl gradeStep x) (cs.foldl gradeOpen t) := by
  induction cs generalizing rs x t with
  | nil => simpa using h
  | cons c cs ih =>
    obtain ⟨hc, hcs⟩ := List.nodup_cons.mp hn
    have hrest := ih hcs (h.graded c)
    have hreports : cs.flatMap (gradeReports (gradeStep x c)) = cs.flatMap (gradeReports x) :=
      List.flatMap_congr fun d hd => (gradeStep_same x fun he : d = c => hc (he ▸ hd)).final.2.2
    rw [hreports, List.append_assoc] at hrest
    exact hrest

end Sys2Proof.Machine

namespace Sys2Proof.Proofs

open Sys2Proof.Machine
open Sys2Proof.Safety

/-- What DEVICE_SECONDS_ADVANCE gives, in the terms of the grading of each channel. -/
theorem secondAdvanced {s : State} (h : 100000 ≤ s.tbu.secTicks) : ∃ y t, exec .deviceSecondsAdvance s = .next t ∧
    GradedAll allChans (advanceSecond s) y ∧ ReportedFrom (allChans.flatMap (gradeReports (advanceSecond s))) y t := by
  have hdue : secondDue s = true := decide_eq_true h
  have hnodup : allChans.Nodup := by decide
  have hplaces := (Places.refl (advanceSecond s)).gradedAll hnodup
  obtain ⟨t, ht, hrep⟩ := when'_placed hdue s hplaces.toPlacedFrom
  exact ⟨_, t, ht, foldl_gradeStep hnodup _, hrep⟩

theorem mem_allChans : ∀ c : Chan, c ∈ allChans := by decide

/-- The notices of a channel, by the grades before and after, also where its lane is CLOSED. -/
theorem finalEntry_eq (s : State) (c : Chan) : finalEntry s c =
    edited (gradeEdits s.tbu.time s.zsc.chans[c].grade (finalChan s c).grade) s.cmn.conds[overdueIx c] := by
  unfold finalEntry finalChan
  split
  · cases s.zsc.chans[c].grade <;> rfl
  · rfl

theorem gradeReports_eq (s : State) (c : Chan) : gradeReports s c =
    editReports (overdueIx c) (gradeEdits s.tbu.time s.zsc.chans[c].grade (finalChan s c).grade) s := by
  unfold gradeReports finalChan
  split
  · cases s.zsc.chans[c].grade <;> rfl
  · rfl

/-- Settles O10: the channels are graded in turn, and the notices of each are those of its change of grade. -/
theorem deviceSecondsAdvance : Obligations.DeviceSecondsAdvance := by
  unfold Obligations.DeviceSecondsAdvance
  intro s hticks
  obtain ⟨y, t, ht, hy, hrep⟩ := secondAdvanced hticks
  obtain ⟨hformed, -, hrest, hrequests, hanswers, hreports⟩ := hrep
  have hlki : y.lki = s.lki := (congrArg State.lki hy.frame :)
  have htbu : t.tbu = (advanceSecond s).tbu := (congrArg (fun u : State => u.tbu) hrest :).trans (congrArg State.tbu hy.frame :)
  have hzsc : t.zsc = y.zsc := (congrArg (fun u : State => u.zsc) hrest :)
  have hconds : t.cmn.conds = y.cmn.conds := (congrArg (fun u : State => u.cmn.conds) hrest :)
  have hchan : ∀ c, t.zsc.chans[c] = finalChan (advanceSecond s) c := fun c => by rw [hzsc, hy.chan c (mem_allChans c)]
  have hshut : ∀ c, laneShut (advanceSecond s) c = (laneModeOf s (chanLane c) == .closed) := fun c => rfl
  have hentry : ∀ c, t.cmn.conds[overdueIx c] = edited
      (gradeEdits s.tbu.time s.zsc.chans[c].grade t.zsc.chans[c].grade) s.cmn.conds[overdueIx c] := fun c => by
    rw [hconds, hy.entry c (mem_allChans c), finalEntry_eq, ← hchan]
    rfl
  refine ⟨t, ht, hformed, htbu, fun c hc => ?closedLane, fun c hc => ?openLane, fun i hi => ?others, ⟨hentry, ?reported⟩, ?rest, ?answers,
    ?requests⟩
  case closedLane =>
    rw [hchan, finalChan, if_pos (by rw [hshut, hc]; rfl)]
    rfl
  case openLane =>
    rw [hchan, finalChan, if_neg (by rw [hshut, beq_iff_eq]; exact hc), htbu]
    rfl
  case others =>
    by_cases hgraded : ∃ c, i = overdueIx c
    · obtain ⟨c, rfl⟩ := hgraded
      rw [hentry, hi c rfl]
      cases s.zsc.chans[c].grade <;> rfl
    · rw [hconds, hy.otherIx i fun c _ he => hgraded ⟨c, he⟩]
      rfl
  case reported =>
    have hplaced : (List.finRange 6).flatMap (fun c => editReports (overdueIx c)
        (gradeEdits s.tbu.time s.zsc.chans[c].grade t.zsc.chans[c].grade) s) = allChans.flatMap (gradeReports (advanceSecond s)) := by
      refine List.flatMap_congr fun c _ => ?_
      rw [gradeReports_eq, ← hchan]
      rfl
    have hr : Reported (allChans.flatMap (gradeReports (advanceSecond s))) s t := by
      simpa only [Reported, reportPath, hlki] using hreports
    rw [← hplaced] at hr
    exact hr
  case rest =>
    rw [hrest, hzsc, hconds, htbu, hy.frame]
    rfl
  case answers => simpa only [answerPath, hlki] using hanswers
  case requests => rw [hrequests, hlki]

end Sys2Proof.Proofs
end

section
/-! SUPPORT. Proofs about scan ticks, the selection of a channel to zero (R38, R39) and zero measurements (R41, R42). -/

namespace Sys2Proof.Machine

open Sys2Proof.Safety

/-! ### Selection (R38, R39) -/

theorem scansChan_iff (list : Vector ScanEntry 16) (c : Chan) :
    scansChan list c = true ↔ ∃ e ∈ usedEntries list, e.channel.val = c.val ∧ e.every = 1 := by
  simp [scansChan]

theorem detectorQuiet_iff (s : State) (c : Chan) : detectorQuiet s c = true ↔ s.scu[c].det = .idle ∨ s.scu[c].det = .off := by
  rw [detectorQuiet, Bool.or_eq_true, beq_iff_eq, beq_iff_eq]

theorem laneIdle_iff (s : State) (l : Lane) : laneIdle s l = true ↔
    (s.liu.deb[loopInput (pLoop l)].level = false ∨ inService s (pLoop l) = false) ∧
    (s.scu[s1Chan l].det = .idle ∨ s.scu[s1Chan l].det = .off) ∧ (s.scu[s2Chan l].det = .idle ∨ s.scu[s2Chan l].det = .off) ∧
    s.las[l].fifo = [] ∧ ∀ r ∈ s.rtb.pool, r.lane = l → r.st ≠ .assembling := by
  have hpool : (!(s.rtb.pool.any fun r => r.lane == l && r.st == .assembling)) = true ↔
      ∀ r ∈ s.rtb.pool, r.lane = l → r.st ≠ .assembling := by simp
  rw [laneIdle, Bool.and_eq_true, Bool.and_eq_true, Bool.and_eq_true, Bool.and_eq_true, hpool, presenceFree, Bool.or_eq_true,
    Bool.not_eq_true', Bool.not_eq_true', detectorQuiet_iff, detectorQuiet_iff, List.isEmpty_iff]
  simp only [and_assoc]

theorem qualifies_iff (s : State) (c : Chan) : qualifies s c = true ↔
    (chanLane c).val < s.sst.live.site.laneCount ∧
    (s.zsc.chans[c].requested = true ∨ (s.zsc.chans[c].due = true ∧ laneModeOf s (chanLane c) ≠ .closed)) ∧
    (∃ e ∈ usedEntries s.csq.inForce.scanList, e.channel.val = c.val ∧ e.every = 1) ∧ laneIdle s (chanLane c) = true := by
  rw [qualifies]
  rw [Bool.and_eq_true, Bool.and_eq_true, Bool.and_eq_true, Bool.or_eq_true, Bool.and_eq_true, scansChan_iff, lanePresent,
    decide_eq_true_iff, bne_iff_ne]
  simp only [and_assoc]

/-- The places from the pointer on to a channel, with wraparound. -/
def placesTo (p c : Chan) : Nat := (c.val + 6 - p.val) % 6

theorem chanAfter_placesTo : ∀ p c : Chan, chanAfter p (placesTo p c) = c := by decide

theorem placesTo_chanAfter : ∀ (p : Chan) (n : Fin 6), placesTo p (chanAfter p n.val) = n.val := by decide

theorem placesTo_lt (p c : Chan) : placesTo p c < 6 := Nat.mod_lt _ (by decide)

theorem selectChannel_none {s : State} (h : ∀ c, ¬ qualifies s c = true) : selectChannel s = none := by
  rw [selectChannel, List.find?_eq_none]
  exact fun c _ => h c

/-- The channel selected is the first from the pointer on that qualifies. -/
theorem selectChannel_some {s : State} {c : Chan} (hc : qualifies s c = true)
    (hfirst : ∀ k, qualifies s k = true → placesTo s.zsc.pointer c ≤ placesTo s.zsc.pointer k) : selectChannel s = some c := by
  have hplace : (List.range 6).find? (qualifies s ∘ chanAfter s.zsc.pointer) = some (placesTo s.zsc.pointer c) := by
    rw [List.find?_range_eq_some]
    refine ⟨?_, List.mem_range.mpr (placesTo_lt _ _), fun j hj => ?_⟩
    · rw [Function.comp_apply, chanAfter_placesTo, hc]
    · rw [Bool.not_eq_true']
      rw [← Bool.not_eq_true]
      intro hq
      have hle := hfirst _ hq
      have hj6 : j < 6 := hj.trans (placesTo_lt _ _)
      have := placesTo_chanAfter s.zsc.pointer ⟨j, hj6⟩
      simp only at this
      omega
  rw [selectChannel, List.find?_map, hplace, Option.map_some, chanAfter_placesTo]

/-! ### Measurements (R41, R42) -/

theorem abandonZero_some {s : State} {m : Measurement} (h : s.zsc.meas = some m) :
    abandonZero s = { s with zsc := { s.zsc with pointer := m.chan, meas := none } } := by
  rw [abandonZero, h]

theorem zeroScanTick_eq (s : State) : zeroScanTick s = { s with
    zsc := match s.zsc.meas with
      | some m => if scansChan s.csq.inForce.scanList m.chan then s.zsc else { s.zsc with pointer := m.chan, meas := none }
      | none => { s.zsc with meas := (selectChannel s).map fun c =>
          { chan := c, count := 0, sum := 0, least := 0, greatest := 0, zeroN := s.sst.live.zero.zeroN,
            spread := s.sst.live.zero.zeroSpread, range := s.sst.live.zero.zeroRange, baseRef := s.sst.live.zero.baseRef[c] } } } := by
  unfold zeroScanTick
  cases hm : s.zsc.meas with
  | some m =>
    dsimp only
    split
    · rfl
    · exact abandonZero_some hm
  | none =>
    dsimp only
    unfold selectMeasurement
    cases selectChannel s with
    | some c => rfl
    | none =>
      dsimp only [Option.map_none]
      rw [← hm]

theorem scanTickDue_of {s : State} (h : s.tbu.scanDue = true) (hs : s.csq.slots = []) : scanTickDue s = true := by
  rw [scanTickDue, h, hs]
  rfl

section Samples

variable {c : Chan} {norm : Int} {missing : Bool} {s : State} {m : Measurement}

theorem zeroSample_other (h : ∀ m, s.zsc.meas = some m → m.chan ≠ c) : zeroSample c norm missing s = s := by
  unfold zeroSample
  cases hm : s.zsc.meas with
  | none => rfl
  | some m => exact if_pos (bne_iff_ne.mpr (h m hm))

theorem zeroSample_missing (hm : s.zsc.meas = some m) (hc : m.chan = c) :
    zeroSample c norm true s = { s with zsc := { s.zsc with pointer := c, meas := none } } := by
  have hne : ¬ (m.chan != c) = true := by simp [hc]
  rw [zeroSample, hm]
  dsimp only
  rw [if_neg hne, if_pos rfl, abandonZero_some hm, hc]

theorem zeroSample_counts (hm : s.zsc.meas = some m) (hc : m.chan = c) (hn : m.count + 1 < m.zeroN) :
    zeroSample c norm false s = { s with zsc := { s.zsc with meas := some (addZeroSample norm m) } } := by
  have hne : ¬ (m.chan != c) = true := by simp [hc]
  have hcount : ¬ (addZeroSample norm m).zeroN ≤ (addZeroSample norm m).count := not_le.mpr hn
  rw [zeroSample, hm]
  dsimp only
  rw [if_neg hne, if_neg Bool.false_ne_true, if_neg hcount]

theorem zeroSample_ends (hm : s.zsc.meas = some m) (hc : m.chan = c) (hn : m.zeroN ≤ m.count + 1) :
    zeroSample c norm false s = endMeasurement (addZeroSample norm m) s := by
  have hne : ¬ (m.chan != c) = true := by simp [hc]
  have hcount : (addZeroSample norm m).zeroN ≤ (addZeroSample norm m).count := hn
  rw [zeroSample, hm]
  dsimp only
  rw [if_neg hne, if_neg Bool.false_ne_true, if_pos hcount]

end Samples

/-- The state with the measurement ended and the channel's state as given, no longer requested (R42). -/
def zeroEnded (c : Chan) (z : ZeroChan) (s : State) : State :=
  { s with zsc := { chans := put s.zsc.chans c { z with requested := false }, pointer := Fin.ofNat 6 (c.val + 1), meas := none } }

theorem clearMeasurement_eq (m : Measurement) (s : State) : clearMeasurement m s = zeroEnded m.chan s.zsc.chans[m.chan] s := rfl

theorem changeZero_zeroEnded {c : Chan} {z y : ZeroChan} {f : ZeroChan → ZeroChan}
    (hf : f { z with requested := false } = { y with requested := false }) (s : State) :
    changeZero c f (zeroEnded c z s) = zeroEnded c y s := by
  simp only [changeZero, zeroEnded, change, put_getElem_self, put_put, hf]

theorem zeroEnded_chan (c : Chan) (z : ZeroChan) (s : State) : (zeroEnded c z s).zsc.chans[c] = { z with requested := false } :=
  put_getElem_self _ _ _

section Ends

variable {s : State} {m : Measurement}

theorem endMeasurement_spread (h : (m.spread : Int) < m.greatest - m.least) :
    endMeasurement m s = zeroEnded m.chan s.zsc.chans[m.chan] s := by
  have hs : Int.ofNat m.spread < zeroSpan m := h
  simp only [endMeasurement, if_pos hs, clearMeasurement_eq]

theorem endMeasurement_range (hs : m.greatest - m.least ≤ m.spread) (h : (m.range : Int) < |zeroMean m - m.baseRef|) :
    let run := min (s.zsc.chans[m.chan].rangeRun + 1) 255
    endMeasurement m s =
      giveGraded (rangeIx m.chan) (3 ≤ run) s.tbu.time (zeroEnded m.chan { s.zsc.chans[m.chan] with rangeRun := run } s) := by
  intro run
  have hs' : ¬ Int.ofNat m.spread < zeroSpan m := not_lt.mpr hs
  have h' : Int.ofNat m.range < |zeroMean m - m.baseRef| := h
  simp only [endMeasurement, if_neg hs', if_pos h', clearMeasurement_eq, rejectRange, zeroEnded_chan]
  rw [changeZero_zeroEnded (y := { s.zsc.chans[m.chan] with rangeRun := run }) rfl]
  rfl

theorem endMeasurement_accepted (hs : m.greatest - m.least ≤ m.spread) (h : |zeroMean m - m.baseRef| ≤ m.range) :
    let taken := { s.zsc.chans[m.chan] with baseline := zeroMean m, lastZero := some s.tbu.seconds, rangeRun := 0 }
    endMeasurement m s = if laneModeOf s (chanLane m.chan) == .closed then zeroEnded m.chan taken s
      else gradeChannel m.chan (zeroEnded m.chan taken s) := by
  intro taken
  have hs' : ¬ Int.ofNat m.spread < zeroSpan m := not_lt.mpr hs
  have h' : ¬ Int.ofNat m.range < |zeroMean m - m.baseRef| := not_lt.mpr h
  have hz : acceptZero m.chan (zeroMean m) (clearMeasurement m s) = if laneModeOf s (chanLane m.chan) == .closed then
      zeroEnded m.chan taken s else gradeChannel m.chan (zeroEnded m.chan taken s) := by
    have htaken : changeZero m.chan (fun z => { z with
        baseline := zeroMean m, lastZero := some (clearMeasurement m s).tbu.seconds, rangeRun := 0 }) (clearMeasurement m s) =
        zeroEnded m.chan taken s := changeZero_zeroEnded (z := s.zsc.chans[m.chan]) (y := taken) rfl s
    simp only [acceptZero, htaken]
    rfl
  simp only [endMeasurement, if_neg hs', if_neg h', hz]

end Ends

/-- A channel zeroed just now is graded fresh, with a clear notice where it was overdue (R37). -/
theorem gradeChannel_zeroed (c : Chan) {z : ZeroChan} {s : State} (hz : z.lastZero = some s.tbu.seconds)
    (hi : 0 < s.sst.live.zero.zeroInterval) (ho : 0 < s.sst.live.zero.zeroOverdue) :
    let e := if z.grade = .fresh then s.cmn.conds[overdueIx c] else clearedEntry s.tbu.time s.cmn.conds[overdueIx c]
    Places (changeReports (overdueIx c) e s) (withEntry (overdueIx c) e (zeroEnded c { z with due := false, grade := .fresh } s))
      (gradeChannel c (zeroEnded c z s)) := by
  intro e
  have hage : zeroAge (zeroEnded c z s) c = 0 := by
    rw [zeroAge, zeroEnded_chan, hz]
    show (s.tbu.seconds - s.tbu.seconds).toNat = 0
    simp
  have hdue : zeroDue (zeroEnded c z s) c = false := by
    have hlive : ¬ (zeroEnded c z s).sst.live.zero.zeroInterval ≤ 0 := not_le.mpr hi
    simp only [zeroDue, hage, zeroEnded_chan, hz, hlive, Option.isNone_some, decide_false, Bool.or_self]
  have hgrade : gradeOf (zeroEnded c z s) c = .fresh := by
    have hlive : ¬ (zeroEnded c z s).sst.live.zero.zeroOverdue ≤ 0 := not_le.mpr ho
    have htwice : ¬ 2 * (zeroEnded c z s).sst.live.zero.zeroOverdue ≤ 0 := by omega
    rw [gradeOf, hage, if_neg htwice, if_neg hlive]
  rw [gradeChannel, hdue, hgrade, zeroEnded_chan, changeZero_zeroEnded (y := { z with due := false, grade := .fresh }) rfl]
  dsimp only
  cases hg : z.grade with
  | fresh =>
    have he : e = s.cmn.conds[overdueIx c] := if_pos hg
    have hw := withEntry_self (overdueIx c) (zeroEnded c { z with due := false, grade := .fresh } s)
    have hr := changeReports_same (overdueIx c) s.cmn.conds[overdueIx c] s
    rw [withEntry_self] at hr
    rw [he, hr]
    exact hw.symm ▸ Places.refl _
  | overdue | failing =>
    have he : e = clearedEntry s.tbu.time s.cmn.conds[overdueIx c] := if_neg (by rw [hg]; decide)
    rw [he]
    exact giveClear_places (overdueIx c) (zeroEnded c { z with due := false, grade := .fresh } s)

end Sys2Proof.Machine

namespace Sys2Proof.Proofs

open Sys2Proof.Machine
open Sys2Proof.Safety

/-- SCAN_TICK on its occasion. -/
theorem scanTick_next {s : State} (h : s.tbu.scanDue = true) (hs : s.csq.slots = []) :
    exec .scanTick s = .next (settle (zeroScanTick (beginPass s))) := when'_due (scanTickDue_of h hs) s _

/-- Settles O11: the selection from the pointer on, and a measurement's end by its spread and its mean. -/
theorem scanTickBeginsPass : Obligations.ScanTickBeginsPass := by
  unfold Obligations.ScanTickBeginsPass
  refine ⟨fun s hdue hslots => ?_, fun c norm missing s => ⟨zeroSample_other, fun m hm hc => ?_⟩⟩
  · intro conv x everyTick quiet idle fits places chosen
    have hfits : ∀ c, qualifies (beginPass s) c = true ↔ fits c := fun c => by
      rw [qualifies_iff, laneIdle_iff]
      exact Iff.rfl
    refine ⟨_, scanTick_next hdue hslots, selectChannel (beginPass s), ⟨fun hnone => ?_, fun c hc hfirst => ?_⟩, ?_⟩
    · exact selectChannel_none fun c hq => hnone c ((hfits c).mp hq)
    · exact selectChannel_some ((hfits c).mpr hc) fun k hk => hfirst k ((hfits k).mp hk)
    · rw [zeroScanTick_eq]
      exact settle_formedFrom _
  · subst hc
    refine ⟨fun hmissing => ?_, fun hmissing hn => ?_, fun hmissing hn => ⟨fun hs => ?_, fun hs hr => ?_, fun hs hr => ⟨fun hl => ?_, fun hl hi ho => ?_⟩⟩⟩
    all_goals subst hmissing
    · exact zeroSample_missing hm rfl
    · exact zeroSample_counts hm rfl hn
    all_goals rw [zeroSample_ends hm rfl hn]
    · exact endMeasurement_spread (m := addZeroSample norm m) hs
    · rw [endMeasurement_range (m := addZeroSample norm m) hs hr]
      intro run e
      exact (giveGraded_places (rangeIx m.chan) (3 ≤ run) s.tbu.time
        (zeroEnded m.chan { s.zsc.chans[m.chan] with rangeRun := run } s)).toPlacedFrom
    · rw [endMeasurement_accepted (m := addZeroSample norm m) hs hr]
      exact if_pos (beq_iff_eq.mpr hl)
    · have hopen : ¬ (laneModeOf s (chanLane m.chan) == .closed) = true := fun h => hl (beq_iff_eq.mp h)
      let taken := { s.zsc.chans[m.chan] with
        baseline := zeroMean (addZeroSample norm m), lastZero := some s.tbu.seconds, rangeRun := 0 }
      have hend : endMeasurement (addZeroSample norm m) s = gradeChannel m.chan (zeroEnded m.chan taken s) :=
        (endMeasurement_accepted (m := addZeroSample norm m) hs hr).trans (if_neg hopen)
      rw [hend]
      exact (gradeChannel_zeroed m.chan (z := taken) rfl hi ho).toPlacedFrom

end Sys2Proof.Proofs
end

section
/-! SUPPORT. Proofs about the close of a record (R116, R117) with TABLE_FULL's clear notices (R112), and about timers that change one entry:
cancelled candidates (R46), stuck loops (R48), camera pulses (R107) and overstays (R140). -/

namespace Sys2Proof.Machine

open Sys2Proof.Safety

/-- What reports and outputs do not touch is the same after the placing. -/
theorem Places.same {rs : List Report} {x t : State} (h : Places rs x t) {α : Type} (f : State → α)
    (hf : ∀ u, f (sansLink (sansOutputs u)) = f u) : f t = f x := by rw [← hf t, h.rest, hf]

theorem Places.rtb {rs : List Report} {x t : State} (h : Places rs x t) : t.rtb = x.rtb := h.same State.rtb fun _ => rfl

theorem Places.las {rs : List Report} {x t : State} (h : Places rs x t) : t.las = x.las := h.same State.las fun _ => rfl

/-! ### TABLE_FULL's clear notices (R112, R154) -/

/-- Lane l's TABLE_FULL entry after a change of the number of FREE slots. -/
def fullEntry (s : State) (l : Lane) : CondEntry :=
  if 4 ≤ freeSlots s ∧ l.val < s.sst.live.site.laneCount ∧ s.cmn.conds[tableFullIx l].st = .fault
  then clearedEntry s.tbu.time s.cmn.conds[tableFullIx l] else s.cmn.conds[tableFullIx l]

/-- The state with the TABLE_FULL entries of lanes as they are after a change of the number of FREE slots. -/
def withFullEntries (s : State) (ls : List Lane) (x : State) : State :=
  ls.foldl (fun u l => withEntry (tableFullIx l) (fullEntry s l) u) x

/-- The reports of those changes. -/
def fullReports (s : State) (ls : List Lane) : List Report := ls.flatMap fun l => changeReports (tableFullIx l) (fullEntry s l) s

/-- The clear notice of one lane. -/
def freeLane (s u : State) (l : Lane) : State :=
  if 4 ≤ freeSlots s ∧ l.val < s.sst.live.site.laneCount then
    if inFault u (tableFullIx l) then giveClear (tableFullIx l) u else u
  else u

theorem freeNotice_eq (s : State) : freeNotice s = allLanes.foldl (freeLane s) s := by
  by_cases h : Config.tableFullClear ≤ freeSlots s
  · rw [freeNotice, if_pos h, List.foldl_filter]
    have h4 : 4 ≤ freeSlots s := h
    have hlane : freeLane s = fun u l => if l.val < s.sst.live.site.laneCount then
        if inFault u (tableFullIx l) then giveClear (tableFullIx l) u else u else u := by
      funext u l
      simp only [freeLane, h4, true_and]
    simp only [hlane, lanePresent, decide_eq_true_iff]
  · have hlane : ∀ u l, freeLane s u l = u := fun u l => if_neg fun hc => h hc.1
    rw [freeNotice, if_neg h]
    simp only [allLanes, List.foldl_cons, List.foldl_nil, hlane]

theorem tableFullIx_inj : ∀ {k l : Lane}, tableFullIx k = tableFullIx l → k = l := by decide

/-- An entry that stands as it is gives no report and is no change. -/
theorem places_sameEntry (ix : CondIx) (x : State) :
    Places (changeReports ix x.cmn.conds[ix] x) (withEntry ix x.cmn.conds[ix] x) x := by
  have hw := withEntry_self ix x
  have hr := changeReports_same ix x.cmn.conds[ix] x
  rw [hw] at hr
  rw [hr, hw]
  exact .refl x

/-- One lane's notice, where the state has the entry that the notice is judged by. -/
theorem Places.freedLane {rs : List Report} {x t : State} (h : Places rs x t) {s : State} {l : Lane}
    (hmask : x.cmn.mask = s.cmn.mask) (htime : x.tbu = s.tbu) (hcond : x.cmn.conds[tableFullIx l] = s.cmn.conds[tableFullIx l]) :
    Places (rs ++ changeReports (tableFullIx l) (fullEntry s l) s) (withEntry (tableFullIx l) (fullEntry s l) x) (freeLane s t l) := by
  have hreport : ∀ e, changeReports (tableFullIx l) e s = changeReports (tableFullIx l) e x := fun e => by
    rw [changeReports, changeReports, hcond, maskOf, maskOf, hmask, State.now, State.now, htime]
  have hfault : inFault t (tableFullIx l) = true ↔ s.cmn.conds[tableFullIx l].st = .fault := by
    rw [inFault, h.conds, hcond, beq_iff_eq]
  rw [hreport]
  have hstay : fullEntry s l = x.cmn.conds[tableFullIx l] → freeLane s t l = t →
      Places (rs ++ changeReports (tableFullIx l) (fullEntry s l) x) (withEntry (tableFullIx l) (fullEntry s l) x) (freeLane s t l) :=
    fun he ht => by
      rw [he, ht]
      refine h.thenEntry ?_
      rw [← h.conds]
      exact places_sameEntry _ t
  by_cases hfree : 4 ≤ freeSlots s ∧ l.val < s.sst.live.site.laneCount
  · by_cases hst : s.cmn.conds[tableFullIx l].st = .fault
    · have he : fullEntry s l = clearedEntry x.tbu.time x.cmn.conds[tableFullIx l] := by
        rw [fullEntry, if_pos ⟨hfree.1, hfree.2, hst⟩, htime, hcond]
      rw [he, freeLane, if_pos hfree, if_pos (hfault.mpr hst)]
      exact h.cleared _
    · refine hstay ?_ ?_
      · rw [fullEntry, if_neg (fun hc => hst hc.2.2), hcond]
      · rw [freeLane, if_pos hfree, if_neg (fun hc => hst (hfault.mp hc))]
  · refine hstay ?_ ?_
    · rw [fullEntry, if_neg (fun hc => hfree ⟨hc.1, hc.2.1⟩), hcond]
    · rw [freeLane, if_neg hfree]

theorem Places.freedLanes {s : State} {ls : List Lane} (hn : ls.Nodup) {rs : List Report} {x t : State} (h : Places rs x t)
    (hmask : x.cmn.mask = s.cmn.mask) (htime : x.tbu = s.tbu)
    (hcond : ∀ l ∈ ls, x.cmn.conds[tableFullIx l] = s.cmn.conds[tableFullIx l]) :
    Places (rs ++ fullReports s ls) (withFullEntries s ls x) (ls.foldl (freeLane s) t) := by
  induction ls generalizing rs x t with
  | nil => simpa [fullReports, withFullEntries] using h
  | cons l ls ih =>
    obtain ⟨hl, hls⟩ := List.nodup_cons.mp hn
    have hone := h.freedLane hmask htime (hcond l List.mem_cons_self)
    have hrest := ih hls hone hmask htime fun k hk => by
      have hne : tableFullIx k ≠ tableFullIx l := fun he => hl (tableFullIx_inj he ▸ hk)
      exact (withEntry_conds_other hne _ _).trans (hcond k (List.mem_cons_of_mem _ hk))
    rw [List.append_assoc] at hrest
    exact hrest

theorem allLanes_nodup : allLanes.Nodup := by decide

/-- What TABLE_FULL's clear notices leave of the condition table. -/
theorem withFullEntries_conds (s : State) :
    (∀ l, (withFullEntries s allLanes s).cmn.conds[tableFullIx l] = fullEntry s l) ∧
    (∀ ix : CondIx, (∀ l, ix ≠ tableFullIx l) → (withFullEntries s allLanes s).cmn.conds[ix] = s.cmn.conds[ix]) := by
  have hother : ∀ k l : Lane, k ≠ l → tableFullIx k ≠ tableFullIx l := fun k l h he => h (tableFullIx_inj he)
  simp only [withFullEntries, allLanes, List.foldl_cons, List.foldl_nil]
  refine ⟨fun l => ?_, fun ix h => ?_⟩
  · match l with
    | 0 => rw [withEntry_conds_other (hother 0 2 (by decide)), withEntry_conds_other (hother 0 1 (by decide)), withEntry_conds_self]
    | 1 => rw [withEntry_conds_other (hother 1 2 (by decide)), withEntry_conds_self]
    | 2 => rw [withEntry_conds_self]
  · rw [withEntry_conds_other (h 2), withEntry_conds_other (h 1), withEntry_conds_other (h 0)]

/-! ### The close of a record (R116, R117) -/

/-- The state with a record closed, before the notices that this brings. -/
def withoutRecord (id : Nat) (x : Summary) (s : State) : State := { s with
  rtb := { s.rtb with
    pool := s.rtb.pool.filter (·.id != id)
    approach := mapVec (fun ids => ids.filter (· != id)) s.rtb.approach
    history := insertHistory x s.rtb.history }
  las := mapVec (fun a => { a with pendingList := a.pendingList.filter (·.id != id) }) s.las }

/-- The state with a record out of its lists and its summary in the history ring, and the pool without a record. -/
def withSummary (id : Nat) (x : Summary) (s : State) : State :=
  { leavePending id (leaveApproach id s) with rtb.history := insertHistory x s.rtb.history }

def freeSlot (id : Nat) (s : State) : State := { s with rtb.pool := s.rtb.pool.filter (·.id != id) }

theorem closeRecord_eq {id : Nat} {d : Disposition} {r : VRecord} {s : State} (h : findRec s id = some r) :
    let x := summaryOf r d s.tbu.time
    closeRecord id d s = freeNotice (freeSlot id (placeReport (dispositionReport x) (withSummary id x s))) := by
  intro x
  rw [closeRecord, h]
  rfl

theorem closeRecord_none {id : Nat} {s : State} (h : findRec s id = none) (d : Disposition) : closeRecord id d s = s := by
  rw [closeRecord, h]

theorem closeRecord_places {id : Nat} {d : Disposition} {r : VRecord} {s : State} (h : findRec s id = some r) :
    let x := summaryOf r d s.tbu.time
    let u := withoutRecord id x s
    Places (dispositionReport x :: fullReports u allLanes) (withFullEntries u allLanes u) (closeRecord id d s) := by
  intro x u
  have hplace : Places [dispositionReport x] u (freeSlot id (placeReport (dispositionReport x) (withSummary id x s))) :=
    (placeReport_places (dispositionReport x) (withSummary id x s)).map (freeSlot id) (fun _ => rfl) (fun _ => rfl) fun _ => rfl
  rw [closeRecord_eq h, freeNotice_eq]
  generalize freeSlot id (placeReport (dispositionReport x) (withSummary id x s)) = t at hplace ⊢
  have hlane : freeLane t = freeLane u := by
    have hslots : freeSlots t = freeSlots u := by rw [freeSlots, hplace.rtb, freeSlots]
    funext v l
    rw [freeLane, hslots, hplace.live, freeLane]
  rw [hlane]
  exact hplace.freedLanes (s := u) allLanes_nodup rfl rfl fun _ _ => rfl

/-! ### The history ring (R117) -/

theorem mem_insertById {x y : Summary} {ring : List Summary} : y ∈ insertById x ring ↔ y = x ∨ y ∈ ring := by
  induction ring with
  | nil => simp [insertById]
  | cons z zs ih =>
    unfold insertById
    split
    · exact List.mem_cons
    · rw [List.mem_cons, ih, List.mem_cons]
      exact or_left_comm

theorem length_insertById (x : Summary) (ring : List Summary) : (insertById x ring).length = ring.length + 1 := by
  induction ring with
  | nil => rfl
  | cons z zs ih =>
    unfold insertById
    split
    · rfl
    · rw [List.length_cons, ih, List.length_cons]

/-- A new id finds its place in a ring of strictly ascending ids. -/
theorem insertById_pairwise {x : Summary} {ring : List Summary} (h : ring.Pairwise fun a b => a.id < b.id) (hx : ∀ y ∈ ring, y.id ≠ x.id) :
    (insertById x ring).Pairwise fun a b => a.id < b.id := by
  induction ring with
  | nil => exact List.pairwise_singleton _ _
  | cons z zs ih =>
    obtain ⟨hz, hzs⟩ := List.pairwise_cons.mp h
    unfold insertById
    split
    next hlt =>
      refine List.pairwise_cons.mpr ⟨fun y hy => ?_, h⟩
      rcases List.mem_cons.mp hy with rfl | hy
      · exact hlt
      · exact hlt.trans (hz y hy)
    next hge =>
      have hne : z.id ≠ x.id := hx z List.mem_cons_self
      refine List.pairwise_cons.mpr ⟨fun y hy => ?_, ih hzs fun y hy => hx y (List.mem_cons_of_mem _ hy)⟩
      rcases mem_insertById.mp hy with rfl | hy
      · omega
      · exact hz y hy

theorem keepNewest_of_le {α : Type} {n : Nat} {xs : List α} (h : xs.length ≤ n) : keepNewest n xs = xs := by
  rw [keepNewest, Nat.sub_eq_zero_of_le h, List.drop_zero]

theorem keepNewest_cons {α : Type} {n : Nat} (x : α) {xs : List α} (h : xs.length = n) : keepNewest n (x :: xs) = xs := by
  rw [keepNewest, List.length_cons, h, Nat.add_sub_cancel_left, List.drop_one, List.tail_cons]

theorem insertHistory_pairwise {x : Summary} {ring : List Summary} (h : ring.Pairwise fun a b => a.id < b.id)
    (hx : ∀ y ∈ ring, y.id ≠ x.id) : (insertHistory x ring).Pairwise fun a b => a.id < b.id :=
  (insertById_pairwise h hx).sublist (List.drop_sublist _ _)

/-- A ring with room takes the summary and loses none. -/
theorem insertHistory_room (x : Summary) {ring : List Summary} (h : ring.length < 64) : insertHistory x ring = insertById x ring :=
  keepNewest_of_le (by rw [length_insertById]; exact h)

/-- Into a full ring whose ids are all greater the summary does not come. -/
theorem insertHistory_lowest {x : Summary} {ring : List Summary} (h : ring.length = 64) (hlow : ∀ y ∈ ring, x.id < y.id) :
    insertHistory x ring = ring := by
  obtain ⟨y, ys, rfl⟩ := List.exists_cons_of_length_pos (by omega : 0 < ring.length)
  have hins : insertById x (y :: ys) = x :: y :: ys := if_pos (hlow y List.mem_cons_self)
  rw [insertHistory, hins]
  exact keepNewest_cons x h

/-- Into a full ring a greater id comes in the place of the lowest. -/
theorem insertHistory_full {x low : Summary} {others : List Summary} (h : (low :: others).length = 64) (hlt : low.id < x.id) :
    insertHistory x (low :: others) = insertById x others := by
  have hins : insertById x (low :: others) = low :: insertById x others := if_neg (not_lt.mpr hlt.le)
  rw [insertHistory, hins]
  refine keepNewest_cons low ?_
  rw [length_insertById]
  exact h

end Sys2Proof.Machine

namespace Sys2Proof.Proofs

open Sys2Proof.Machine
open Sys2Proof.Safety

/-- Settles O28: the close with its notices, and the ring by the place of the new id. -/
theorem recordCloses : Obligations.RecordCloses := by
  unfold Obligations.RecordCloses
  refine ⟨fun id d r s hfind => ?_, fun x ring hlen hsorted hnew => ⟨insertHistory_pairwise hsorted hnew, fun hroom => ?_,
    insertHistory_lowest, fun low others hfull hring hlow => ?_⟩⟩
  · intro t x
    have hclose : Places (dispositionReport x :: fullReports (withoutRecord id x s) allLanes)
        (withFullEntries (withoutRecord id x s) allLanes (withoutRecord id x s)) t := closeRecord_places hfind
    obtain ⟨hfull, hothers⟩ := withFullEntries_conds (withoutRecord id x s)
    have hrtb : t.rtb = (withoutRecord id x s).rtb := hclose.rtb
    have hlas : t.las = (withoutRecord id x s).las := hclose.las
    have hpool : t.rtb.pool = s.rtb.pool.filter (·.id != id) := by rw [hrtb]; rfl
    refine ⟨hpool, fun l => ?_, fun l => ?_, by rw [hrtb]; rfl, closeRecord_dkc id d s, by rw [hrtb]; rfl, fun l => ?_, fun ix hix => ?_, ?_⟩
    · rw [hrtb]
      exact mapVec_getElem _ _ _
    · rw [hlas]
      exact mapVec_getElem _ _ _
    · rw [hclose.conds, hfull, hpool]
      rfl
    · rw [hclose.conds, hothers ix hix]
      rfl
    · rw [hpool]
      exact hclose.reports
  · rw [insertHistory_room x hroom]
    exact ⟨length_insertById x ring, fun y => mem_insertById⟩
  · subst hring
    rw [insertHistory_full hfull hlow]
    exact ⟨(length_insertById x others).trans hfull, fun y => mem_insertById⟩

/-- Settles O18, each command on its occasion. -/
theorem cancelAndStuckAlert : Obligations.CancelAndStuckAlert := by
  unfold Obligations.CancelAndStuckAlert
  refine ⟨fun i c s huse hcand hlevel hstable => ?_, fun l s huse hlevel hnone hstuck => ?_⟩
  · have hraw : (rawLevel s i == s.liu.deb[i].level) = true := beq_iff_eq.mpr hlevel
    have hdue : cancelDue i s = true := by
      have hpassed : stableDue i s = true := (passed_iff _ _ _).mpr hstable
      rw [cancelDue, huse, hcand, hraw, hpassed]
      rfl
    exact ⟨_, when'_due hdue s _, settle_formedFrom _⟩
  · have hdue : stuckAlertDue l s = true := by
      rw [stuckAlertDue, hnone, occupiedFor, huse, hlevel, beq_self_eq_true, Bool.true_and, Bool.true_and, Bool.true_and, passed_iff,
        Nat.one_mul]
      exact hstuck
    exact when'_placed hdue s (giveCause_placed (loopStuckIx l) s.tbu.time (changeLoop l (fun x => { x with stuck := .alerted }) s))

/-- Settles O20: the marks of all entries, and the cause of the head where it is new. -/
theorem laneTimersEnd : Obligations.LaneTimersEnd := by
  unfold Obligations.LaneTimersEnd
  refine ⟨fun l finish s hreached hcamera => ?_, fun l e es s hlist => ?_⟩
  · have hdue : cameraEndDue l s = true := by
      rw [cameraEndDue, hcamera, Option.any_some, reached, State.now, hreached]
      rfl
    exact ⟨_, when'_due hdue s _, settle_formedFrom _⟩
  · intro old hold lists ce
    have hover : overstays s = old := rfl
    have hdue : overstayDue l s = true := by
      obtain ⟨x, hx, hfresh, holdx⟩ := hold
      rw [overstayDue, hlist, List.any_eq_true]
      refine ⟨x, hx, ?_⟩
      rw [hfresh, hover, holdx]
      rfl
    have hlatch : latchOverstay l s = if (!s.dkc.overstayGiven[l] && old e) = true then
        giveCause (overstayIx l) s.tbu.time { s with dkc := { s.dkc with lists := lists, overstayGiven := put s.dkc.overstayGiven l true } }
        else { s with dkc := { s.dkc with lists := lists } } := by
      rw [latchOverstay, hlist]
      rfl
    refine ⟨_, when'_due hdue s _, fun hhead hgiven => ?_, fun hstays => ?_⟩
    · have hgives : (!s.dkc.overstayGiven[l] && old e) = true := by simp [hgiven, hhead]
      rw [hlatch, if_pos hgives]
      exact placed_settled (giveCause_placed (overstayIx l) s.tbu.time
        { s with dkc := { s.dkc with lists := lists, overstayGiven := put s.dkc.overstayGiven l true } })
    · have hnot : ¬ (!s.dkc.overstayGiven[l] && old e) = true := by
        rcases hstays with h | h <;> simp [h]
      rw [hlatch, if_neg hnot]
      exact settle_formedFrom _

end Sys2Proof.Proofs
end

section
/-! SUPPORT. Proofs about the arbiter of the Deck Controller: the grants to the head (R133), what it changes, when it rests, and the review
that follows a change of the account (R134, R142, R144). -/

namespace Sys2Proof.Machine

open Sys2Proof.Safety

/-! ### The tests of R133 -/

/-- A latched time test on the last grant time: with no grant yet it passes (R133, R8). -/
theorem sinceGrant_iff (s : State) (latched : LastGrant → Bool) (d : Nat) :
    (s.dkc.lastGrant.all fun g => latched g || passed s.now g.time (secs d)) = true ↔
      ∀ g, s.dkc.lastGrant = some g → latched g = true ∨ d * 100000 ≤ (s.tbu.time - g.time).toNat := by
  cases h : s.dkc.lastGrant with
  | none => simp
  | some g =>
    simp only [Option.all_some, Bool.or_eq_true, passed_iff, Option.some.injEq, forall_eq']
    exact Iff.rfl

theorem mayGrant_iff (u : Nat) (s : State) : mayGrant u s = true ↔
    (s.dkc.st = .openDeck ∨ (s.dkc.st = .blind ∧ s.dkc.overload = false ∧ blindPassed s = true)) ∧
    s.dkc.committed + s.dkc.onDeck + u ≤ s.sst.live.deck.budget ∧ s.dkc.grantTimes.length < s.sst.live.deck.winMax ∧
    headwayPassed s = true := by
  simp only [mayGrant, stateGrants, Bool.and_eq_true, Bool.or_eq_true, beq_iff_eq, Bool.not_eq_true', decide_eq_true_iff, and_assoc]

theorem mayGrant_of_stateGrants {u : Nat} {s : State} (h : stateGrants s = false) : mayGrant u s = false := by
  rw [mayGrant, h]
  rfl

/-! ### The examination of the head -/

theorem headUpper_empty {s : State} (h : s.dkc.queue = []) : headUpper s = none := by
  rw [headUpper, h]
  rfl

theorem headUpper_head {s : State} {id u : Nat} {others : List Nat} {r : VRecord} (hq : s.dkc.queue = id :: others)
    (hr : findRec s id = some r) (hu : r.upper = some u) : headUpper s = some (id, u) := by
  rw [headUpper, hq, List.head?_cons, Option.bind_some, hr, Option.bind_some, hu]
  rfl

theorem arbitrateUpTo_none {s : State} (h : headUpper s = none) (n : Nat) : arbitrateUpTo n s = s := by
  cases n with
  | zero => rfl
  | succ n => rw [arbitrateUpTo, h]

theorem arbitrateUpTo_waits {s : State} {id u : Nat} (h : headUpper s = some (id, u)) (hm : mayGrant u s = false) (n : Nat) :
    arbitrateUpTo n s = s := by
  cases n with
  | zero => rfl
  | succ n =>
    rw [arbitrateUpTo, h]
    simp only [hm, Bool.false_eq_true, if_false]

theorem arbitrateUpTo_grants {s : State} {id u : Nat} (h : headUpper s = some (id, u)) (hm : mayGrant u s = true) (n : Nat) :
    arbitrateUpTo (n + 1) s = arbitrateUpTo n (grantHead id u s) := by
  rw [arbitrateUpTo, h]
  simp only [hm, if_true]

/-- The arbiter has no head that it may grant. -/
def HeadRests (s : State) : Prop := ∀ id u, headUpper s = some (id, u) → mayGrant u s = false

theorem HeadRests.of_state {s : State} (h : stateGrants s = false) : HeadRests s := fun _ _ _ => mayGrant_of_stateGrants h

theorem arbitrateUpTo_rests {s : State} (h : HeadRests s) (n : Nat) : arbitrateUpTo n s = s := by
  cases hh : headUpper s with
  | none => exact arbitrateUpTo_none hh n
  | some p => exact arbitrateUpTo_waits hh (h p.1 p.2 hh) n

theorem arbitrate_rests {s : State} (h : HeadRests s) : arbitrate s = s := arbitrateUpTo_rests h _

/-- In a state that gives no grants the examination changes nothing. -/
theorem arbitrate_of_state {s : State} (h : stateGrants s = false) : arbitrate s = s := arbitrate_rests (.of_state h)

theorem headRests_arbitrateUpTo {n : Nat} {s : State} (h : s.dkc.queue.length ≤ n) : HeadRests (arbitrateUpTo n s) := by
  induction n generalizing s with
  | zero =>
    intro id u hh
    rw [arbitrateUpTo, headUpper_empty (List.eq_nil_of_length_eq_zero (Nat.le_zero.mp h))] at hh
    exact absurd hh (by simp)
  | succ n ih =>
    cases hh : headUpper s with
    | none =>
      rw [arbitrateUpTo_none hh]
      intro id u hs
      exact absurd (hh.symm.trans hs) (by simp)
    | some p =>
      cases hm : mayGrant p.2 s with
      | false =>
        rw [arbitrateUpTo_waits hh hm]
        intro id u hs
        obtain rfl : p = (id, u) := Option.some.inj (hh.symm.trans hs)
        exact hm
      | true =>
        rw [arbitrateUpTo_grants hh hm]
        have hlen : (grantHead p.1 p.2 s).dkc.queue.length = s.dkc.queue.length - 1 := List.length_tail
        exact ih (by rw [hlen]; omega)

/-- After the arbiter's examination no head that may be granted is left waiting (R134). -/
theorem headRests_arbitrate (s : State) : HeadRests (arbitrate s) := headRests_arbitrateUpTo le_rfl

/-- What grants change: the queue and the grants with their times, the committed load, the counter and the admissions of records. -/
def Granting (s t : State) : Prop := t = { s with
  rtb := { s.rtb with pool := t.rtb.pool }
  dkc := { s.dkc with queue := t.dkc.queue, grants := t.dkc.grants, grantTimes := t.dkc.grantTimes, lastGrant := t.dkc.lastGrant,
                      committed := t.dkc.committed }
  cmn := { s.cmn with grants := t.cmn.grants } }

theorem Granting.refl (s : State) : Granting s s := rfl

theorem Granting.trans {s t u : State} (h : Granting s t) (k : Granting t u) : Granting s u := by
  have hk : u = _ := k
  have hh : t = _ := h
  rw [Granting]
  rw [hh] at hk
  exact hk

theorem arbitrateUpTo_granting (n : Nat) (s : State) : Granting s (arbitrateUpTo n s) := by
  induction n generalizing s with
  | zero => exact .refl s
  | succ n ih =>
    rw [arbitrateUpTo]
    split
    · split
      · exact Granting.trans (t := grantHead _ _ s) rfl (ih _)
      · exact .refl s
    · exact .refl s

theorem arbitrate_granting (s : State) : Granting s (arbitrate s) := arbitrateUpTo_granting _ s

namespace Granting

variable {s t : State} (h : Granting s t)

include h

theorem st : t.dkc.st = s.dkc.st := (congrArg (fun u : State => u.dkc.st) h :)
theorem lists : t.dkc.lists = s.dkc.lists := (congrArg (fun u : State => u.dkc.lists) h :)
theorem onDeck : t.dkc.onDeck = s.dkc.onDeck := (congrArg (fun u : State => u.dkc.onDeck) h :)
theorem overstayGiven : t.dkc.overstayGiven = s.dkc.overstayGiven := (congrArg (fun u : State => u.dkc.overstayGiven) h :)
theorem timer : t.dkc.timer = s.dkc.timer := (congrArg (fun u : State => u.dkc.timer) h :)
theorem blind : t.dkc.blind = s.dkc.blind := (congrArg (fun u : State => u.dkc.blind) h :)
theorem resyncOwed : t.dkc.resyncOwed = s.dkc.resyncOwed := (congrArg (fun u : State => u.dkc.resyncOwed) h :)
theorem lki : t.lki = s.lki := (congrArg State.lki h :)
theorem tbu : t.tbu = s.tbu := (congrArg State.tbu h :)
theorem conds : t.cmn.conds = s.cmn.conds := (congrArg (fun u : State => u.cmn.conds) h :)

end Granting

/-- What reports and outputs do not touch is the same after a command. -/
theorem reported_same {rs : List Report} {x t : State} (h : ReportedFrom rs x t) {α : Type} (f : State → α)
    (hf : ∀ u, f (sansLink (sansOutputs u)) = f u) : f t = f x := by rw [← hf t, h.rest, hf]

/-! ### Overload (R142) -/

/-- The overload condition as the lists and the load now make it (R142). -/
def loadedNow (s : State) : Bool := decide (latchOf s = true ∨ s.sst.live.deck.budget < s.dkc.onDeck)

theorem formOverload_eq (s : State) :
    formOverload s = { s with dkc := { s.dkc with listFull := latchOf s, overload := loadedNow s } } := by
  have hloaded : (decide (s.sst.live.deck.budget < s.dkc.onDeck) || latchOf s) = loadedNow s := by
    rw [loadedNow, Bool.eq_iff_iff, Bool.or_eq_true, decide_eq_true_iff, decide_eq_true_iff]
    exact or_comm
  rw [← hloaded]
  rfl

theorem formOverload_overload (s : State) : (formOverload s).dkc.overload = loadedNow s := by rw [formOverload_eq]

theorem noncompliantOnDeck_iff (s : State) :
    noncompliantOnDeck s = true ↔ ∃ l : Lane, ∃ e ∈ s.dkc.lists[l], e.noncompliant = true := by
  rw [noncompliantOnDeck, toList_three]
  simp only [List.any_cons, List.any_nil, Bool.or_false, Bool.or_eq_true, List.any_eq_true]
  constructor
  · rintro (h | h | h)
    exacts [⟨0, h⟩, ⟨1, h⟩, ⟨2, h⟩]
  · rintro ⟨l, h⟩
    match l with
    | 0 => exact .inl h
    | 1 => exact .inr (.inl h)
    | 2 => exact .inr (.inr h)

/-! ### Changes of deck state (R148) -/

/-- The deck in a state, after the arbiter's examination there. -/
def deckAs (new : DeckSt) (s : State) : State := arbitrate { s with dkc := { s.dkc with st := new } }

theorem changeDeck_eq (new : DeckSt) (cause : DeckCause) (s : State) :
    changeDeck new cause s = placeReport (deckReport (some s.dkc.st) cause (deckAs new s)) (deckAs new s) := rfl

theorem changeDeck_places (new : DeckSt) (cause : DeckCause) (s : State) :
    Places [deckReport (some s.dkc.st) cause (deckAs new s)] (deckAs new s) (changeDeck new cause s) := placeReport_places _ _

theorem deckAs_granting (new : DeckSt) (s : State) : Granting { s with dkc := { s.dkc with st := new } } (deckAs new s) :=
  arbitrate_granting _

/-- In a state without grants the arbiter changes nothing. -/
theorem deckAs_eq {new : DeckSt} (h : new ≠ .openDeck) (hb : new ≠ .blind) (s : State) :
    deckAs new s = { s with dkc := { s.dkc with st := new } } := by
  refine arbitrate_of_state ?_
  rw [stateGrants, beq_eq_false_iff_ne.mpr h, beq_eq_false_iff_ne.mpr hb]
  rfl

/-! ### The review of the deck (R134, R142, R144, R145) -/

section Review

variable {s : State}

theorem deckReview_open (h : s.dkc.st = .openDeck) : deckReview s =
    if loadedNow s then changeDeck .overloaded .overload (formOverload s) else arbitrate (formOverload s) := by
  have hst : (formOverload s).dkc.st = .openDeck := h
  rw [deckReview, ← formOverload_overload]
  rw [hst]

theorem deckReview_overloaded (h : s.dkc.st = .overloaded) : deckReview s =
    if loadedNow s then formOverload s else changeDeck .openDeck .overloadEnd (formOverload s) := by
  have hst : (formOverload s).dkc.st = .overloaded := h
  rw [deckReview, ← formOverload_overload]
  rw [hst]

theorem deckReview_isolated (h : s.dkc.st = .isolated) : deckReview s =
    if noncompliantOnDeck s then formOverload s else endIsolation (formOverload s) := by
  have hst : (formOverload s).dkc.st = .isolated := h
  rw [deckReview]
  rw [hst]
  rfl

theorem deckReview_blind (h : s.dkc.st = .blind) : deckReview s = arbitrate (formOverload s) := by
  have hst : (formOverload s).dkc.st = .blind := h
  rw [deckReview]
  rw [hst]

theorem deckReview_stays (h : s.dkc.st = .resync ∨ s.dkc.st = .resting ∨ s.dkc.st = .closed) : deckReview s = formOverload s := by
  rw [deckReview]
  rcases h with h | h | h
  all_goals
    have hst : (formOverload s).dkc.st = _ := h
    rw [hst]

end Review

/-! ### No head is left waiting (R134) -/

/-- What the examination reads is what reports and outputs do not touch. -/
theorem headRests_congr {s t : State} (h : sansLink (sansOutputs t) = sansLink (sansOutputs s)) (hs : HeadRests s) : HeadRests t := by
  intro id u hh
  have hhead : headUpper t = headUpper s := by
    have hl : headUpper (sansLink (sansOutputs t)) = headUpper t := rfl
    rw [← hl, h]
    rfl
  have hgrant : mayGrant u t = mayGrant u s := by
    have hl : mayGrant u (sansLink (sansOutputs t)) = mayGrant u t := rfl
    rw [← hl, h]
    rfl
  rw [hgrant]
  exact hs id u (hhead.symm.trans hh)

theorem headRests_changeDeck (new : DeckSt) (cause : DeckCause) (s : State) : HeadRests (changeDeck new cause s) :=
  headRests_congr (changeDeck_places new cause s).rest (headRests_arbitrate _)

theorem headRests_endResting (s : State) : HeadRests (endResting s) := by
  rw [endResting]
  dsimp only
  split
  · exact headRests_changeDeck _ _ _
  · split
    · exact headRests_changeDeck _ _ _
    · split
      · exact headRests_changeDeck _ _ _
      · exact headRests_changeDeck _ _ _

theorem headRests_endIsolation (s : State) : HeadRests (endIsolation s) := by
  rw [endIsolation]
  dsimp only
  split
  · exact headRests_endResting _
  · exact headRests_changeDeck _ _ _

theorem stateGrants_of_st {s : State} {st : DeckSt} (h : s.dkc.st = st) (ho : st ≠ .openDeck) (hb : st ≠ .blind) : stateGrants s = false := by
  rw [stateGrants, h, beq_eq_false_iff_ne.mpr ho, beq_eq_false_iff_ne.mpr hb]
  rfl

theorem headRests_formOverload {s : State} {st : DeckSt} (h : s.dkc.st = st) (ho : st ≠ .openDeck) (hb : st ≠ .blind) :
    HeadRests (formOverload s) := .of_state (stateGrants_of_st (s := formOverload s) h ho hb)

theorem headRests_deckReview (s : State) : HeadRests (deckReview s) := by
  cases h : s.dkc.st with
  | openDeck =>
    rw [deckReview_open h]
    split
    · exact headRests_changeDeck _ _ _
    · exact headRests_arbitrate _
  | overloaded =>
    rw [deckReview_overloaded h]
    split
    · exact headRests_formOverload h (by decide) (by decide)
    · exact headRests_changeDeck _ _ _
  | isolated =>
    rw [deckReview_isolated h]
    split
    · exact headRests_formOverload h (by decide) (by decide)
    · exact headRests_endIsolation _
  | blind =>
    rw [deckReview_blind h]
    exact headRests_arbitrate _
  | resync =>
    rw [deckReview_stays (.inl h)]
    exact headRests_formOverload h (by decide) (by decide)
  | resting =>
    rw [deckReview_stays (.inr (.inl h))]
    exact headRests_formOverload h (by decide) (by decide)
  | closed =>
    rw [deckReview_stays (.inr (.inr h))]
    exact headRests_formOverload h (by decide) (by decide)

end Sys2Proof.Machine

namespace Sys2Proof.Proofs

open Sys2Proof.Machine
open Sys2Proof.Safety

/-- Settles O35: the tests in their own terms, and the examination of the new head after a grant. -/
theorem grantToHead : Obligations.GrantToHead := by
  unfold Obligations.GrantToHead
  refine ⟨fun id u others r s hqueue hrec hupper => ?_, fun s hqueue => ?_⟩
  · intro deck since allowed granted
    have hhead := headUpper_head hqueue hrec hupper
    have hgrant : grantHead id u s = granted := by
      have htail : s.dkc.queue.tail = others := by rw [hqueue]; rfl
      rw [grantHead, htail]
      rfl
    have hlen : s.dkc.queue.length = others.length + 1 := by rw [hqueue]; rfl
    have hallowed : mayGrant u s = true ↔ allowed := by
      rw [mayGrant_iff, blindPassed, headwayPassed, sinceGrant_iff s (·.blindOk), sinceGrant_iff s (·.headwayOk)]
    refine ⟨fun h => ?_, fun h => ?_⟩
    · rw [arbitrate, hlen, arbitrateUpTo_grants hhead (hallowed.mpr h), hgrant]
      split
      next hnone => rw [hnone]; rfl
      next => rfl
    · exact arbitrateUpTo_waits hhead (Bool.eq_false_iff.mpr fun hm => h (hallowed.mp hm)) _
  · exact arbitrateUpTo_none (headUpper_empty hqueue) _

/-- What the review of a state gives, in the terms of the deck states (R134). -/
theorem review_outcome (x : State) :
    let t := settle (deckReview x)
    let y := { x with dkc := { x.dkc with listFull := latchOf x, overload := loadedNow x } }
    let z := arbitrate { y with dkc := { y.dkc with st := .openDeck } }
    HeadRests t ∧
    (t.tbu = x.tbu ∧ t.csq = x.csq ∧ t.scu = x.scu ∧ t.zsc = x.zsc ∧ t.liu = x.liu ∧ t.rtk = x.rtk ∧ t.trs = x.trs ∧
      t.sst.live = x.sst.live) ∧
    (x.dkc.st = .closed ∨ x.dkc.st = .resync ∨ x.dkc.st = .resting ∨
      (x.dkc.st = .isolated ∧ ∃ l : Lane, ∃ e ∈ x.dkc.lists[l], e.noncompliant = true) → FormedFrom y t) ∧
    (x.dkc.st = .blind ∨ (x.dkc.st = .openDeck ∧ loadedNow x = false) → FormedFrom (arbitrate y) t) ∧
    (x.dkc.st = .openDeck → loadedNow x = true →
      ReportedFrom [.deck ⟨.overloaded, some .openDeck, .overload, .allStop, x.dkc.onDeck, x.dkc.committed, x.dkc.queue.length,
        x.tbu.time⟩] { y with dkc := { y.dkc with st := .overloaded } } t) ∧
    (x.dkc.st = .overloaded → loadedNow x = true → FormedFrom y t) ∧
    (x.dkc.st = .overloaded → loadedNow x = false →
      ReportedFrom [.deck ⟨.openDeck, some .overloaded, .overloadEnd, t.dkc.signal, t.dkc.onDeck, t.dkc.committed,
        t.dkc.queue.length, x.tbu.time⟩] z t) := by
  intro t y z
  have hform : formOverload x = y := formOverload_eq x
  have hy : ∀ {st}, x.dkc.st = st → y.dkc.st = st := fun h => h
  have hstays : ∀ {u}, deckReview x = u → FormedFrom u t := fun h => h ▸ settle_formedFrom _
  have hsame := deckReview_same x
  have hrest := (settle_formedFrom (deckReview x)).rest
  refine ⟨headRests_congr (congrArg sansLink hrest) (headRests_deckReview x), ⟨?_, ?_, ?_, ?_, ?_, ?_, ?_, ?_⟩, fun h => ?_, fun h => ?_, fun h hl => ?_, fun h hl => ?_, fun h hl => ?_⟩
  · exact (congrArg State.tbu hrest :).trans hsame.tbu
  · exact (congrArg State.csq hrest :).trans hsame.csq
  · exact (congrArg State.scu hrest :).trans hsame.scu
  · exact (congrArg State.zsc hrest :).trans hsame.zsc
  · exact (congrArg State.liu hrest :).trans hsame.liu
  · exact (congrArg State.rtk hrest :).trans hsame.rtk
  · exact (congrArg State.trs hrest :).trans hsame.trs
  · exact (congrArg (fun u : State => u.sst.live) hrest :).trans (show (deckReview x).sst.live = x.sst.live by rw [hsame.sst])
  · rcases h with h | h | h | ⟨h, hnon⟩
    · exact hstays ((deckReview_stays (.inr (.inr h))).trans hform)
    · exact hstays ((deckReview_stays (.inl h)).trans hform)
    · exact hstays ((deckReview_stays (.inr (.inl h))).trans hform)
    · exact hstays (((deckReview_isolated h).trans (if_pos ((noncompliantOnDeck_iff x).mpr hnon))).trans hform)
  · rcases h with h | ⟨h, hl⟩
    · exact hstays ((deckReview_blind h).trans (congrArg arbitrate hform))
    · exact hstays (((deckReview_open h).trans (if_neg (by rw [hl]; decide))).trans (congrArg arbitrate hform))
  · have hreview : deckReview x = changeDeck .overloaded .overload y := by
      rw [deckReview_open h, if_pos hl, hform]
    have hplaces := changeDeck_places .overloaded .overload y
    rw [← hreview, deckAs_eq (by decide) (by decide), hy h] at hplaces
    exact placed_settled hplaces.toPlacedFrom
  · exact hstays (((deckReview_overloaded h).trans (if_pos hl)).trans hform)
  · have hreview : deckReview x = changeDeck .openDeck .overloadEnd y := by
      rw [deckReview_overloaded h, if_neg (by rw [hl]; decide), hform]
    have hplaces : Places [deckReport (some .overloaded) .overloadEnd z] z (deckReview x) := by
      rw [hreview, ← hy h]
      exact changeDeck_places .openDeck .overloadEnd y
    have hreported : ReportedFrom _ z t := placed_settled hplaces.toPlacedFrom
    have hsignal : t.dkc.signal = signalOf z := hreported.formed.signal.trans (reported_same hreported signalOf fun _ => rfl)
    have hst : z.dkc.st = .openDeck := (arbitrate_granting _).st
    have hnow : z.tbu = x.tbu := (arbitrate_granting _).tbu
    rw [hsignal, reported_same hreported (·.dkc.onDeck) fun _ => rfl, reported_same hreported (·.dkc.committed) fun _ => rfl,
      reported_same hreported (·.dkc.queue) fun _ => rfl]
    rw [deckReport, hst, State.now, hnow] at hreported
    exact hreported

/-- Settles O36: each timer's change, and the review of the deck after it. -/
theorem arbiterTimers : Obligations.ArbiterTimers := by
  unfold Obligations.ArbiterTimers
  intro id s outcome
  refine ⟨fun g hg hlatch hpassed => ?_, fun g hg hlatch hpassed => ?_, fun time times htimes hpassed => ?_, fun g hg hreached => ?_⟩
  · have hdue : headwayDue s = true := by
      rw [headwayDue, hg, Option.any_some, hlatch, Bool.not_false, Bool.true_and, passed_iff]
      exact hpassed
    let x := { s with dkc := { s.dkc with lastGrant := some { g with headwayOk := true } } }
    have hnext : exec .headwayElapsed s = .next (settle (deckReview x)) := (when'_due hdue s _).trans (by rw [hg]; rfl)
    obtain ⟨hrests, ⟨htbu, hcsq, hscu, hzsc, hliu, hrtk, htrs, hlive⟩, hrows⟩ := review_outcome x
    exact ⟨_, hnext, (settle_formedFrom _).formed, hrests, htbu, hcsq, hscu, hzsc, hliu, hrtk, htrs, hlive, hrows⟩
  · have hdue : blindClearDue s = true := by
      rw [blindClearDue, hg, Option.any_some, hlatch, Bool.not_false, Bool.true_and, passed_iff]
      exact hpassed
    let x := { s with dkc := { s.dkc with lastGrant := some { g with blindOk := true } } }
    have hnext : exec .blindClearElapsed s = .next (settle (deckReview x)) := (when'_due hdue s _).trans (by rw [hg]; rfl)
    obtain ⟨hrests, ⟨htbu, hcsq, hscu, hzsc, hliu, hrtk, htrs, hlive⟩, hrows⟩ := review_outcome x
    exact ⟨_, hnext, (settle_formedFrom _).formed, hrests, htbu, hcsq, hscu, hzsc, hliu, hrtk, htrs, hlive, hrows⟩
  · have hdue : grantTimeDue s = true := by
      rw [grantTimeDue, htimes, List.head?_cons, Option.any_some, passed_iff]
      exact hpassed
    let x := { s with dkc := { s.dkc with grantTimes := times } }
    have hnext : exec .grantTimeExpiry s = .next (settle (deckReview x)) := (when'_due hdue s _).trans (by rw [htimes]; rfl)
    obtain ⟨hrests, ⟨htbu, hcsq, hscu, hzsc, hliu, hrtk, htrs, hlive⟩, hrows⟩ := review_outcome x
    exact ⟨_, hnext, (settle_formedFrom _).formed, hrests, htbu, hcsq, hscu, hzsc, hliu, hrtk, htrs, hlive, hrows⟩
  · have hdue : grantExpiryDue id s = true := by
      rw [grantExpiryDue, hg, Option.any_some, reached, State.now, hreached]
      rfl
    let x : State := { s with
      rtb := { s.rtb with pool := s.rtb.pool.map fun r => if r.id == id then { r with admission := .expired } else r }
      dkc := { s.dkc with grants := s.dkc.grants.eraseP (·.id == id), committed := s.dkc.committed - g.load } }
    have hnext : exec (.grantExpiry id) s = .next (settle (deckReview x)) :=
      (when'_due hdue s _).trans (by rw [endGrant, hg]; rfl)
    obtain ⟨hrests, ⟨htbu, hcsq, hscu, hzsc, hliu, hrtk, htrs, hlive⟩, hrows⟩ := review_outcome x
    exact ⟨_, hnext, (settle_formedFrom _).formed, hrests, htbu, hcsq, hscu, hzsc, hliu, hrtk, htrs, hlive, hrows⟩

end Sys2Proof.Proofs
end

section
/-! SUPPORT. What every operation of the Deck Controller leaves: the records that are gone stay gone, the history keeps its summaries while
it has room, and no other condition is touched. The DECK report of a change of deck state (R148), the flush (R142) and the entry to RESYNC
(R143). -/

namespace Sys2Proof.Machine

open Sys2Proof.Safety

/-! ### The frame of the deck's operations -/

/-- The conditions that the deck's operations move: TABLE_FULL by a freed slot, NONCOMPLIANCE and DECK_OVERSTAY. -/
def DeckIx (ix : CondIx) : Prop := ∃ l, ix = tableFullIx l ∨ ix = noncomplianceIx l ∨ ix = overstayIx l

/-- The Condition Monitor without what the deck's operations change. -/
def sansDeckCmn (c : CmnState) : CmnState :=
  { c with laneMode := Vector.replicate 3 .closed, conds := Vector.replicate 65 c.conds[desyncIx], nonIds := Vector.replicate 3 [], grants := 0 }

/-- What an operation of the deck leaves between s and t: records, approach places and named ids only go, the history loses no summary while
pool and history together have room, answers and the other conditions are as before, of the assemblers records PENDING only go, a record that
goes has left its lists, and of one that stays the admission alone may differ. -/
structure DeckMoves (s t : State) : Prop where
  gone    : ∀ id, findRec s id = none → findRec t id = none
  away    : ∀ (l : Lane) (id : Nat), id ∈ t.rtb.approach[l] → id ∈ s.rtb.approach[l]
  size    : t.rtb.pool.length + t.rtb.history.length ≤ s.rtb.pool.length + s.rtb.history.length
  kept    : s.rtb.pool.length + s.rtb.history.length ≤ 64 → ∀ z ∈ s.rtb.history, z ∈ t.rtb.history
  las     : ∀ l : Lane, ∃ ps, t.las[l] = { s.las[l] with pendingList := ps } ∧ ∀ p ∈ ps, p ∈ s.las[l].pendingList
  answers : answerPath t = answerPath s
  cited   : ∀ (l : Lane) (id : Nat), id ∈ t.cmn.nonIds[l] → id ∈ s.cmn.nonIds[l]
  left    : ∀ id, findRec s id ≠ none → findRec t id = none → ∀ l : Lane, id ∉ t.rtb.approach[l]
  conds   : ∀ ix, ¬ DeckIx ix → t.cmn.conds[ix] = s.cmn.conds[ix]
  cmn     : sansDeckCmn t.cmn = sansDeckCmn s.cmn
  records : ∀ id x, findRec t id = some x → ∃ r a, findRec s id = some r ∧ x = { r with admission := a }

theorem desyncIx_not_deckIx : ¬ DeckIx desyncIx := by
  rintro ⟨l, h⟩
  revert l
  decide

theorem DeckMoves.refl (s : State) : DeckMoves s s :=
  ⟨fun _ h => h, fun _ _ h => h, le_rfl, fun _ _ h => h, fun _ => ⟨_, rfl, fun _ h => h⟩, rfl, fun _ _ h => h, fun _ h k => absurd k h,
    fun _ _ => rfl, rfl, fun _ r h => ⟨r, _, h, rfl⟩⟩

theorem DeckMoves.trans {s t u : State} (h : DeckMoves s t) (k : DeckMoves t u) : DeckMoves s u where
  gone id hid := k.gone id (h.gone id hid)
  away l id hid := h.away l id (k.away l id hid)
  size := k.size.trans h.size
  kept hs z hz := k.kept (h.size.trans hs) z (h.kept hs z hz)
  las l := by
    obtain ⟨ps, ht, hps⟩ := h.las l
    obtain ⟨qs, hu, hqs⟩ := k.las l
    rw [ht] at hu hqs
    exact ⟨qs, hu, fun p hp => hps p (hqs p hp)⟩
  answers := k.answers.trans h.answers
  cited l id hid := h.cited l id (k.cited l id hid)
  left id hid hu l := by
    by_cases ht : findRec t id = none
    · exact fun hc => h.left id hid ht l (k.away l id hc)
    · exact k.left id ht hu l
  conds ix hix := (k.conds ix hix).trans (h.conds ix hix)
  cmn := k.cmn.trans h.cmn
  records id x hx := by
    obtain ⟨y, a, hy, rfl⟩ := k.records id x hx
    obtain ⟨r, b, hr, rfl⟩ := h.records id y hy
    exact ⟨r, a, hr, rfl⟩

theorem DeckMoves.foldl {β : Type} {f : State → β → State} (h : ∀ s b, DeckMoves s (f s b)) (bs : List β) (s : State) :
    DeckMoves s (bs.foldl f s) := by
  induction bs generalizing s with
  | nil => exact .refl s
  | cons b bs ih => exact (h s b).trans (ih _)

namespace DeckMoves

variable {s t : State} (h : DeckMoves s t)

include h

theorem desyncTimes : t.cmn.desyncTimes = s.cmn.desyncTimes := (congrArg (fun c : CmnState => c.desyncTimes) h.cmn :)
theorem unadmitted : t.cmn.unadmitted = s.cmn.unadmitted := (congrArg (fun c : CmnState => c.unadmitted) h.cmn :)
theorem ghosts : t.cmn.ghosts = s.cmn.ghosts := (congrArg (fun c : CmnState => c.ghosts) h.cmn :)
theorem fifos (l : Lane) : t.las[l].fifo = s.las[l].fifo := by
  obtain ⟨ps, ht, _⟩ := h.las l
  rw [ht]

theorem lanes : t.cmn.lanes = s.cmn.lanes := (congrArg (fun c : CmnState => c.lanes) h.cmn :)

end DeckMoves

/-- The Deck Controller's own state is free, and the entry states of its own conditions. -/
theorem DeckMoves.of_same {s t : State} (hr : t.rtb = s.rtb) (hl : t.las = s.las) (hk : t.lki = s.lki) (hc : t.cmn = s.cmn) :
    DeckMoves s t where
  gone id hid := by rw [findRec, hr]; exact hid
  away l id hid := by rw [hr] at hid; exact hid
  size := by rw [hr]
  kept _ z hz := by rw [hr]; exact hz
  las l := ⟨_, by rw [hl], fun _ hp => hp⟩
  answers := by rw [answerPath, hk, answerPath]
  cited l id hid := by rw [hc] at hid; exact hid
  left id hid ht := absurd (by rwa [findRec, hr] at ht) hid
  conds ix _ := by rw [hc]
  cmn := by rw [hc]
  records id x hx := ⟨x, _, by rwa [findRec, hr] at hx, rfl⟩

/-- An operation after a change of the Deck Controller's own state. -/
theorem DeckMoves.after {s x t : State} (k : DeckMoves x t) (hr : x.rtb = s.rtb) (hl : x.las = s.las) (hk : x.lki = s.lki)
    (hc : x.cmn = s.cmn) : DeckMoves s t := (DeckMoves.of_same hr hl hk hc).trans k

/-- Reports placed after an operation add nothing. -/
theorem DeckMoves.placed {s x t : State} {rs : List Report} (k : Places rs x t) (h : DeckMoves s x) : DeckMoves s t where
  gone id hid := by rw [findRec, k.rtb]; exact h.gone id hid
  away l id hid := by rw [k.rtb] at hid; exact h.away l id hid
  size := by rw [k.rtb]; exact h.size
  kept hs z hz := by rw [k.rtb]; exact h.kept hs z hz
  las l := by rw [k.las]; exact h.las l
  answers := k.answers.trans h.answers
  cited l id hid := by rw [k.same (·.cmn.nonIds) fun _ => rfl] at hid; exact h.cited l id hid
  left id hid ht l := by
    rw [findRec, k.rtb] at ht
    rw [k.rtb]
    exact h.left id hid ht l
  conds ix hix := by rw [k.conds]; exact h.conds ix hix
  cmn := (k.same (fun u => sansDeckCmn u.cmn) fun _ => rfl).trans h.cmn
  records id x hx := by
    rw [findRec, k.rtb] at hx
    exact h.records id x hx

/-- An entry of a deck condition replaced. -/
theorem withEntry_deckMoves {ix : CondIx} (h : DeckIx ix) (e : CondEntry) (s : State) : DeckMoves s (withEntry ix e s) where
  gone _ hid := hid
  away _ _ hid := hid
  size := le_rfl
  kept _ _ hz := hz
  las _ := ⟨_, rfl, fun _ hp => hp⟩
  answers := rfl
  cited _ _ hid := hid
  left _ hid ht := absurd ht hid
  conds jx hjx := withEntry_conds_other (fun he : jx = ix => hjx (he ▸ h)) e s
  cmn := by
    have hdesync : (withEntry ix e s).cmn.conds[desyncIx] = s.cmn.conds[desyncIx] :=
      withEntry_conds_other (fun he : desyncIx = ix => desyncIx_not_deckIx (he ▸ h)) e s
    rw [sansDeckCmn, hdesync, sansDeckCmn]
    rfl
  records _ r hr := ⟨r, _, hr, rfl⟩

theorem giveClear_deckMoves {ix : CondIx} (h : DeckIx ix) (s : State) : DeckMoves s (giveClear ix s) :=
  .placed (giveClear_places ix s) (withEntry_deckMoves h _ s)

theorem giveCause_deckMoves {ix : CondIx} (h : DeckIx ix) (t : Time) (s : State) : DeckMoves s (giveCause ix t s) :=
  .placed (giveCause_places ix t s) (withEntry_deckMoves h _ s)

/-! ### Records -/

/-- A record changed with its id kept: the change of what the pool gives for an id. -/
theorem findRec_changeRec {f : VRecord → VRecord} (hf : ∀ r, (f r).id = r.id) (id k : Nat) (s : State) :
    findRec (changeRec id f s) k = (findRec s k).map fun r => if r.id == id then f r else r := by
  have hid : ((fun r : VRecord => r.id == k) ∘ fun r => if r.id == id then f r else r) = fun r => r.id == k := by
    funext r
    dsimp only [Function.comp_apply]
    split
    · rw [hf]
    · rfl
  rw [findRec, changeRec, List.find?_map, hid]
  rfl

theorem findRec_changeRec_self {f : VRecord → VRecord} (hf : ∀ r, (f r).id = r.id) (id : Nat) (s : State) :
    findRec (changeRec id f s) id = (findRec s id).map f := by
  rw [findRec_changeRec hf]
  cases h : findRec s id with
  | none => rfl
  | some r => rw [Option.map_some, Option.map_some, if_pos (beq_iff_eq.mpr (findRec_id h))]

theorem changeRec_deckMoves (a : Admission) (id : Nat) (s : State) : DeckMoves s (changeRec id (fun r => { r with admission := a }) s) := by
  have hfind := fun k => findRec_changeRec (f := fun r => { r with admission := a }) (fun _ => rfl) id k s
  refine ⟨fun k hk => ?_, fun _ _ h => h, ?_, fun _ _ hz => hz, fun _ => ⟨_, rfl, fun _ hp => hp⟩, rfl, fun _ _ h => h, fun k hk ht => ?_,
    fun _ _ => rfl, rfl, fun k x hx => ?_⟩
  · rw [hfind, hk]
    rfl
  · have hlen : (changeRec id (fun r => { r with admission := a }) s).rtb.pool.length = s.rtb.pool.length := List.length_map _
    rw [hlen]
    exact le_rfl
  · rw [hfind, Option.map_eq_none_iff] at ht
    exact absurd ht hk
  · rw [hfind] at hx
    obtain ⟨r, hr, rfl⟩ := Option.map_eq_some_iff.mp hx
    split
    · exact ⟨r, a, hr, rfl⟩
    · exact ⟨r, r.admission, hr, rfl⟩

theorem findRec_withoutRecord (id k : Nat) (x : Summary) (s : State) :
    findRec (withoutRecord id x s) k = if k = id then none else findRec s k := by
  rw [findRec, withoutRecord, List.find?_filter]
  split
  next h =>
    subst h
    simp
  next h =>
    rw [findRec]
    congr 1
    funext r
    by_cases hr : r.id = k <;> simp [hr, h]

theorem length_insertHistory_le (x : Summary) (ring : List Summary) : (insertHistory x ring).length ≤ ring.length + 1 := by
  rw [insertHistory, keepNewest, List.length_drop, length_insertById]
  exact Nat.sub_le _ _

/-- What the close of a record of the pool leaves of pool and history. -/
theorem withoutRecord_deckMoves {id : Nat} {r : VRecord} {s : State} (h : findRec s id = some r) (x : Summary) :
    DeckMoves s (withoutRecord id x s) := by
  have hmem : r ∈ s.rtb.pool := List.mem_of_find?_eq_some h
  have hshorter : (s.rtb.pool.filter (·.id != id)).length < s.rtb.pool.length :=
    List.length_filter_lt_length_iff_exists.mpr ⟨r, hmem, by simp [findRec_id h]⟩
  have hlen : (withoutRecord id x s).rtb.history.length ≤ s.rtb.history.length + 1 := length_insertHistory_le _ _
  refine ⟨fun k hk => ?_, fun l k hk => ?_, ?_, fun hs z hz => ?_, fun l => ?_, rfl, fun _ _ h => h, fun k hk hgone l => ?_, fun _ _ => rfl, rfl,
    fun k y hy => ?_⟩
  · rw [findRec_withoutRecord, hk, ite_self]
  · have hget : (withoutRecord id x s).rtb.approach[l] = s.rtb.approach[l].filter (· != id) := mapVec_getElem _ _ _
    rw [hget] at hk
    exact List.mem_of_mem_filter hk
  · show (s.rtb.pool.filter (·.id != id)).length + _ ≤ _
    omega
  · have hroom : s.rtb.history.length < 64 := by omega
    show z ∈ insertHistory x s.rtb.history
    rw [insertHistory_room x hroom]
    exact mem_insertById.mpr (.inr hz)
  · exact ⟨s.las[l].pendingList.filter (·.id != id), mapVec_getElem _ _ _, fun p hp => List.mem_of_mem_filter hp⟩
  · rw [findRec_withoutRecord] at hgone
    split at hgone
    next hid =>
      have hget : (withoutRecord id x s).rtb.approach[l] = s.rtb.approach[l].filter (· != id) := mapVec_getElem _ _ _
      rw [hget, hid]
      simp
    next => exact absurd hgone hk
  · rw [findRec_withoutRecord] at hy
    split at hy
    · cases hy
    · exact ⟨y, _, hy, rfl⟩

theorem withFullEntries_deckMoves (u : State) : DeckMoves u (withFullEntries u allLanes u) :=
  .foldl (f := fun v l => withEntry (tableFullIx l) (fullEntry u l) v) (fun v l => withEntry_deckMoves ⟨l, .inl rfl⟩ _ v) allLanes u

theorem closeRecord_deckMoves (id : Nat) (d : Disposition) (s : State) : DeckMoves s (closeRecord id d s) := by
  cases h : findRec s id with
  | none =>
    rw [closeRecord_none h]
    exact .refl s
  | some r => exact .placed (closeRecord_places h) ((withoutRecord_deckMoves h _).trans (withFullEntries_deckMoves _))

/-- What a close leaves of the pool: the record is gone, every other stands. -/
theorem findRec_closeRecord (id k : Nat) (d : Disposition) (s : State) :
    findRec (closeRecord id d s) k = if k = id then none else findRec s k := by
  cases h : findRec s id with
  | none =>
    rw [closeRecord_none h]
    split
    next he => rw [he, h]
    next => rfl
  | some r =>
    have hrtb := (closeRecord_places (d := d) h).rtb
    have hfull : ∀ u : State, (withFullEntries u allLanes u).rtb = u.rtb := fun _ => rfl
    rw [findRec, hrtb, hfull, ← findRec, findRec_withoutRecord]

theorem closeRecord_gone (id : Nat) (d : Disposition) (s : State) : findRec (closeRecord id d s) id = none := by
  rw [findRec_closeRecord, if_pos rfl]

/-- The history after a close. -/
theorem closeRecord_history {id : Nat} {r : VRecord} {s : State} (h : findRec s id = some r) (d : Disposition) :
    (closeRecord id d s).rtb.history = insertHistory (summaryOf r d s.tbu.time) s.rtb.history := by
  rw [(closeRecord_places (d := d) h).rtb]
  rfl

/-- The summary of the close is in the history while pool and history have room. -/
theorem mem_closeRecord_history {id : Nat} {r : VRecord} {s : State} (h : findRec s id = some r) (d : Disposition)
    (hs : s.rtb.pool.length + s.rtb.history.length ≤ 64) :
    summaryOf r d s.tbu.time ∈ (closeRecord id d s).rtb.history := by
  have hmem : 0 < s.rtb.pool.length := List.length_pos_of_mem (List.mem_of_find?_eq_some h)
  rw [closeRecord_history h, insertHistory_room _ (by omega)]
  exact mem_insertById.mpr (.inl rfl)

/-! ### Entries leaving the deck -/

theorem noncomplianceClear_deckMoves (l : Lane) (id : Nat) (s : State) : DeckMoves s (noncomplianceClear l id s) := by
  have hrest : DeckMoves s { s with cmn.nonIds := put s.cmn.nonIds l (s.cmn.nonIds[l].filter (· != id)) } := by
    refine ⟨fun _ h => h, fun _ _ h => h, le_rfl, fun _ _ h => h, fun _ => ⟨_, rfl, fun _ hp => hp⟩, rfl, fun k i hi => ?_,
      fun _ h k => absurd k h, fun _ _ => rfl, rfl, fun _ r hr => ⟨r, _, hr, rfl⟩⟩
    by_cases hk : k = l
    · subst hk
      rw [put_getElem_self] at hi
      exact List.mem_of_mem_filter hi
    · rwa [put_getElem_other _ _ _ _ hk] at hi
  unfold noncomplianceClear
  split
  · dsimp only
    split
    · exact hrest.trans (giveClear_deckMoves ⟨l, .inr (.inl rfl)⟩ _)
    · exact hrest
  · exact .refl s

/-- After its clear notice an id is named no more (R154). -/
theorem noncomplianceClear_cited (l : Lane) (id : Nat) (s : State) : id ∉ (noncomplianceClear l id s).cmn.nonIds[l] := by
  have hgone : ∀ u : State, u.cmn.nonIds = put s.cmn.nonIds l (s.cmn.nonIds[l].filter (· != id)) → id ∉ u.cmn.nonIds[l] := fun u hu => by
    rw [hu, put_getElem_self]
    simp
  unfold noncomplianceClear
  split
  · dsimp only
    split
    · exact hgone _ ((giveClear_places _ _).same (·.cmn.nonIds) fun _ => rfl)
    · exact hgone _ rfl
  next h => simpa using h

theorem releaseEntry_deckMoves (l : Lane) (d : Disposition) (e : DeckEntry) (s : State) : DeckMoves s (releaseEntry l d e s) := by
  have hload : DeckMoves s { s with dkc.onDeck := s.dkc.onDeck - heavyLoad e } := .of_same rfl rfl rfl rfl
  unfold releaseEntry
  dsimp only
  split
  · exact hload
  · split
    · exact (hload.trans (closeRecord_deckMoves _ _ _)).trans (noncomplianceClear_deckMoves _ _ _)
    · exact hload.trans (closeRecord_deckMoves _ _ _)

theorem foldl_releaseEntry_deckMoves (l : Lane) (d : Disposition) (es : List DeckEntry) (s : State) :
    DeckMoves s (es.foldl (fun s e => releaseEntry l d e s) s) := .foldl (fun s e => releaseEntry_deckMoves l d e s) es s

/-- The state with a lane's list empty and no cause given by its head. -/
def withoutList (l : Lane) (s : State) : State :=
  { s with dkc.lists := put s.dkc.lists l [], dkc.overstayGiven := put s.dkc.overstayGiven l false }

theorem flushLane_eq (s : State) (l : Lane) : flushLane s l =
    giveClear (overstayIx l) (s.dkc.lists[l].foldl (fun s e => releaseEntry l .flushed e s) (withoutList l s)) := rfl

theorem flushLane_deckMoves (s : State) (l : Lane) : DeckMoves s (flushLane s l) := by
  rw [flushLane_eq]
  exact ((foldl_releaseEntry_deckMoves l .flushed _ _).trans (giveClear_deckMoves ⟨l, .inr (.inr rfl)⟩ _)).after rfl rfl rfl rfl

theorem flushOut_deckMoves (s : State) : DeckMoves s (flushOut s) := .foldl flushLane_deckMoves _ s

theorem watchHead_deckMoves (l : Lane) (s : State) : DeckMoves s (watchHead l s) := by
  unfold watchHead
  split
  · exact (giveCause_deckMoves ⟨l, .inr (.inr rfl)⟩ _ _).after rfl rfl rfl rfl
  · exact .refl s

theorem headChanged_deckMoves (l : Lane) (s : State) : DeckMoves s (headChanged l s) := by
  unfold headChanged
  split
  · exact ((giveClear_deckMoves ⟨l, .inr (.inr rfl)⟩ _).trans (watchHead_deckMoves l _)).after rfl rfl rfl rfl
  · exact watchHead_deckMoves l s

/-! ### Changes of deck state -/

theorem grantHead_deckMoves (id u : Nat) (s : State) : DeckMoves s (grantHead id u s) :=
  .trans (t := { s with cmn.grants := s.cmn.grants + 1 })
    ⟨fun _ h => h, fun _ _ h => h, le_rfl, fun _ _ h => h, fun _ => ⟨_, rfl, fun _ hp => hp⟩, rfl, fun _ _ h => h, fun _ h k => absurd k h,
      fun _ _ => rfl, rfl, fun _ r hr => ⟨r, _, hr, rfl⟩⟩
    ((changeRec_deckMoves .granted id _).after rfl rfl rfl rfl)

theorem arbitrateUpTo_deckMoves (n : Nat) (s : State) : DeckMoves s (arbitrateUpTo n s) := by
  induction n generalizing s with
  | zero => exact .refl s
  | succ n ih =>
    rw [arbitrateUpTo]
    split
    · split
      · exact (grantHead_deckMoves _ _ s).trans (ih _)
      · exact .refl s
    · exact .refl s

theorem arbitrate_deckMoves (s : State) : DeckMoves s (arbitrate s) := arbitrateUpTo_deckMoves _ s

theorem deckAs_deckMoves (new : DeckSt) (s : State) : DeckMoves s (deckAs new s) := (arbitrate_deckMoves _).after rfl rfl rfl rfl

theorem changeDeck_deckMoves (new : DeckSt) (c : DeckCause) (s : State) : DeckMoves s (changeDeck new c s) :=
  .placed (changeDeck_places new c s) (deckAs_deckMoves new s)

theorem formOverload_deckMoves (s : State) : DeckMoves s (formOverload s) := .of_same rfl rfl rfl rfl

/-- Every record of the ids given QUEUED again. -/
def requeue (ids : List Nat) (s : State) : State := ids.foldl (fun s id => changeRec id (fun r => { r with admission := .queued }) s) s

/-- The state with no grants, its grants' records at the front of the queue. -/
def withoutGrants (ids : List Nat) (s : State) : State :=
  { s with dkc.queue := ids ++ s.dkc.queue, dkc.grants := [], dkc.committed := 0 }

theorem cancelGrants_eq (s : State) : cancelGrants s = withoutGrants (s.dkc.grants.map (·.id)) (requeue (s.dkc.grants.map (·.id)) s) := rfl

theorem requeue_deckMoves (ids : List Nat) (s : State) : DeckMoves s (requeue ids s) :=
  .foldl (fun s id => changeRec_deckMoves .queued id s) ids s

theorem cancelGrants_deckMoves (s : State) : DeckMoves s (cancelGrants s) := by
  rw [cancelGrants_eq]
  exact (requeue_deckMoves _ s).trans (.of_same rfl rfl rfl rfl)

theorem readyForResync_deckMoves (s : State) : DeckMoves s (readyForResync s) := .of_same rfl rfl rfl rfl

theorem clearedForResync_deckMoves (s : State) : DeckMoves s (clearedForResync s) := by
  rw [clearedForResync]
  exact (DeckMoves.foldl flushLane_deckMoves allLanes s).trans ((cancelGrants_deckMoves _).trans (readyForResync_deckMoves _))

theorem enterResync_deckMoves (c : DeckCause) (s : State) : DeckMoves s (enterResync c s) := by
  rw [enterResync_eq]
  exact (clearedForResync_deckMoves s).trans (changeDeck_deckMoves _ _ _)

/-- The state that an entry to BLIND leaves before the deck takes it (R146). -/
def clearedForBlind (s : State) : State := formOverload { flushOut s with dkc.timer := none }

theorem enterBlind_eq (c : DeckCause) (s : State) : enterBlind c s = changeDeck .blind c (clearedForBlind s) := rfl

theorem clearedForBlind_deckMoves (s : State) : DeckMoves s (clearedForBlind s) := by
  have hrest : DeckMoves (flushOut s) (formOverload { flushOut s with dkc.timer := none }) := (formOverload_deckMoves _).after rfl rfl rfl rfl
  exact (flushOut_deckMoves s).trans hrest

theorem enterBlind_deckMoves (c : DeckCause) (s : State) : DeckMoves s (enterBlind c s) := by
  rw [enterBlind_eq]
  exact (clearedForBlind_deckMoves s).trans (changeDeck_deckMoves _ _ _)

theorem endResting_deckMoves (s : State) : DeckMoves s (endResting s) := by
  have htimer : DeckMoves s (formOverload { s with dkc.timer := none }) := .of_same rfl rfl rfl rfl
  rw [endResting]
  refine htimer.trans ?_
  dsimp only
  split
  · exact enterBlind_deckMoves _ _
  · split
    · exact enterResync_deckMoves _ _
    · split
      · exact changeDeck_deckMoves _ _ _
      · exact changeDeck_deckMoves _ _ _

theorem endIsolation_deckMoves (s : State) : DeckMoves s (endIsolation s) := by
  have hrest := changeDeck_deckMoves .resting .isolationEnd { s with dkc.timer := some (after s.now (secs s.sst.live.deck.restTime)) }
  have hboth := hrest.after (s := s) rfl rfl rfl rfl
  rw [endIsolation]
  dsimp only
  split
  · exact hboth.trans (endResting_deckMoves _)
  · exact hboth

theorem deckReview_deckMoves (s : State) : DeckMoves s (deckReview s) := by
  rw [deckReview]
  refine (formOverload_deckMoves s).trans ?_
  split
  · split
    · exact changeDeck_deckMoves _ _ _
    · exact arbitrate_deckMoves _
  · split
    · exact .refl _
    · exact changeDeck_deckMoves _ _ _
  · split
    · exact .refl _
    · exact endIsolation_deckMoves _
  · exact arbitrate_deckMoves _
  all_goals exact .refl _

/-! ### The DECK report is the last placed (R148) -/

theorem getLast?_reportPath_enqueue (r : Report) (s : State) : (reportPath (enqueueReport r s)).getLast? = some r := by
  unfold enqueueReport
  split <;> simp [reportPath, ← List.append_assoc]

theorem getLast?_reportPath_place (r : Report) (s : State) : (reportPath (placeReport r s)).getLast? = some r := by
  rw [placeReport, (kick_spec _).2.1]
  exact getLast?_reportPath_enqueue r s

/-- What the deck signal is formed from. -/
theorem signalOf_congr {s t : State} (h : t.dkc = s.dkc) : signalOf t = signalOf s := by
  rw [signalOf, h, signalOf]

/-- A change of deck state has its DECK report, with the account after the arbiter's examination. -/
theorem changeDeck_reported (new : DeckSt) (cause : DeckCause) (s : State) : DeckReported s.dkc.st cause (changeDeck new cause s) := by
  have hlast := getLast?_reportPath_place (deckReport (some s.dkc.st) cause (deckAs new s)) (deckAs new s)
  have hdkc : (changeDeck new cause s).dkc = (deckAs new s).dkc := placeReport_dkc _ _
  have htbu : (changeDeck new cause s).tbu = (deckAs new s).tbu := (placeReport_same _ _).tbu
  rw [DeckReported, signalOf_congr hdkc, hdkc, htbu]
  exact hlast

end Sys2Proof.Machine
end

section
/-! SUPPORT. Proofs about the flush of a list (R142), the entries to RESYNC and to BLIND (R143, R146), and where the deck goes at the end of
RESYNC, of RESTING and of an isolation (R143, R145). -/

namespace Sys2Proof.Machine

open Sys2Proof.Safety

/-! ### The release of an entry (R139, R141, R142) -/

section Release

variable {l : Lane} {d : Disposition} {e : DeckEntry} {s : State}

/-- The state with an entry's load released. -/
def unloaded (e : DeckEntry) (s : State) : State := { s with dkc.onDeck := s.dkc.onDeck - heavyLoad e }

theorem releaseEntry_unnamed (h : e.recId = none) : releaseEntry l d e s = unloaded e s := by
  rw [releaseEntry]
  dsimp only
  rw [h]
  rfl

theorem releaseEntry_named {id : Nat} (h : e.recId = some id) : releaseEntry l d e s =
    if e.noncompliant then noncomplianceClear l id (closeRecord id d (unloaded e s)) else closeRecord id d (unloaded e s) := by
  rw [releaseEntry]
  dsimp only
  rw [h]
  rfl

theorem releaseEntry_named_rtb {id : Nat} (h : e.recId = some id) : (releaseEntry l d e s).rtb = (closeRecord id d (unloaded e s)).rtb := by
  rw [releaseEntry_named h]
  split
  · exact (noncomplianceClear_same _ _ _).rtb
  · rfl

/-- What the release of an entry leaves of the pool: the record that it refers to is gone, every other stands. -/
theorem findRec_releaseEntry (k : Nat) : findRec (releaseEntry l d e s) k = if e.recId = some k then none else findRec s k := by
  cases h : e.recId with
  | none =>
    rw [releaseEntry_unnamed h, if_neg (by simp)]
    rfl
  | some id =>
    rw [findRec, releaseEntry_named_rtb h, ← findRec, findRec_closeRecord]
    by_cases hk : k = id
    · rw [if_pos hk, if_pos (by rw [hk])]
    · rw [if_neg hk, if_neg (fun he => hk (Option.some.inj he).symm)]
      rfl

theorem releaseEntry_cited {id : Nat} (h : e.recId = some id) (hn : e.noncompliant = true) : id ∉ (releaseEntry l d e s).cmn.nonIds[l] := by
  rw [releaseEntry_named h, if_pos hn]
  exact noncomplianceClear_cited l id _

/-- The summary of the record that an entry refers to is in the history while pool and history have room. -/
theorem mem_releaseEntry_history {id : Nat} {r : VRecord} (h : e.recId = some id) (hr : findRec s id = some r)
    (hs : s.rtb.pool.length + s.rtb.history.length ≤ 64) : summaryOf r d s.tbu.time ∈ (releaseEntry l d e s).rtb.history := by
  rw [releaseEntry_named_rtb h]
  exact mem_closeRecord_history (s := unloaded e s) hr d hs

theorem giveClear_conds_other {ix jx : CondIx} (h : jx ≠ ix) (u : State) : (giveClear ix u).cmn.conds[jx] = u.cmn.conds[jx] := by
  rw [(giveClear_places ix u).conds]
  exact withEntry_conds_other h _ _

/-- The close of a record moves no other condition than TABLE_FULL. -/
theorem closeRecord_conds_other {ix : CondIx} (hf : ∀ k, ix ≠ tableFullIx k) (id : Nat) (d : Disposition) (u : State) :
    (closeRecord id d u).cmn.conds[ix] = u.cmn.conds[ix] := by
  cases hr : findRec u id with
  | none => rw [closeRecord_none hr]
  | some r =>
    rw [(closeRecord_places (d := d) hr).conds, (withFullEntries_conds _).2 ix hf]
    rfl

/-- The release of an entry moves no other condition than TABLE_FULL and NONCOMPLIANCE. -/
theorem releaseEntry_conds {ix : CondIx} (hf : ∀ k, ix ≠ tableFullIx k) (hn : ∀ k, ix ≠ noncomplianceIx k) :
    (releaseEntry l d e s).cmn.conds[ix] = s.cmn.conds[ix] := by
  cases h : e.recId with
  | none =>
    rw [releaseEntry_unnamed h]
    rfl
  | some id =>
    have hclear : ∀ u : State, (noncomplianceClear l id u).cmn.conds[ix] = u.cmn.conds[ix] := fun u => by
      unfold noncomplianceClear
      split
      · dsimp only
        split
        · exact giveClear_conds_other (hn l) _
        · rfl
      · rfl
    rw [releaseEntry_named h]
    split
    · rw [hclear, closeRecord_conds_other hf]
      rfl
    · rw [closeRecord_conds_other hf]
      rfl

theorem foldl_releaseEntry_conds {ix : CondIx} (hf : ∀ k, ix ≠ tableFullIx k) (hn : ∀ k, ix ≠ noncomplianceIx k) (es : List DeckEntry) :
    (es.foldl (fun s e => releaseEntry l d e s) s).cmn.conds[ix] = s.cmn.conds[ix] := by
  induction es generalizing s with
  | nil => rfl
  | cons e es ih =>
    rw [List.foldl_cons]
    exact ih.trans (releaseEntry_conds hf hn)

theorem foldl_releaseEntry_gone {es : List DeckEntry} {id : Nat} (he : e ∈ es) (h : e.recId = some id) :
    findRec (es.foldl (fun s e => releaseEntry l d e s) s) id = none := by
  induction es generalizing s with
  | nil => cases he
  | cons x xs ih =>
    rw [List.foldl_cons]
    rcases List.mem_cons.mp he with rfl | he
    · refine (foldl_releaseEntry_deckMoves l d xs _).gone id ?_
      rw [findRec_releaseEntry, if_pos h]
    · exact ih he

theorem foldl_releaseEntry_cited {es : List DeckEntry} {id : Nat} (he : e ∈ es) (h : e.recId = some id) (hn : e.noncompliant = true) :
    id ∉ (es.foldl (fun s e => releaseEntry l d e s) s).cmn.nonIds[l] := by
  induction es generalizing s with
  | nil => cases he
  | cons x xs ih =>
    rw [List.foldl_cons]
    rcases List.mem_cons.mp he with rfl | he
    · exact fun hc => releaseEntry_cited h hn ((foldl_releaseEntry_deckMoves l d xs _).cited l id hc)
    · exact ih he

/-- The first entry that refers to a record closes it, and no later one removes its summary while there is room. -/
theorem foldl_releaseEntry_history {es : List DeckEntry} {id : Nat} {r : VRecord} (he : e ∈ es) (h : e.recId = some id)
    (hr : findRec s id = some r) (hs : s.rtb.pool.length + s.rtb.history.length ≤ 64) :
    ∃ z ∈ (es.foldl (fun s e => releaseEntry l d e s) s).rtb.history, z = summaryOf r d s.tbu.time := by
  induction es generalizing s with
  | nil => cases he
  | cons x xs ih =>
    rw [List.foldl_cons]
    have hsize := (releaseEntry_deckMoves l d x s).size.trans hs
    by_cases hx : x.recId = some id
    · exact ⟨_, (foldl_releaseEntry_deckMoves l d xs _).kept hsize _ (mem_releaseEntry_history hx hr hs), rfl⟩
    · have hxs : e ∈ xs := by
        rcases List.mem_cons.mp he with rfl | he
        · exact absurd h hx
        · exact he
      have hstands : findRec (releaseEntry l d x s) id = some r := by rw [findRec_releaseEntry, if_neg hx, hr]
      have hrest := ih hxs hstands hsize
      rw [(releaseEntry_same l d x s).tbu] at hrest
      exact hrest

end Release

/-! ### The flush (R142) -/

theorem clearedEntry_st (now : Time) (e : CondEntry) : (clearedEntry now e).st = if e.st = .recovering then .recovering else .clear := by
  cases h : e.st <;> simp [clearedEntry, movedEntry, h]

theorem giveClear_st (ix : CondIx) (s : State) :
    (giveClear ix s).cmn.conds[ix].st = if s.cmn.conds[ix].st = .recovering then .recovering else .clear := by
  rw [(giveClear_places ix s).conds, withEntry_conds_self, clearedEntry_st]

theorem overstayIx_ne : ∀ l k : Lane, overstayIx l ≠ tableFullIx k ∧ overstayIx l ≠ noncomplianceIx k := by decide

theorem flushLane_overstay (s : State) (l : Lane) :
    (flushLane s l).cmn.conds[overstayIx l].st = if s.cmn.conds[overstayIx l].st = .recovering then .recovering else .clear := by
  rw [flushLane_eq, giveClear_st,
    foldl_releaseEntry_conds (fun k => (overstayIx_ne l k).1) fun k => (overstayIx_ne l k).2]
  rfl

section Flush

variable {l : Lane} {e : DeckEntry} {s : State} {id : Nat}

theorem flushLane_gone (he : e ∈ s.dkc.lists[l]) (h : e.recId = some id) : findRec (flushLane s l) id = none := by
  rw [flushLane_eq]
  exact (giveClear_deckMoves ⟨l, .inr (.inr rfl)⟩ _).gone id (foldl_releaseEntry_gone he h)

theorem flushLane_cited (he : e ∈ s.dkc.lists[l]) (h : e.recId = some id) (hn : e.noncompliant = true) :
    id ∉ (flushLane s l).cmn.nonIds[l] := by
  rw [flushLane_eq]
  exact fun hc => foldl_releaseEntry_cited he h hn ((giveClear_deckMoves ⟨l, .inr (.inr rfl)⟩ _).cited l id hc)

theorem flushLane_history (he : e ∈ s.dkc.lists[l]) (h : e.recId = some id) (hr : findRec s id ≠ none)
    (hs : s.rtb.pool.length + s.rtb.history.length ≤ 64) :
    ∃ z ∈ (flushLane s l).rtb.history, z.id = id ∧ z.disposition = .flushed ∧ z.closeTime = s.tbu.time := by
  obtain ⟨r, hr⟩ := Option.ne_none_iff_exists'.mp hr
  obtain ⟨z, hz, rfl⟩ := foldl_releaseEntry_history (l := l) (d := .flushed) (s := withoutList l s) he h hr hs
  refine ⟨summaryOf r .flushed s.tbu.time, ?_, findRec_id hr, rfl, rfl⟩
  rw [flushLane_eq, (giveClear_same _ _).rtb]
  exact hz

theorem flushLane_lists_self (s : State) (l : Lane) : (flushLane s l).dkc.lists[l] = [] := by
  rw [flushLane_dkc]
  exact put_getElem_self _ _ _

theorem flushLane_lists_other {k : Lane} (h : k ≠ l) (s : State) : (flushLane s l).dkc.lists[k] = s.dkc.lists[k] := by
  rw [flushLane_dkc]
  exact put_getElem_other _ _ _ _ h

/-- After a flush of lanes the records of their entries are gone. -/
theorem foldl_flushLane_gone {ls : List Lane} (hl : l ∈ ls) (he : e ∈ s.dkc.lists[l]) (h : e.recId = some id) :
    findRec (ls.foldl flushLane s) id = none := by
  induction ls generalizing s with
  | nil => cases hl
  | cons k ks ih =>
    rw [List.foldl_cons]
    by_cases hk : l = k
    · subst hk
      exact (DeckMoves.foldl flushLane_deckMoves ks _).gone id (flushLane_gone he h)
    · exact ih ((List.mem_cons.mp hl).resolve_left hk) (by rw [flushLane_lists_other hk]; exact he)

/-- After a flush of lanes their lists are empty, and the others as they were. -/
theorem foldl_flushLane_lists (ls : List Lane) (s : State) (l : Lane) :
    (ls.foldl flushLane s).dkc.lists[l] = if l ∈ ls then [] else s.dkc.lists[l] := by
  induction ls generalizing s with
  | nil => rfl
  | cons k ks ih =>
    rw [List.foldl_cons, ih]
    by_cases hks : l ∈ ks
    · rw [if_pos hks, if_pos (List.mem_cons_of_mem _ hks)]
    · rw [if_neg hks]
      by_cases hk : l = k
      · subst hk
        rw [flushLane_lists_self, if_pos List.mem_cons_self]
      · rw [flushLane_lists_other hk, if_neg (by simp [hk, hks])]

end Flush

theorem mem_allLanes : ∀ l : Lane, l ∈ allLanes := by decide

theorem flushOut_lists (s : State) (l : Lane) : (flushOut s).dkc.lists[l] = if laneLoopOut s l then [] else s.dkc.lists[l] := by
  rw [flushOut, foldl_flushLane_lists]
  simp only [List.mem_filter, mem_allLanes, true_and]

theorem flushOut_gone {s : State} {l : Lane} {e : DeckEntry} {id : Nat} (ho : laneLoopOut s l = true) (he : e ∈ s.dkc.lists[l])
    (h : e.recId = some id) : findRec (flushOut s) id = none :=
  foldl_flushLane_gone (List.mem_filter.mpr ⟨mem_allLanes l, ho⟩) he h

/-- What a flush of lanes changes in the Deck Controller: lists, load and the causes that the heads have given. -/
theorem foldl_flushLane_dkc (ls : List Lane) (s : State) :
    let t := ls.foldl flushLane s
    t.dkc = { s.dkc with lists := t.dkc.lists, onDeck := t.dkc.onDeck, overstayGiven := t.dkc.overstayGiven } := by
  induction ls generalizing s with
  | nil => rfl
  | cons l ls ih =>
    have hone := flushLane_dkc s l
    have hrest := ih (flushLane s l)
    dsimp only at hrest ⊢
    rw [List.foldl_cons]
    rw [hrest, hone]
    rfl

/-! ### The entry to RESYNC (R143) -/

/-- The Deck Controller after an entry to RESYNC. -/
def resyncDkc (s : State) : DkcState := { s.dkc with
  st := .resync, queue := s.dkc.grants.map (·.id) ++ s.dkc.queue, grants := [], committed := 0
  onDeck := 0, lists := Vector.replicate 3 [], overstayGiven := Vector.replicate 3 false, listFull := false
  overload := false, resyncOwed := false
  timer := some (s.tbu.time + BitVec.ofNat 32 (s.sst.live.deck.resyncTime * 100000)) }

theorem flushAll_overstayGiven (s : State) : (allLanes.foldl flushLane s).dkc.overstayGiven = Vector.replicate 3 false := by
  simp only [allLanes, List.foldl_cons, List.foldl_nil, flushLane_dkc, releaseLoad]
  ext i hi : 1
  match i with
  | 0 | 1 | 2 => simp [put]

theorem changeDeck_dkc {new : DeckSt} (h : new ≠ .openDeck) (hb : new ≠ .blind) (c : DeckCause) (s : State) :
    (changeDeck new c s).dkc = { s.dkc with st := new } := by
  rw [changeDeck_eq, placeReport_dkc, deckAs_eq h hb]

theorem readyForResync_dkc {s : State} (h : s.dkc.lists = Vector.replicate 3 []) : (readyForResync s).dkc = { s.dkc with
    onDeck := 0, resyncOwed := false, listFull := false, overload := false
    timer := some (s.tbu.time + BitVec.ofNat 32 (s.sst.live.deck.resyncTime * 100000)) } := by
  have hlatch : latchOf s = false := by
    rw [latchOf, h]
    rfl
  have hready : readyForResync s = formOverload { s with dkc := { s.dkc with
      onDeck := 0, resyncOwed := false, timer := some (s.tbu.time + BitVec.ofNat 32 (s.sst.live.deck.resyncTime * 100000)) } } := rfl
  have hloaded : decide (latchOf s = true ∨ s.sst.live.deck.budget < 0) = false := by simp [hlatch]
  rw [hready, formOverload_eq]
  exact (congrArg₂ (fun a b => ({ s.dkc with
    onDeck := 0, resyncOwed := false, listFull := a, overload := b
    timer := some (s.tbu.time + BitVec.ofNat 32 (s.sst.live.deck.resyncTime * 100000)) } : DkcState)) hlatch hloaded :)

theorem clearedForResync_dkc (s : State) : (clearedForResync s).dkc = { resyncDkc s with st := s.dkc.st } := by
  have hsame := (SameB.foldl flushLane flushLane_same allLanes s).trans (cancelGrants_same _)
  have hflush := foldl_flushLane_dkc allLanes s
  dsimp only at hflush
  rw [flushAll_lists, flushAll_overstayGiven] at hflush
  have hcancel : (cancelGrants (allLanes.foldl flushLane s)).dkc = { s.dkc with
      queue := s.dkc.grants.map (·.id) ++ s.dkc.queue, grants := [], committed := 0, lists := Vector.replicate 3 []
      overstayGiven := Vector.replicate 3 false, onDeck := (allLanes.foldl flushLane s).dkc.onDeck } := by
    rw [cancelGrants_dkc, hflush]
  rw [clearedForResync, readyForResync_dkc (by rw [hcancel]), hcancel, hsame.tbu, hsame.sst]
  rfl

theorem enterResync_dkc (c : DeckCause) (s : State) : (enterResync c s).dkc = resyncDkc s := by
  rw [enterResync_eq, changeDeck_dkc (by decide) (by decide), clearedForResync_dkc]
  rfl

theorem enterResync_reported (c : DeckCause) (s : State) : DeckReported s.dkc.st c (enterResync c s) := by
  have h := changeDeck_reported .resync c (clearedForResync s)
  rwa [clearedForResync_st] at h

theorem enterResync_gone (c : DeckCause) {s : State} {l : Lane} {e : DeckEntry} {id : Nat} (he : e ∈ s.dkc.lists[l]) (h : e.recId = some id) :
    findRec (enterResync c s) id = none := by
  have hflush : findRec (allLanes.foldl flushLane s) id = none := foldl_flushLane_gone (mem_allLanes l) he h
  rw [enterResync_eq, clearedForResync]
  exact ((cancelGrants_deckMoves _).trans ((readyForResync_deckMoves _).trans (changeDeck_deckMoves _ _ _))).gone id hflush

/-- Every record of the ids that are queued again has the admission QUEUED. -/
theorem requeue_queued {ids : List Nat} {id : Nat} {v : VRecord} {s : State} (hid : id ∈ ids) (h : findRec (requeue ids s) id = some v) :
    v.admission = .queued := by
  have hstep : ∀ (k : Nat) (u : State) (w : VRecord), findRec (changeRec k (fun r => { r with admission := .queued }) u) id = some w →
      (k = id ∨ ∀ x, findRec u id = some x → x.admission = .queued) → w.admission = .queued := fun k u w hw hc => by
    rw [findRec_changeRec (f := fun r => { r with admission := .queued }) (fun _ => rfl)] at hw
    obtain ⟨x, hx, rfl⟩ := Option.map_eq_some_iff.mp hw
    split
    · rfl
    next hne => exact hc.elim (fun hk => absurd (beq_iff_eq.mpr ((findRec_id hx).trans hk.symm)) hne) fun ha => ha x hx
  have hfold : ∀ (ks : List Nat) (u : State), (id ∈ ks ∨ ∀ x, findRec u id = some x → x.admission = .queued) →
      ∀ w, findRec (requeue ks u) id = some w → w.admission = .queued := fun ks => by
    induction ks with
    | nil => exact fun u hu w hw => (hu.resolve_left (by simp)) w hw
    | cons k ks ih =>
      refine fun u hu w hw => ih _ ?_ w hw
      by_cases hks : id ∈ ks
      · exact .inl hks
      · refine .inr fun x hx => hstep k u x hx ?_
        rcases hu with hu | hu
        · exact .inl ((List.mem_cons.mp hu).resolve_right hks).symm
        · exact .inr hu
  exact hfold ids s (.inl hid) v h

theorem enterResync_queued (c : DeckCause) {s : State} {g : Grant} {v : VRecord} (hg : g ∈ s.dkc.grants)
    (h : findRec (enterResync c s) g.id = some v) : v.admission = .queued := by
  have hgrants : (allLanes.foldl flushLane s).dkc.grants = s.dkc.grants := by
    rw [foldl_flushLane_dkc]
  have hplaces := changeDeck_places .resync c (clearedForResync s)
  rw [deckAs_eq (by decide) (by decide)] at hplaces
  have hrtb : (enterResync c s).rtb = (requeue (s.dkc.grants.map (·.id)) (allLanes.foldl flushLane s)).rtb := by
    rw [enterResync_eq, hplaces.rtb, clearedForResync, cancelGrants_eq, hgrants]
    rfl
  rw [findRec, hrtb] at h
  exact requeue_queued (List.mem_map_of_mem hg) h

/-! ### The entry to BLIND (R146) -/

theorem clearedForBlind_st (s : State) : (clearedForBlind s).dkc.st = s.dkc.st := flushOut_st s

theorem enterBlind_reported (c : DeckCause) (s : State) : DeckReported s.dkc.st c (enterBlind c s) := by
  have h := changeDeck_reported .blind c (clearedForBlind s)
  rwa [clearedForBlind_st] at h

theorem changeDeck_granting (new : DeckSt) (c : DeckCause) (s : State) :
    (changeDeck new c s).dkc = (deckAs new s).dkc := by rw [changeDeck_eq, placeReport_dkc]

theorem changeDeck_lists (new : DeckSt) (c : DeckCause) (s : State) : (changeDeck new c s).dkc.lists = s.dkc.lists := by
  rw [changeDeck_granting, (deckAs_granting new s).lists]

theorem changeDeck_onDeck (new : DeckSt) (c : DeckCause) (s : State) : (changeDeck new c s).dkc.onDeck = s.dkc.onDeck := by
  rw [changeDeck_granting, (deckAs_granting new s).onDeck]

theorem changeDeck_timer (new : DeckSt) (c : DeckCause) (s : State) : (changeDeck new c s).dkc.timer = s.dkc.timer := by
  rw [changeDeck_granting, (deckAs_granting new s).timer]

theorem changeDeck_blind (new : DeckSt) (c : DeckCause) (s : State) : (changeDeck new c s).dkc.blind = s.dkc.blind := by
  rw [changeDeck_granting, (deckAs_granting new s).blind]

theorem changeDeck_resyncOwed (new : DeckSt) (c : DeckCause) (s : State) : (changeDeck new c s).dkc.resyncOwed = s.dkc.resyncOwed := by
  rw [changeDeck_granting, (deckAs_granting new s).resyncOwed]

theorem enterBlind_lists (c : DeckCause) (s : State) (l : Lane) :
    (enterBlind c s).dkc.lists[l] = if laneLoopOut s l then [] else s.dkc.lists[l] := by
  rw [enterBlind_eq, changeDeck_lists]
  exact flushOut_lists s l

theorem enterBlind_timer (c : DeckCause) (s : State) : (enterBlind c s).dkc.timer = none := by
  rw [enterBlind_eq, changeDeck_timer]
  rfl

theorem flushOut_dkc (s : State) : (flushOut s).dkc = { s.dkc with
    lists := (flushOut s).dkc.lists, onDeck := (flushOut s).dkc.onDeck, overstayGiven := (flushOut s).dkc.overstayGiven } :=
  foldl_flushLane_dkc _ s

theorem flushOut_blind (s : State) : (flushOut s).dkc.blind = s.dkc.blind := by rw [flushOut_dkc]

theorem flushOut_resyncOwed (s : State) : (flushOut s).dkc.resyncOwed = s.dkc.resyncOwed := by rw [flushOut_dkc]

theorem enterBlind_blind (c : DeckCause) (s : State) : (enterBlind c s).dkc.blind = s.dkc.blind := by
  rw [enterBlind_eq, changeDeck_blind]
  exact flushOut_blind s

theorem enterBlind_resyncOwed (c : DeckCause) (s : State) : (enterBlind c s).dkc.resyncOwed = s.dkc.resyncOwed := by
  rw [enterBlind_eq, changeDeck_resyncOwed]
  exact flushOut_resyncOwed s

/-! ### The end of RESTING (R145) -/

/-- The state at the end of RESTING before the deck takes what follows. -/
def rested (s : State) : State := formOverload { s with dkc.timer := none }

theorem endResting_eq (s : State) : endResting s =
    if s.dkc.blind then enterBlind .restEnd (rested s)
    else if s.dkc.resyncOwed then enterResync .restEnd (rested s)
    else if loadedNow s then changeDeck .overloaded .restEnd (rested s)
    else changeDeck .openDeck .restEnd (rested s) := by
  have hloaded : loadedNow s = (rested s).dkc.overload := (formOverload_overload _).symm
  rw [hloaded]
  rfl

theorem endResting_reported (s : State) : DeckReported s.dkc.st .restEnd (endResting s) := by
  have hst : (rested s).dkc.st = s.dkc.st := rfl
  rw [endResting_eq, ← hst]
  split
  · exact enterBlind_reported _ _
  · split
    · exact enterResync_reported _ _
    · split
      · exact changeDeck_reported _ _ _
      · exact changeDeck_reported _ _ _

/-- Where the deck goes at the end of RESTING, the first that applies (R145). -/
theorem endResting_goes (s : State) :
    let t := endResting s
    if s.dkc.blind = true then
      t.dkc.st = .blind ∧ t.dkc.timer = none ∧ ∀ l : Lane, t.dkc.lists[l] = if laneLoopOut s l then [] else s.dkc.lists[l]
    else if s.dkc.resyncOwed = true then t.dkc = resyncDkc (rested s)
    else if loadedNow s = true then t.dkc.st = .overloaded ∧ t.dkc.timer = none ∧ t.dkc.lists = s.dkc.lists ∧ t.dkc.onDeck = s.dkc.onDeck
    else t.dkc.st = .openDeck ∧ t.dkc.timer = none ∧ t.dkc.lists = s.dkc.lists ∧ t.dkc.onDeck = s.dkc.onDeck := by
  intro t
  have ht : t = _ := endResting_eq s
  rw [ht]
  split
  · exact ⟨changeDeck_st .blind _ _, enterBlind_timer _ _, enterBlind_lists _ _⟩
  · split
    · exact enterResync_dkc _ _
    · split
      · exact ⟨changeDeck_st _ _ _, changeDeck_timer _ _ _, changeDeck_lists _ _ _, changeDeck_onDeck _ _ _⟩
      · exact ⟨changeDeck_st _ _ _, changeDeck_timer _ _ _, changeDeck_lists _ _ _, changeDeck_onDeck _ _ _⟩

/-! ### The end of an isolation (R145) -/

theorem latchOf_idem {s t : State} (hl : t.dkc.lists = s.dkc.lists) (hf : t.dkc.listFull = latchOf s) : latchOf t = latchOf s := by
  simp only [latchOf, hl, hf]
  split
  · rfl
  · split <;> rfl

theorem loadedNow_congr {s t : State} (hl : t.dkc.lists = s.dkc.lists) (hf : t.dkc.listFull = latchOf s) (ho : t.dkc.onDeck = s.dkc.onDeck)
    (hs : t.sst = s.sst) : loadedNow t = loadedNow s := by
  rw [loadedNow, latchOf_idem hl hf, ho, hs, loadedNow]

theorem laneLoopOut_congr {s t : State} (hl : t.liu = s.liu) (hs : t.sst = s.sst) (l : Lane) : laneLoopOut t l = laneLoopOut s l := by
  simp only [laneLoopOut, inService, hl, hs]

/-- The state whose deck has begun RESTING, its timer running (R145). -/
def beginRest (s : State) : State := changeDeck .resting .isolationEnd
  { s with dkc := { s.dkc with timer := some (s.tbu.time + BitVec.ofNat 32 (s.sst.live.deck.restTime * 100000)) } }

theorem endIsolation_eq (s : State) :
    endIsolation s = if s.sst.live.deck.restTime = 0 then endResting (beginRest s) else beginRest s := rfl

theorem beginRest_dkc (s : State) : (beginRest s).dkc = { s.dkc with
    st := .resting, timer := some (s.tbu.time + BitVec.ofNat 32 (s.sst.live.deck.restTime * 100000)) } :=
  changeDeck_dkc (by decide) (by decide) _ _

theorem beginRest_same (s : State) : SameB s (beginRest s) :=
  SameB.trans (t := { s with dkc := { s.dkc with timer := some (s.tbu.time + BitVec.ofNat 32 (s.sst.live.deck.restTime * 100000)) } })
    (by constructor <;> rfl) (changeDeck_same _ _ _)

theorem beginRest_reported (s : State) : DeckReported s.dkc.st .isolationEnd (beginRest s) := changeDeck_reported _ _ _

/-- What an ISOLATED deck comes to at a review, in the terms of the claims. -/
theorem isolatedAfter_review {s : State} (h : s.dkc.st = .isolated) :
    IsolatedAfter s s.dkc.lists s.dkc.onDeck (DeckReported · · (deckReview s)) (deckReview s) := by
  rw [deckReview_isolated h]
  unfold IsolatedAfter
  dsimp only
  by_cases hn : noncompliantOnDeck s = true
  · rw [if_pos hn, if_pos ((noncompliantOnDeck_iff s).mp hn)]
    exact ⟨h, rfl, rfl⟩
  rw [if_neg hn, if_neg fun hc => hn ((noncompliantOnDeck_iff s).mpr hc), endIsolation_eq]
  have hdkc : (beginRest (formOverload s)).dkc = { s.dkc with
      st := .resting, listFull := latchOf s, overload := loadedNow s
      timer := some (s.tbu.time + BitVec.ofNat 32 (s.sst.live.deck.restTime * 100000)) } := by
    rw [beginRest_dkc, formOverload_eq]
  have hsame := (formOverload_same s).trans (beginRest_same (formOverload s))
  have hreported := beginRest_reported (formOverload s)
  generalize beginRest (formOverload s) = u at hdkc hsame hreported
  by_cases hrest : s.sst.live.deck.restTime = 0
  · have hzero : (formOverload s).sst.live.deck.restTime = 0 := hrest
    rw [if_pos hzero, if_neg (not_not.mpr hrest)]
    have hgoes := endResting_goes u
    have hrep := endResting_reported u
    have hload : loadedNow u = loadedNow s := loadedNow_congr (by rw [hdkc]) (by rw [hdkc]) (by rw [hdkc]) hsame.sst
    have hloaded : (loadedNow s = true) = (latchOf s = true ∨ s.sst.live.deck.budget < s.dkc.onDeck) := propext decide_eq_true_iff
    have hout : ∀ k, laneLoopOut u k = laneLoopOut s k := laneLoopOut_congr hsame.liu hsame.sst
    dsimp only at hgoes
    simp only [hload, hloaded, hout] at hgoes
    rw [hdkc] at hgoes hrep
    refine ⟨hrep, ?_⟩
    split
    next hb =>
      rw [if_pos hb] at hgoes
      exact ⟨hgoes.1, hgoes.2.2⟩
    next hb =>
      rw [if_neg hb] at hgoes
      split
      next ho =>
        rw [if_pos ho] at hgoes
        rw [hgoes]
        exact ⟨rfl, rfl, rfl, rfl, rfl⟩
      next ho =>
        rw [if_neg ho] at hgoes
        by_cases hl : latchOf s = true ∨ s.sst.live.deck.budget < s.dkc.onDeck
        · rw [if_pos hl] at hgoes
          exact (if_pos hl).mpr ⟨hgoes.1, hgoes.2.2⟩
        · rw [if_neg hl] at hgoes
          exact (if_neg hl).mpr ⟨hgoes.1, hgoes.2.2⟩
  · have hpos : ¬ (formOverload s).sst.live.deck.restTime = 0 := hrest
    rw [if_neg hpos, if_pos hrest, hdkc]
    refine ⟨rfl, ⟨rfl, rfl⟩, ?_, rfl⟩
    have hst : (formOverload s).dkc.st = .isolated := h
    rw [hst] at hreported
    exact hreported

/-- The Deck Controller's state without the deck signal, which every command forms afresh. -/
def sansSignal (d : DkcState) : DkcState := { d with signal := .allStop }

theorem isolatedAfter_mono {s x t u : State} {lists : Vector (List DeckEntry) 3} {n : Nat} {R R' : DeckSt → DeckCause → Prop}
    (h : IsolatedAfter x lists n R t) (htb : x.tbu = s.tbu) (hss : x.sst = s.sst)
    (hli : x.liu = s.liu) (hf : x.dkc.listFull = s.dkc.listFull) (hb : x.dkc.blind = s.dkc.blind)
    (ho : x.dkc.resyncOwed = s.dkc.resyncOwed) (hd : sansSignal u.dkc = sansSignal t.dkc) (hR : ∀ p c, R p c → R' p c) :
    IsolatedAfter s lists n R' u := by
  have hst : u.dkc.st = t.dkc.st := (congrArg (fun d : DkcState => d.st) hd :)
  have hlists : u.dkc.lists = t.dkc.lists := (congrArg (fun d : DkcState => d.lists) hd :)
  have honDeck : u.dkc.onDeck = t.dkc.onDeck := (congrArg (fun d : DkcState => d.onDeck) hd :)
  have hcommitted : u.dkc.committed = t.dkc.committed := (congrArg (fun d : DkcState => d.committed) hd :)
  have hgrants : u.dkc.grants = t.dkc.grants := (congrArg (fun d : DkcState => d.grants) hd :)
  have htimer : u.dkc.timer = t.dkc.timer := (congrArg (fun d : DkcState => d.timer) hd :)
  have hout : ∀ k, laneLoopOut x k = laneLoopOut s k := laneLoopOut_congr hli hss
  unfold IsolatedAfter at h ⊢
  dsimp only at h ⊢
  simp only [hf, hb, ho, hss, htb, hout] at h
  rw [hst, hlists, honDeck, hcommitted, hgrants, htimer]
  split at h
  next hn =>
    rw [if_pos hn]
    exact h
  next hn =>
    rw [if_neg hn]
    split at h
    next hr =>
      obtain ⟨hresting, haccount, hreported, hends⟩ := h
      rw [if_pos hr]
      exact ⟨hresting, haccount, hR _ _ hreported, hends⟩
    next hr =>
      obtain ⟨hreported, hgoes⟩ := h
      rw [if_neg hr]
      exact ⟨hR _ _ hreported, hgoes⟩

/-! ### A review of a deck that is not ISOLATED, or stays so -/

/-- What grants leave of the account and of the records: the ids granted are the first of the queue, in order, their loads are reserved, and a
record stands but for its admission, with its admission where it has no grant. -/
structure Granted (s t : State) : Prop where
  account : ∃ n new, n ≤ s.dkc.queue.length ∧ t.dkc.grants = s.dkc.grants ++ new ∧ new.map (·.id) = s.dkc.queue.take n ∧
    t.dkc.queue = s.dkc.queue.drop n ∧ t.dkc.committed = s.dkc.committed + (new.map (·.load)).sum
  stands  : ∀ id r, findRec s id = some r → ∃ a, findRec t id = some { r with admission := a } ∧
    (id ∉ t.dkc.grants.map (·.id) → a = r.admission)

theorem Granted.refl (s : State) : Granted s s :=
  ⟨⟨0, [], Nat.zero_le _, (List.append_nil _).symm, rfl, rfl, rfl⟩, fun _ r h => ⟨r.admission, h, fun _ => rfl⟩⟩

theorem Granted.of_eq {s t u : State} (h : Granted s t) (hd : u.dkc = t.dkc) (hr : u.rtb = t.rtb) : Granted s u where
  account := by
    rw [hd]
    exact h.account
  stands id r hid := by
    rw [findRec, hr, hd]
    exact h.stands id r hid

theorem grantHead_granted {s : State} {id u : Nat} {others : List Nat} (h : s.dkc.queue = id :: others) : Granted s (grantHead id u s) := by
  refine ⟨⟨1, _, by rw [h]; simp, rfl, by rw [h]; rfl, by rw [h]; exact congrArg List.tail h, by rw [List.map_singleton, List.sum_singleton]; rfl⟩,
    fun k r hk => ?_⟩
  have hfind : findRec (grantHead id u s) k = (findRec s k).map fun r => if r.id == id then { r with admission := .granted } else r :=
    findRec_changeRec (f := fun r => { r with admission := .granted }) (fun _ => rfl) id k _
  rw [hfind, hk, Option.map_some]
  by_cases hid : r.id = id
  · rw [if_pos (beq_iff_eq.mpr hid)]
    refine ⟨.granted, rfl, fun hn => absurd ?_ hn⟩
    have hin : (⟨id, s.now, u, after s.now (secs s.sst.live.deck.grantTtl)⟩ : Grant) ∈ (grantHead id u s).dkc.grants :=
      List.mem_append_right _ (List.mem_singleton_self _)
    rw [show k = id from (findRec_id hk).symm.trans hid]
    exact List.mem_map_of_mem (f := fun g : Grant => g.id) hin
  · rw [if_neg fun hb => hid (beq_iff_eq.mp hb)]
    exact ⟨r.admission, rfl, fun _ => rfl⟩

theorem Granted.trans {s t u : State} (h : Granted s t) (k : Granted t u) : Granted s u := by
  obtain ⟨n, new, hn, hg, hids, hq, hc⟩ := h.account
  obtain ⟨m, more, hm, kg, kids, kq, kc⟩ := k.account
  refine ⟨⟨n + m, new ++ more, ?_, ?_, ?_, ?_, ?_⟩, fun id r hid => ?_⟩
  · rw [hq, List.length_drop] at hm
    omega
  · rw [kg, hg, List.append_assoc]
  · rw [List.map_append, hids, kids, hq, List.take_add]
  · rw [kq, hq, List.drop_drop]
  · rw [kc, hc, List.map_append, List.sum_append, Nat.add_assoc]
  · obtain ⟨a, ha, hsame⟩ := h.stands id r hid
    obtain ⟨b, hb, ksame⟩ := k.stands id _ ha
    refine ⟨b, hb, fun hnot => (ksame hnot).trans (hsame fun hin => hnot ?_)⟩
    rw [kg, List.map_append]
    exact List.mem_append_left _ hin

theorem headUpper_queue {s : State} {id u : Nat} (h : headUpper s = some (id, u)) : ∃ others, s.dkc.queue = id :: others := by
  rw [headUpper] at h
  obtain ⟨k, hk, h⟩ := Option.bind_eq_some_iff.mp h
  obtain ⟨r, -, h⟩ := Option.bind_eq_some_iff.mp h
  obtain ⟨v, -, h⟩ := Option.map_eq_some_iff.mp h
  obtain ⟨rfl, -⟩ := Prod.mk.inj h
  exact List.head?_eq_some_iff.mp hk

theorem arbitrateUpTo_granted (n : Nat) (s : State) : Granted s (arbitrateUpTo n s) := by
  induction n generalizing s with
  | zero => exact .refl s
  | succ n ih =>
    rw [arbitrateUpTo]
    split
    next id u hh =>
      obtain ⟨others, hq⟩ := headUpper_queue hh
      split
      · exact (grantHead_granted hq).trans (ih _)
      · exact .refl s
    next => exact .refl s

theorem arbitrate_granted (s : State) : Granted s (arbitrate s) := arbitrateUpTo_granted _ s

/-- What a review of the deck leaves where no isolation ends by it: lists, load and causes, pool order, history and the condition table. -/
structure Reviewed (s t : State) : Prop where
  lists    : t.dkc.lists = s.dkc.lists
  onDeck   : t.dkc.onDeck = s.dkc.onDeck
  given    : t.dkc.overstayGiven = s.dkc.overstayGiven
  history  : t.rtb.history = s.rtb.history
  conds    : t.cmn.conds = s.cmn.conds
  granted  : Granted s t
  moved    : t.dkc.st ≠ s.dkc.st → (s.dkc.st = .openDeck ∧ t.dkc.st = .overloaded ∧ DeckReported .openDeck .overload t) ∨
    (s.dkc.st = .overloaded ∧ t.dkc.st = .openDeck ∧ DeckReported .overloaded .overloadEnd t)

theorem reviewed_of_granting {s t : State} (h : Granting (formOverload s) t) (g : Granted (formOverload s) t) : Reviewed s t where
  lists := h.lists
  onDeck := h.onDeck
  given := h.overstayGiven
  history := (congrArg (fun u : State => u.rtb.history) h :)
  conds := h.conds
  granted := ⟨g.account, g.stands⟩
  moved hne := absurd h.st hne

theorem reviewed_of_changeDeck {s : State} {new : DeckSt} {cause : DeckCause}
    (h : (s.dkc.st = .openDeck ∧ new = .overloaded ∧ cause = .overload) ∨ (s.dkc.st = .overloaded ∧ new = .openDeck ∧ cause = .overloadEnd)) :
    Reviewed s (changeDeck new cause (formOverload s)) := by
  have hgrant := deckAs_granting new (formOverload s)
  have hplaces := changeDeck_places new cause (formOverload s)
  have hreported := changeDeck_reported new cause (formOverload s)
  have hst := changeDeck_st new cause (formOverload s)
  refine ⟨changeDeck_lists _ _ _, changeDeck_onDeck _ _ _, ?_, ?_, hplaces.conds.trans hgrant.conds, ?_, fun _ => ?_⟩
  · rw [changeDeck_granting, hgrant.overstayGiven]
    rfl
  · rw [hplaces.rtb]
    exact (congrArg (fun u : State => u.rtb.history) hgrant :)
  · have hgranted : Granted (formOverload s) (deckAs new (formOverload s)) := by
      have harb := arbitrate_granted { formOverload s with dkc := { (formOverload s).dkc with st := new } }
      exact ⟨harb.account, harb.stands⟩
    have heq := hgranted.of_eq (changeDeck_granting _ _ _) hplaces.rtb
    exact ⟨heq.account, heq.stands⟩
  · rcases h with ⟨h, rfl, rfl⟩ | ⟨h, rfl, rfl⟩
    · exact .inl ⟨h, hst, h ▸ hreported⟩
    · exact .inr ⟨h, hst, h ▸ hreported⟩

/-- A review by which no isolation ends. -/
theorem deckReview_reviewed {s : State} (h : s.dkc.st = .isolated → noncompliantOnDeck s = true) : Reviewed s (deckReview s) := by
  have hform : Reviewed s (formOverload s) := reviewed_of_granting (.refl _) (.refl _)
  cases hst : s.dkc.st with
  | openDeck =>
    rw [deckReview_open hst]
    split
    · exact reviewed_of_changeDeck (.inl ⟨hst, rfl, rfl⟩)
    · exact reviewed_of_granting (arbitrate_granting _) (arbitrate_granted _)
  | overloaded =>
    rw [deckReview_overloaded hst]
    split
    · exact hform
    · exact reviewed_of_changeDeck (.inr ⟨hst, rfl, rfl⟩)
  | isolated =>
    rw [deckReview_isolated hst, if_pos (h hst)]
    exact hform
  | blind =>
    rw [deckReview_blind hst]
    exact reviewed_of_granting (arbitrate_granting _) (arbitrate_granted _)
  | resync =>
    rw [deckReview_stays (.inl hst)]
    exact hform
  | resting =>
    rw [deckReview_stays (.inr (.inl hst))]
    exact hform
  | closed =>
    rw [deckReview_stays (.inr (.inr hst))]
    exact hform

end Sys2Proof.Machine
end

section
/-! SUPPORT. The removal of the head of a deck order list (R139, R141), and the settling of what the claims say of the deck's entries, exits,
flushes and changes of state. -/

namespace Sys2Proof.Machine

open Sys2Proof.Safety

/-! ### The end of a command -/

/-- What outputs do not touch is the same once they are formed. -/
theorem settled_same (s : State) {α : Type} (f : State → α) (hf : ∀ u, f (sansOutputs u) = f u) : f (settle s) = f s := by
  rw [← hf, (settle_formedFrom s).rest, hf]

theorem signalOf_sansSignal {s t : State} (h : sansSignal t.dkc = sansSignal s.dkc) : signalOf t = signalOf s := by
  have hs : ∀ u : State, signalOf u = signalOf { u with dkc := sansSignal u.dkc } := fun _ => rfl
  rw [hs t, hs s, signalOf_congr (s := { s with dkc := sansSignal s.dkc }) h]

/-- A DECK report stands while deck state, time and reports stand. -/
theorem deckReported_stands {prev : DeckSt} {cause : DeckCause} {s t : State} (h : DeckReported prev cause s)
    (hd : sansSignal t.dkc = sansSignal s.dkc) (ht : t.tbu = s.tbu) (hr : reportPath t = reportPath s) : DeckReported prev cause t := by
  have hst : t.dkc.st = s.dkc.st := (congrArg (fun d : DkcState => d.st) hd :)
  have honDeck : t.dkc.onDeck = s.dkc.onDeck := (congrArg (fun d : DkcState => d.onDeck) hd :)
  have hcommitted : t.dkc.committed = s.dkc.committed := (congrArg (fun d : DkcState => d.committed) hd :)
  have hqueue : t.dkc.queue = s.dkc.queue := (congrArg (fun d : DkcState => d.queue) hd :)
  rw [DeckReported, hr, signalOf_sansSignal hd, hst, honDeck, hcommitted, hqueue, ht]
  exact h

theorem deckReported_settled {prev : DeckSt} {cause : DeckCause} {s : State} (h : DeckReported prev cause s) :
    DeckReported prev cause (settle s) :=
  deckReported_stands h (settled_same s (fun u => sansSignal u.dkc) fun _ => rfl) (settled_same s State.tbu fun _ => rfl)
    (settled_same s reportPath fun _ => rfl)

/-- What the answer to a request taken leaves: the rest as it was, the answer last on its path, and the reports. -/
structure Replied (a : Answer) (s t : State) : Prop where
  formed   : Formed t
  rest     : sansLink (sansOutputs t) = sansLink (sansOutputs s)
  requests : t.lki.requests = s.lki.requests
  answers  : answerPath t = answerPath s ++ [a]
  reports  : reportPath t = reportPath s

theorem reply_replied (r : Request) (code : StatusCode) (body : AnswerBody) {s : State} (h : s.lki.heldCommit = none → s.lki.behind = []) :
    Replied ⟨r.type + 0x80, r.tag, code, body⟩ s (settle (reply r code body s)) := by
  obtain ⟨hans, hreps, hrest, hreq, -⟩ := giveAnswer_spec ⟨r.type + 0x80, r.tag, code, body⟩ s h
  exact ⟨(settle_formedFrom _).formed, (congrArg sansLink (settle_formedFrom _).rest).trans (congrArg sansOutputs hrest :),
    (settled_same _ (·.lki.requests) fun _ => rfl).trans hreq, (settled_same _ answerPath fun _ => rfl).trans hans,
    (settled_same _ reportPath fun _ => rfl).trans hreps⟩

namespace Replied

variable {a : Answer} {s t : State} (h : Replied a s t)

include h

theorem same {α : Type} (f : State → α) (hf : ∀ u, f (sansLink (sansOutputs u)) = f u) : f t = f s := by rw [← hf, h.rest, hf]

theorem dkc : sansSignal t.dkc = sansSignal s.dkc := h.same (fun u => sansSignal u.dkc) fun _ => rfl

theorem tbu : t.tbu = s.tbu := h.same State.tbu fun _ => rfl

theorem rtb : t.rtb = s.rtb := h.same State.rtb fun _ => rfl

theorem deckReported {prev : DeckSt} {cause : DeckCause} (k : DeckReported prev cause s) : DeckReported prev cause t :=
  deckReported_stands k h.dkc h.tbu h.reports

end Replied

/-! ### The removal of the head (R139, R141) -/

theorem heavyLoad_eq (e : DeckEntry) : heavyLoad e = if e.kind = .heavy then e.load else 0 := by
  simp only [heavyLoad, beq_iff_eq]

theorem watchHead_dkc (l : Lane) (s : State) : (watchHead l s).dkc = { s.dkc with overstayGiven := (watchHead l s).dkc.overstayGiven } := by
  unfold watchHead
  split
  · rw [(giveCause_same _ _ _).dkc]
  · rfl

theorem headChanged_dkc (l : Lane) (s : State) :
    (headChanged l s).dkc = { s.dkc with overstayGiven := (headChanged l s).dkc.overstayGiven } := by
  unfold headChanged
  rw [watchHead_dkc]
  split
  · rw [giveClear_dkc]
  · rfl

theorem watchHead_rtb (l : Lane) (s : State) : (watchHead l s).rtb = s.rtb := by
  unfold watchHead
  split
  · rw [(giveCause_same _ _ _).rtb]
  · rfl

theorem headChanged_rtb (l : Lane) (s : State) : (headChanged l s).rtb = s.rtb := by
  unfold headChanged
  rw [watchHead_rtb]
  split
  · rw [(giveClear_same _ _).rtb]
  · rfl

/-- The state after the head has left lane l's list, before the review. -/
def headOff (l : Lane) (d : Disposition) (e : DeckEntry) (es : List DeckEntry) (s : State) : State :=
  headChanged l (releaseEntry l d e { s with dkc := { s.dkc with lists := put s.dkc.lists l es } })

section Head

variable {l : Lane} {e : DeckEntry} {es : List DeckEntry} {s : State}

theorem removeHead_eq (h : s.dkc.lists[l] = e :: es) (d : DeckEntry → Disposition) :
    removeHead l d s = deckReview (headOff l (d e) e es s) := by
  rw [removeHead, h]
  rfl

theorem headOff_dkc (d : Disposition) : (headOff l d e es s).dkc = { s.dkc with
    lists := put s.dkc.lists l es, onDeck := s.dkc.onDeck - heavyLoad e
    overstayGiven := (headOff l d e es s).dkc.overstayGiven } := by
  unfold headOff
  rw [headChanged_dkc, releaseEntry_dkc]
  rfl

theorem headOff_deckMoves (d : Disposition) : DeckMoves s (headOff l d e es s) :=
  ((releaseEntry_deckMoves l d e _).trans (headChanged_deckMoves l _)).after rfl rfl rfl rfl

theorem headOff_same (d : Disposition) : SameB s (headOff l d e es s) :=
  SameB.trans (t := { s with dkc := { s.dkc with lists := put s.dkc.lists l es } }) (by constructor <;> rfl)
    ((releaseEntry_same l d e _).trans (headChanged_same l _))

theorem headOff_rtb (d : Disposition) :
    (headOff l d e es s).rtb = (releaseEntry l d e { s with dkc := { s.dkc with lists := put s.dkc.lists l es } }).rtb := headChanged_rtb _ _

/-- The removal of the head, with the review that follows. -/
structure HeadRemoved (l : Lane) (d : Disposition) (e : DeckEntry) (es : List DeckEntry) (s t : State) : Prop where
  same     : SameB s t
  moves    : DeckMoves s t
  gone     : ∀ id, e.recId = some id → findRec t id = none
  stays    : s.dkc.st ≠ .isolated → Reviewed (headOff l d e es s) t
  isolated : s.dkc.st = .isolated → IsolatedAfter s (put s.dkc.lists l es) (s.dkc.onDeck - if e.kind = .heavy then e.load else 0)
               (DeckReported · · t) t
  closed   : ∀ id r, e.recId = some id → findRec s id = some r → s.rtb.pool.length + s.rtb.history.length ≤ 64 →
               summaryOf r d s.tbu.time ∈ t.rtb.history

theorem removeHead_removed (h : s.dkc.lists[l] = e :: es) (d : DeckEntry → Disposition) :
    HeadRemoved l (d e) e es s (removeHead l d s) := by
  rw [removeHead_eq h]
  have hdkc := headOff_dkc (l := l) (e := e) (es := es) (s := s) (d e)
  have hsame := headOff_same (l := l) (e := e) (es := es) (s := s) (d e)
  have hmoves := headOff_deckMoves (l := l) (e := e) (es := es) (s := s) (d e)
  have hrtb := headOff_rtb (l := l) (e := e) (es := es) (s := s) (d e)
  generalize hv : headOff l (d e) e es s = v at hdkc hsame hmoves hrtb
  have hst : v.dkc.st = s.dkc.st := by rw [hdkc]
  refine ⟨hsame.trans (deckReview_same v), hmoves.trans (deckReview_deckMoves v), fun id hid => ?_, fun hn => ?_, fun hi => ?_,
    fun id r hid hr hs => ?_⟩
  · refine (deckReview_deckMoves v).gone id ?_
    rw [findRec, hrtb, ← findRec, findRec_releaseEntry, if_pos hid]
  · rw [hv]
    exact deckReview_reviewed fun hi => absurd (hst.symm.trans hi) hn
  · have hafter := isolatedAfter_review (hst.trans hi)
    have hlists : v.dkc.lists = put s.dkc.lists l es := by rw [hdkc]
    have hload : v.dkc.onDeck = s.dkc.onDeck - if e.kind = .heavy then e.load else 0 := by rw [hdkc, heavyLoad_eq]
    rw [hlists, hload] at hafter
    exact isolatedAfter_mono hafter hsame.tbu hsame.sst hsame.liu (by rw [hdkc]) (by rw [hdkc]) (by rw [hdkc]) rfl fun _ _ hr => hr
  · have hin : summaryOf r (d e) s.tbu.time ∈ v.rtb.history := by
      rw [hrtb]
      exact mem_releaseEntry_history (s := { s with dkc := { s.dkc with lists := put s.dkc.lists l es } }) hid hr hs
    exact (deckReview_deckMoves v).kept (hmoves.size.trans hs) _ hin

/-- The history after the head has left a list: the summary of the record that it refers to, where the pool holds that. -/
theorem headOff_history (d : Disposition) {id : Nat} {r : VRecord} (hid : e.recId = some id) (hr : findRec s id = some r) :
    (headOff l d e es s).rtb.history = insertHistory (summaryOf r d s.tbu.time) s.rtb.history := by
  rw [headOff_rtb, releaseEntry_named_rtb hid]
  exact closeRecord_history (s := unloaded e { s with dkc := { s.dkc with lists := put s.dkc.lists l es } }) hr d

theorem headOff_history_unnamed (d : Disposition) (hid : e.recId = none) : (headOff l d e es s).rtb.history = s.rtb.history := by
  rw [headOff_rtb, releaseEntry_unnamed hid]
  rfl

end Head

theorem lanePresent_iff (st : Settings) (l : Lane) : lanePresent st l = true ↔ l.val < st.site.laneCount := decide_eq_true_iff

section ClearHead

variable {r : Request} {l : Lane} {s : State} (hl : l.val = byteAt r.payload 0)

include hl

theorem answerClearHead_absent (h : s.sst.live.site.laneCount ≤ l.val) : answerClearHead r s = refuse r .badValue s := by
  have hp : lanePresent s.sst.live l = false := decide_eq_false (not_lt.mpr h)
  rw [answerClearHead, laneAt_of_val hl]
  simp only [hp, Bool.not_false, if_true]

theorem answerClearHead_empty (h : l.val < s.sst.live.site.laneCount) (he : s.dkc.lists[l] = []) :
    answerClearHead r s = refuse r .state s := by
  have hp : lanePresent s.sst.live l = true := decide_eq_true h
  rw [answerClearHead, laneAt_of_val hl]
  simp only [hp, Bool.not_true, Bool.false_eq_true, if_false, he, List.isEmpty_nil, if_true]

theorem answerClearHead_head {e : DeckEntry} {es : List DeckEntry} (h : l.val < s.sst.live.site.laneCount) (he : s.dkc.lists[l] = e :: es) :
    answerClearHead r s = accept r (removeHead l (fun _ => .operatorCleared) s) := by
  have hp : lanePresent s.sst.live l = true := decide_eq_true h
  rw [answerClearHead, laneAt_of_val hl]
  simp only [hp, Bool.not_true, Bool.false_eq_true, if_false, he, List.isEmpty_cons]

end ClearHead

/-! ### The cause of a spurious exit (R139, R157) -/

/-- The state with the times of the spurious exits given. -/
def withDesyncTimes (times : List StoredTime) (s : State) : State := { s with cmn.desyncTimes := times }

theorem desyncCause_places (s : State) :
    let times := keepNewest 3 (s.cmn.desyncTimes ++ [⟨s.tbu.time, false⟩])
    let e := causedEntry (recentRun 3 60000000 s.tbu.time times) s.tbu.time s.cmn.conds[desyncIx]
    Places (changeReports desyncIx e s) (withEntry desyncIx e (withDesyncTimes times s)) (desyncCause s) := by
  intro times e
  exact ((Places.refl s).map (withDesyncTimes times) (fun _ => rfl) (fun _ => rfl) fun _ => rfl).caused desyncIx _ _

/-- The newest three of the times with one more. -/
theorem keepNewest_three {α : Type} (xs : List α) (x : α) : keepNewest 3 (xs ++ [x]) = List.drop (xs.length - 2) (xs ++ [x]) := by
  rw [keepNewest, List.length_append, List.length_singleton]
  congr 1

theorem laneLoopOut_iff (s : State) (l : Lane) :
    laneLoopOut s l = true ↔ inService s (eLoop l) = false ∨ inService s (xLoop l) = false := by
  rw [laneLoopOut, Bool.or_eq_true, Bool.not_eq_true', Bool.not_eq_true']

theorem desyncNotice_closed {s : State} (h : s.dkc.st = .closed) : desyncNotice s = s := by
  rw [desyncNotice, h]

theorem desyncNotice_enters {s : State} (h : s.dkc.st ≠ .closed) (hr : s.dkc.st ≠ .resync) :
    desyncNotice s = enterResync .desyncFault s := by
  unfold desyncNotice
  cases hst : s.dkc.st with
  | closed => exact absurd hst h
  | resync => exact absurd hst hr
  | openDeck | isolated | resting | overloaded | blind => rfl

end Sys2Proof.Machine

namespace Sys2Proof.Proofs

open Sys2Proof.Machine
open Sys2Proof.Safety

/-- Settles O51: the refusals in their order, and the removal of the head with its review. -/
theorem deckClearsHead : Obligations.DeckClearsHead := by
  unfold Obligations.DeckClearsHead
  intro r s h hl hkey
  refine ⟨_, serve_keyed h (by simp [hl]) hkey, fun hlarge => ?_, fun l hlane => ⟨fun habsent => ?_, fun hpresent hempty => ?_,
    fun e es hpresent hlist => ?_⟩⟩
  · rw [answerClearHead, laneAt_of_large hlarge]
    exact refuse_of_asks h .badValue
  · rw [answerClearHead_absent (s := dropRequest s) hlane habsent]
    exact refuse_of_asks h .badValue
  · rw [answerClearHead_empty (s := dropRequest s) hlane hpresent hempty]
    exact refuse_of_asks h .state
  · rw [answerClearHead_head (s := dropRequest s) hlane hpresent hlist]
    have hremoved : HeadRemoved l .operatorCleared e es (dropRequest s) (removeHead l (fun _ => .operatorCleared) (dropRequest s)) :=
      removeHead_removed (s := dropRequest s) hlist fun _ => .operatorCleared
    have hkeeps := removeHead_keeps l (fun _ => .operatorCleared) (dropRequest s)
    have hheld : ∀ u, Keeps (dropRequest s) u → u.lki.heldCommit = none → u.lki.behind = [] := fun u hu hc => by
      rw [hu.behind]
      exact h.queues.held (hu.held ▸ hc)
    have hreplied := reply_replied r .ok .empty (hheld _ hkeeps)
    generalize removeHead l (fun _ => .operatorCleared) (dropRequest s) = u at hremoved hkeeps hreplied
    have haccept : settle (accept r u) = settle (reply r .ok .empty u) := rfl
    rw [haccept]
    generalize settle (reply r .ok .empty u) = t at hreplied
    refine ⟨hreplied.formed, hreplied.requests.trans hkeeps.requests, ?_, fun id hid => ?_, fun id v hid hv hs => ?_, fun hi => ?_, fun hn => ?_,
      ?_, ?_, ?_, ?_, ?_, ?_, ?_, ?_⟩
    · exact hreplied.answers.trans (congrArg (· ++ _) hremoved.moves.answers)
    · rw [findRec, hreplied.rtb]
      exact hremoved.gone id hid
    · refine ⟨summaryOf v .operatorCleared s.tbu.time, ?_, findRec_id hv, rfl, rfl⟩
      rw [hreplied.rtb]
      exact hremoved.closed id v hid hv hs
    · exact isolatedAfter_mono (hremoved.isolated hi) rfl rfl rfl rfl rfl rfl hreplied.dkc fun _ _ => hreplied.deckReported
    · have hrev := hremoved.stays hn
      refine ⟨?_, ?_, fun id v hid hv => ?_⟩
      · exact (congrArg (fun d : DkcState => d.lists) hreplied.dkc :).trans (hrev.lists.trans (by rw [headOff_dkc]; rfl))
      · exact (congrArg (fun d : DkcState => d.onDeck) hreplied.dkc :).trans (hrev.onDeck.trans (by rw [headOff_dkc, heavyLoad_eq]; rfl))
      · rw [hreplied.rtb, hrev.history]
        exact headOff_history (s := dropRequest s) .operatorCleared hid hv
    · exact hreplied.tbu.trans hremoved.same.tbu
    · exact (hreplied.same State.csq fun _ => rfl).trans hremoved.same.csq
    · exact (hreplied.same State.scu fun _ => rfl).trans hremoved.same.scu
    · exact (hreplied.same State.zsc fun _ => rfl).trans hremoved.same.zsc
    · exact (hreplied.same State.liu fun _ => rfl).trans hremoved.same.liu
    · exact (hreplied.same State.rtk fun _ => rfl).trans hremoved.same.rtk
    · exact (hreplied.same State.trs fun _ => rfl).trans hremoved.same.trs
    · exact (hreplied.same (·.sst.live) fun _ => rfl).trans (by rw [hremoved.same.sst]; rfl)

/-- Settles O33: the removal of the head, and on an empty list the cause with the entry to RESYNC that a third brings. -/
theorem exitRemovesHead : Obligations.ExitRemovesHead := by
  unfold Obligations.ExitRemovesHead
  intro l s
  refine ⟨fun e es hlist hn => ?_, fun e es hlist hi => ?_, fun hempty => ?_⟩
  · have hexit : exitArrive l s = removeHead l exitDisposition s := by rw [exitArrive, hlist]
    have hremoved := removeHead_removed hlist exitDisposition
    rw [hexit]
    have hrev := hremoved.stays hn
    refine ⟨hrev.lists.trans (by rw [headOff_dkc]), hrev.onDeck.trans (by rw [headOff_dkc, heavyLoad_eq]), fun hst => ?_, fun id r hid hr => ⟨?_, ?_⟩,
      fun hid => ?_⟩
    · have hsame : (headOff l (exitDisposition e) e es s).dkc.st = s.dkc.st := by rw [headOff_dkc]
      have hmoved := hrev.moved
      rw [hsame] at hmoved
      exact hmoved hst
    · exact hremoved.gone id hid
    · exact hrev.history.trans (headOff_history _ hid hr)
    · exact hrev.history.trans (headOff_history_unnamed _ hid)
  · have hexit : exitArrive l s = removeHead l exitDisposition s := by rw [exitArrive, hlist]
    have hremoved := removeHead_removed hlist exitDisposition
    rw [hexit]
    exact ⟨fun id r hid hr => ⟨hremoved.gone id hid, fun hs => ⟨_, hremoved.closed id r hid hr hs, findRec_id hr, rfl, rfl⟩⟩,
      hremoved.isolated hi⟩
  · intro spared
    have hspared : (s.dkc.st == .resync || laneLoopOut s l) = true ↔ spared := by
      rw [Bool.or_eq_true, beq_iff_eq, laneLoopOut_iff]
    have hexit : exitArrive l s = if s.dkc.st == .resync || laneLoopOut s l then s else spuriousExit s := by rw [exitArrive, hempty]
    refine ⟨fun h => hexit.trans (if_pos (hspared.mpr h)), fun h => ?_⟩
    have hnr : s.dkc.st ≠ .resync := fun hr => h (.inl hr)
    rw [hexit, if_neg fun hc => h (hspared.mp hc)]
    intro times third e y faulted
    obtain ⟨hplaces, hfault⟩ : Places (changeReports desyncIx e s) y (desyncCause s) ∧
        (inFault (desyncCause s) desyncIx = true ↔ e.st = .fault) := by
      have hp := desyncCause_places s
      rw [keepNewest_three] at hp
      refine ⟨hp, ?_⟩
      rw [inFault, hp.conds, withEntry_conds_self, beq_iff_eq]
      exact Iff.rfl
    have hfaulted : (!inFault s desyncIx && inFault (desyncCause s) desyncIx) = true ↔ faulted := by
      rw [Bool.and_eq_true, Bool.not_eq_true', hfault, inFault, beq_eq_false_iff_ne]
    have hsame := desyncCause_same s
    refine ⟨fun hc => ?_, fun hf hnc => ?_⟩
    · rcases hc with hc | hc
      · rw [spuriousExit, if_neg fun hb => hc (hfaulted.mp hb)]
        exact hplaces.toPlacedFrom
      · rw [spuriousExit, desyncNotice_closed (by rw [hsame.dkc]; exact hc), ite_self]
        exact hplaces.toPlacedFrom
    · rw [spuriousExit, if_pos (hfaulted.mpr hf), desyncNotice_enters (by rw [hsame.dkc]; exact hnc) (by rw [hsame.dkc]; exact hnr)]
      have hdkc := enterResync_dkc .desyncFault (desyncCause s)
      have hmoves := enterResync_deckMoves .desyncFault (desyncCause s)
      have hreported := enterResync_reported .desyncFault (desyncCause s)
      rw [resyncDkc, hsame.dkc, hsame.tbu, hsame.sst] at hdkc
      rw [hsame.dkc] at hreported
      refine ⟨by rw [hdkc], by rw [hdkc], by rw [hdkc], by rw [hdkc], by rw [hdkc], by rw [hdkc], by rw [hdkc], by rw [hdkc], by rw [hdkc],
        by rw [hdkc], fun k x hx id hid => ?_, fun g hg v hv => ?_, ?_, ?_, hreported⟩
      · exact enterResync_gone _ (s := desyncCause s) (l := k) (by rw [hsame.dkc]; exact hx) hid
      · exact enterResync_queued _ (s := desyncCause s) (by rw [hsame.dkc]; exact hg) hv
      · rw [hmoves.conds _ desyncIx_not_deckIx, hplaces.conds]
        exact withEntry_conds_self _ _ _
      · have htimes : (desyncCause s).cmn.desyncTimes = times := hplaces.same (·.cmn.desyncTimes) fun _ => rfl
        exact hmoves.desyncTimes.trans htimes

end Sys2Proof.Proofs
end

section
/-! SUPPORT. Proofs about the flush and the blind condition (R142, R146), the ends of RESYNC and RESTING (R143, R145), DECK_CLOSE and
DECK_RELEASE (R147), and the verdict on a ghost (R137). -/

namespace Sys2Proof.Machine

open Sys2Proof.Safety

/-! ### The blind condition (R142) -/

theorem blindNow_iff (s : State) : blindNow s = true ↔ ∃ l : Lane, laneModeOf s l ≠ .closed ∧
    (inService s (eLoop l) = false ∨ inService s (xLoop l) = false) := by
  simp only [blindNow, List.any_eq_true, mem_allLanes, true_and, Bool.and_eq_true, bne_iff_ne, Bool.or_eq_true, Bool.not_eq_true']

/-- The state with the blind condition formed afresh. -/
def withBlind (b : Bool) (s : State) : State := { s with dkc.blind := b }

theorem withBlind_self {b : Bool} {s : State} (h : s.dkc.blind = b) : withBlind b s = s := by
  rw [← h]
  rfl

/-- The state with a resync owed. -/
def owing (s : State) : State := { s with dkc.resyncOwed := true }

section Blind

variable {s : State} {further : Bool}

theorem reviewBlind_holds (h : blindNow s = true) : reviewBlind further s =
    if !s.dkc.blind then blindBegins (withBlind true s)
    else if further then deckReview (flushOut (withBlind true s)) else withBlind true s := by
  simp only [reviewBlind, h, if_true, withBlind]

theorem reviewBlind_ceased (h : blindNow s = false) : reviewBlind further s =
    if s.dkc.blind && s.dkc.st == .blind then enterResync .blindEnd (withBlind false s) else withBlind false s := by
  simp only [reviewBlind, h, Bool.false_eq_true, if_false, withBlind]

/-- While the blind condition holds a review keeps it, owes what it owed, and leaves an empty list empty. -/
structure StaysBlind (s t : State) : Prop where
  blind : t.dkc.blind = true
  owed  : t.dkc.resyncOwed = s.dkc.resyncOwed
  empty : ∀ l : Lane, s.dkc.lists[l] = [] → t.dkc.lists[l] = []

theorem changeDeck_staysBlind (h : s.dkc.blind = true) (new : DeckSt) (c : DeckCause) : StaysBlind s (changeDeck new c s) :=
  ⟨(changeDeck_blind _ _ _).trans h, changeDeck_resyncOwed _ _ _, fun l hl => by rw [changeDeck_lists, hl]⟩

theorem endIsolation_staysBlind (h : s.dkc.blind = true) : StaysBlind s (endIsolation s) := by
  have hdkc := beginRest_dkc s
  rw [endIsolation_eq]
  split
  · have hblind : (beginRest s).dkc.blind = true := by rw [hdkc]; exact h
    rw [endResting_eq, if_pos hblind]
    have hrested : ∀ l : Lane, (rested (beginRest s)).dkc.lists[l] = s.dkc.lists[l] := fun l => by
      show (beginRest s).dkc.lists[l] = _
      rw [hdkc]
    refine ⟨(enterBlind_blind _ _).trans hblind, (enterBlind_resyncOwed _ _).trans ?_, fun l hl => ?_⟩
    · show (beginRest s).dkc.resyncOwed = _
      rw [hdkc]
    · rw [enterBlind_lists, hrested, hl, ite_self]
  · exact ⟨by rw [hdkc]; exact h, by rw [hdkc], fun l hl => by rw [hdkc]; exact hl⟩

theorem StaysBlind.of_formed {t : State} (k : StaysBlind (formOverload s) t) : StaysBlind s t := ⟨k.blind, k.owed, k.empty⟩

theorem deckReview_staysBlind (h : s.dkc.blind = true) : StaysBlind s (deckReview s) := by
  have hform : StaysBlind s (formOverload s) := ⟨h, rfl, fun _ hl => hl⟩
  have hchange : ∀ new c, StaysBlind s (changeDeck new c (formOverload s)) := fun new c => (changeDeck_staysBlind (s := formOverload s) h new c).of_formed
  have harb : StaysBlind s (arbitrate (formOverload s)) :=
    ⟨(arbitrate_granting _).blind.trans h, (arbitrate_granting _).resyncOwed, fun l hl => by rw [(arbitrate_granting _).lists]; exact hl⟩
  cases hst : s.dkc.st with
  | openDeck =>
    rw [deckReview_open hst]
    split
    · exact hchange _ _
    · exact harb
  | overloaded =>
    rw [deckReview_overloaded hst]
    split
    · exact hform
    · exact hchange _ _
  | isolated =>
    rw [deckReview_isolated hst]
    split
    · exact hform
    · exact (endIsolation_staysBlind (s := formOverload s) h).of_formed
  | blind =>
    rw [deckReview_blind hst]
    exact harb
  | resync =>
    rw [deckReview_stays (.inl hst)]
    exact hform
  | resting =>
    rw [deckReview_stays (.inr (.inl hst))]
    exact hform
  | closed =>
    rw [deckReview_stays (.inr (.inr hst))]
    exact hform

/-- What a flush for the blind condition leaves: the condition, and for a lane whose E or X loop is out of service an empty list and none of the
records that it named. -/
structure FlushedOut (s t : State) : Prop where
  blind : t.dkc.blind = true
  lists : ∀ l : Lane, laneLoopOut s l = true → t.dkc.lists[l] = []
  gone  : ∀ l : Lane, laneLoopOut s l = true → ∀ e ∈ s.dkc.lists[l], ∀ id, e.recId = some id → findRec t id = none

theorem enterBlind_flushedOut (h : s.dkc.blind = true) (c : DeckCause) : FlushedOut s (enterBlind c s) := by
  refine ⟨(enterBlind_blind c s).trans h, fun l hl => ?_, fun l hl e he id hid => ?_⟩
  · rw [enterBlind_lists, if_pos hl]
  · rw [enterBlind_eq]
    refine (changeDeck_deckMoves _ _ _).gone id ?_
    exact flushOut_gone hl he hid

theorem reviewFlushed_flushedOut (h : s.dkc.blind = true) : FlushedOut s (deckReview (flushOut s)) := by
  have hstays := deckReview_staysBlind ((flushOut_blind s).trans h)
  refine ⟨hstays.blind, fun l hl => hstays.empty l ?_, fun l hl e he id hid => ?_⟩
  · rw [flushOut_lists, if_pos hl]
  · exact (deckReview_deckMoves _).gone id (flushOut_gone hl he hid)

theorem FlushedOut.congr {s' t : State} (k : FlushedOut s' t) (hl : s'.dkc.lists = s.dkc.lists) (hi : s'.liu = s.liu) (hs : s'.sst = s.sst) :
    FlushedOut s t := by
  have hout := laneLoopOut_congr hi hs
  exact ⟨k.blind, fun l h => k.lists l ((hout l).trans h), fun l h e he => k.gone l ((hout l).trans h) e (by rw [hl]; exact he)⟩

/-- Where the deck goes when the blind condition becomes true. -/
theorem blindBegins_flushedOut (h : s.dkc.blind = true) : FlushedOut s (blindBegins s) := by
  have howed : FlushedOut s (deckReview (flushOut { s with dkc.resyncOwed := true })) :=
    (reviewFlushed_flushedOut (s := { s with dkc.resyncOwed := true }) h).congr rfl rfl rfl
  unfold blindBegins
  cases s.dkc.st with
  | openDeck | overloaded | resync => exact enterBlind_flushedOut h _
  | isolated | resting => exact howed
  | blind | closed => exact reviewFlushed_flushedOut h

theorem blindBegins_enters (h : s.dkc.st = .openDeck ∨ s.dkc.st = .overloaded ∨ s.dkc.st = .resync) :
    blindBegins s = enterBlind .blindBegin s := by
  unfold blindBegins
  rcases h with h | h | h <;> rw [h]

theorem blindBegins_owes (h : s.dkc.st = .isolated ∨ s.dkc.st = .resting) : blindBegins s = deckReview (flushOut (owing s)) := by
  unfold blindBegins
  rcases h with h | h <;> rw [h] <;> rfl

theorem blindBegins_stays (h : s.dkc.st = .resting ∨ s.dkc.st = .closed) : (blindBegins s).dkc.st = s.dkc.st := by
  have hreview : ∀ u : State, u.dkc.st = s.dkc.st → (deckReview (flushOut u)).dkc.st = s.dkc.st := fun u hu => by
    have hflushed : (flushOut u).dkc.st = s.dkc.st := (flushOut_st u).trans hu
    rw [deckReview_stays (by rw [hflushed]; exact .inr h)]
    exact hflushed
  rcases h with h | h
  · rw [blindBegins_owes (.inr h)]
    exact hreview _ rfl
  · have hclosed : blindBegins s = deckReview (flushOut s) := by
      unfold blindBegins
      rw [h]
    rw [hclosed]
    exact hreview _ rfl

theorem reviewBlind_begins (h : blindNow s = true) (hb : s.dkc.blind = false) : reviewBlind further s = blindBegins (withBlind true s) := by
  rw [reviewBlind_holds h, hb]
  rfl

theorem deckReported_prev {p q : DeckSt} {c : DeckCause} {t : State} (h : p = q) (k : DeckReported p c t) : DeckReported q c t := h ▸ k

theorem reviewBlind_ends (h : blindNow s = false) (hb : s.dkc.blind = true) (hst : s.dkc.st = .blind) :
    reviewBlind further s = enterResync .blindEnd (withBlind false s) := by
  have hc : (s.dkc.blind && s.dkc.st == .blind) = true := by
    rw [hb, hst]
    rfl
  rw [reviewBlind_ceased h, if_pos hc]

theorem reviewBlind_flushedOut (h : blindNow s = true) (hf : s.dkc.blind = false ∨ further = true) :
    FlushedOut s (reviewBlind further s) := by
  rw [reviewBlind_holds h]
  split
  · exact (blindBegins_flushedOut (s := withBlind true s) rfl).congr rfl rfl rfl
  next hb =>
    have hb : s.dkc.blind = true := by simpa using hb
    rw [if_pos (hf.resolve_left (by rw [hb]; decide))]
    exact (reviewFlushed_flushedOut (s := withBlind true s) rfl).congr rfl rfl rfl

end Blind

/-- What the end of the blind condition leaves of a BLIND deck. -/
theorem blindEnds (s : State) (h : s.dkc.st = .blind) :
    let t := enterResync .blindEnd (withBlind false s)
    t.dkc = resyncDkc (withBlind false s) ∧
    (∀ l : Lane, ∀ e ∈ s.dkc.lists[l], ∀ id, e.recId = some id → findRec t id = none) ∧ DeckReported .blind .blindEnd t := by
  intro t
  have hreported : DeckReported s.dkc.st .blindEnd t := enterResync_reported _ (withBlind false s)
  exact ⟨enterResync_dkc _ _, fun l e he id hid => enterResync_gone _ (s := withBlind false s) he hid, deckReported_prev h hreported⟩

/-! ### The verdict on a ghost (R137) -/

theorem changeFirst_none {α : Type} {p : α → Bool} {f : α → α} {xs : List α} (h : ∀ x ∈ xs, p x = false) : changeFirst p f xs = none := by
  induction xs with
  | nil => rfl
  | cons x xs ih =>
    rw [changeFirst, h x List.mem_cons_self, ih fun y hy => h y (List.mem_cons_of_mem _ hy)]
    rfl

theorem changeFirst_append {α : Type} {p : α → Bool} {f : α → α} {xs : List α} {x : α} (h : ∀ y ∈ xs, p y = false) (hx : p x = true)
    (ys : List α) : changeFirst p f (xs ++ x :: ys) = some (xs ++ f x :: ys) := by
  induction xs with
  | nil => exact if_pos hx
  | cons y ys' ih =>
    rw [List.cons_append, changeFirst, h y List.mem_cons_self, ih fun z hz => h z (List.mem_cons_of_mem _ hz)]
    rfl

/-- An entry is a PENDING ghost. -/
def isGhost (e : DeckEntry) : Bool := e.kind == .pending && e.ghost

theorem changeLatestGhost_none {f : DeckEntry → DeckEntry} {es : List DeckEntry} (h : ∀ e ∈ es, isGhost e = false) :
    changeLatestGhost f es = none := by
  have hnone : changeFirst (fun e => e.kind == .pending && e.ghost) f es.reverse = none :=
    changeFirst_none fun e he => h e (List.mem_reverse.mp he)
  rw [changeLatestGhost, hnone]
  rfl

/-- The latest PENDING ghost of a list changes, and no other entry. -/
theorem changeLatestGhost_append {f : DeckEntry → DeckEntry} {older newer : List DeckEntry} {e : DeckEntry} (he : isGhost e = true)
    (h : ∀ x ∈ newer, isGhost x = false) : changeLatestGhost f (older ++ e :: newer) = some (older ++ f e :: newer) := by
  have hrev : (older ++ e :: newer).reverse = newer.reverse ++ e :: older.reverse := by simp
  have hfirst : changeFirst (fun e => e.kind == .pending && e.ghost) f (newer.reverse ++ e :: older.reverse) =
      some (newer.reverse ++ f e :: older.reverse) := changeFirst_append (fun x hx => h x (List.mem_reverse.mp hx)) he _
  rw [changeLatestGhost, hrev, hfirst, Option.map_some]
  simp

end Sys2Proof.Machine

namespace Sys2Proof.Proofs

open Sys2Proof.Machine
open Sys2Proof.Safety

/-- Settles O34: the flush entry by entry, and the blind condition by its value before and after. -/
theorem blindAndFlush : Obligations.BlindAndFlush := by
  unfold Obligations.BlindAndFlush
  refine ⟨fun l s => ?_, blindNow_iff, fun further s => ?_⟩
  · intro es t
    have hload : listLoad es = (es.map fun e => if e.kind = .heavy then e.load else 0).sum := by
      rw [listLoad]
      congr 2
      exact funext heavyLoad_eq
    have hsame := flushLane_same s l
    refine ⟨?_, flushLane_overstay s l, fun e he id hid => ⟨flushLane_gone he hid, flushLane_cited he hid, fun hs hr => ?_⟩, hsame.rtk, hsame.liu,
      hsame.dcu, hsame.sst⟩
    · rw [← hload]
      exact flushLane_dkc s l
    · exact flushLane_history he hid hr hs
  · intro holds t
    refine ⟨fun hb hf => ?_, fun hh hb hst => ?_, fun hh hb => ?_, fun hh hb => ⟨fun hst => ?_, fun hst => ?_, fun hst => ?_⟩, fun hh hb hst => ?_⟩
    · cases hh : blindNow s with
      | true =>
        have hblind : s.dkc.blind = true := hb.symm.trans hh
        have ht : t = _ := reviewBlind_holds hh
        rw [ht, hblind, hf hh]
        exact withBlind_self hblind
      | false =>
        have hblind : s.dkc.blind = false := hb.symm.trans hh
        have ht : t = _ := reviewBlind_ceased hh
        rw [ht, hblind]
        exact withBlind_self hblind
    · have ht : t = _ := reviewBlind_ceased hh
      rw [ht, beq_eq_false_iff_ne.mpr hst, Bool.and_false]
      rfl
    · have hflushed := reviewBlind_flushedOut hh hb
      have hsame := reviewBlind_same further s
      exact ⟨hflushed.blind, hsame.liu, hsame.rtk, fun l hl =>
        ⟨hflushed.lists l ((laneLoopOut_iff s l).mpr hl), hflushed.gone l ((laneLoopOut_iff s l).mpr hl)⟩⟩
    · have hbegins : t = enterBlind .blindBegin (withBlind true s) := (reviewBlind_begins hh hb).trans (blindBegins_enters hst)
      rw [hbegins]
      exact ⟨changeDeck_st _ _ _, enterBlind_timer _ _, enterBlind_reported _ (withBlind true s)⟩
    · have hbegins : t = deckReview (flushOut (owing (withBlind true s))) := (reviewBlind_begins hh hb).trans (blindBegins_owes hst)
      rw [hbegins]
      exact (deckReview_staysBlind (flushOut_blind _)).owed.trans (flushOut_resyncOwed _)
    · have hbegins : t = blindBegins (withBlind true s) := reviewBlind_begins hh hb
      rw [hbegins]
      exact blindBegins_stays (s := withBlind true s) hst
    · have hends : t = enterResync .blindEnd (withBlind false s) := reviewBlind_ends hh hb hst
      have hrest := blindEnds s hst
      dsimp only at hrest
      rw [← hends] at hrest
      exact hrest

end Sys2Proof.Proofs
end

section
/-! SUPPORT. The settling of what the claims say of DECK_CLOSE and DECK_RELEASE (R147), the ends of RESYNC and RESTING (R143, R145), the verdict
on a ghost (R137) and the expiry of a record (R124). -/

namespace Sys2Proof.Machine

open Sys2Proof.Safety

/-- The Deck Controller but for its signal is the same once the outputs are formed. -/
theorem deck_settled (s : State) {α : Type} (f : DkcState → α) (hf : ∀ d, f (sansSignal d) = f d) : f (settle s).dkc = f s.dkc :=
  settled_same s (fun u => f u.dkc) fun u => hf u.dkc

/-! ### DECK_CLOSE and DECK_RELEASE (R147) -/

theorem closeDeck_closed {s : State} (h : s.dkc.st = .closed) : closeDeck s = s := by
  rw [closeDeck, h]
  rfl

/-- The state with the deck CLOSED and its timer dropped. -/
def deckShut (s : State) : State := { s with dkc := { s.dkc with st := .closed, timer := none } }

theorem closeDeck_places {s : State} (h : s.dkc.st ≠ .closed) :
    Places [.deck ⟨.closed, some s.dkc.st, .deckClose, .allStop, s.dkc.onDeck, s.dkc.committed, s.dkc.queue.length, s.tbu.time⟩]
      (deckShut s) (closeDeck s) := by
  have hne : ¬ (s.dkc.st == .closed) = true := fun hc => h (beq_iff_eq.mp hc)
  have hplaces := changeDeck_places .closed .deckClose { s with dkc := { s.dkc with timer := none } }
  rw [deckAs_eq (by decide) (by decide)] at hplaces
  rw [closeDeck, if_neg hne]
  exact hplaces

theorem resyncDkc_dropRequest (s : State) : resyncDkc (dropRequest s) = resyncDkc s := rfl

/-! ### The end of RESYNC (R143) -/

/-- The state at the end of RESYNC before the deck takes what follows. -/
def resynced (s : State) : State := formOverload (desyncClear { s with dkc := { s.dkc with timer := none } })

theorem resynced_dkc (s : State) :
    (resynced s).dkc = { s.dkc with timer := none, listFull := latchOf s, overload := loadedNow s } := by
  have hsame := desyncClear_same { s with dkc := { s.dkc with timer := none } }
  have hlatch : latchOf (desyncClear { s with dkc := { s.dkc with timer := none } }) = latchOf s := by
    rw [latchOf, hsame.dkc]
    rfl
  rw [resynced, formOverload_eq, loadedNow, hlatch, hsame.dkc, hsame.sst]
  rfl

theorem endResync_eq (s : State) : endResync s =
    if noncompliantOnDeck s then changeDeck .isolated .resyncEnd (resynced s)
    else if s.dkc.blind then enterBlind .resyncEnd (resynced s)
    else if loadedNow s then changeDeck .overloaded .resyncEnd (resynced s)
    else changeDeck .openDeck .resyncEnd (resynced s) := by
  have hdkc := resynced_dkc s
  have hnon : noncompliantOnDeck (resynced s) = noncompliantOnDeck s := by rw [noncompliantOnDeck, hdkc, noncompliantOnDeck]
  have hblind : (resynced s).dkc.blind = s.dkc.blind := by rw [hdkc]
  have hload : (resynced s).dkc.overload = loadedNow s := by rw [hdkc]
  rw [← hnon, ← hblind, ← hload]
  rfl

/-- What holds of the end of RESYNC whatever the deck goes to. -/
theorem endResync_leaves (s : State) :
    SameB (resynced s) (endResync s) ∧ DeckMoves (resynced s) (endResync s) ∧ DeckReported s.dkc.st .resyncEnd (endResync s) ∧
      (endResync s).dkc.timer = none := by
  have hst : (resynced s).dkc.st = s.dkc.st := by rw [resynced_dkc]
  have htimer : (resynced s).dkc.timer = none := by rw [resynced_dkc]
  have hchange : ∀ new, SameB (resynced s) (changeDeck new .resyncEnd (resynced s)) ∧
      DeckMoves (resynced s) (changeDeck new .resyncEnd (resynced s)) ∧
      DeckReported s.dkc.st .resyncEnd (changeDeck new .resyncEnd (resynced s)) ∧
      (changeDeck new .resyncEnd (resynced s)).dkc.timer = none := fun new =>
    ⟨changeDeck_same _ _ _, changeDeck_deckMoves _ _ _, hst ▸ changeDeck_reported _ _ _, (changeDeck_timer _ _ _).trans htimer⟩
  rw [endResync_eq]
  split
  · exact hchange _
  · split
    · exact ⟨enterBlind_same _ _, enterBlind_deckMoves _ _, hst ▸ enterBlind_reported _ _, enterBlind_timer _ _⟩
    · split
      · exact hchange _
      · exact hchange _

/-- Where the deck goes at the end of RESYNC (R143). -/
theorem endResync_goes (s : State) :
    let t := endResync s
    if noncompliantOnDeck s = true then t.dkc.st = .isolated ∧ t.dkc.lists = s.dkc.lists
    else if s.dkc.blind = true then t.dkc.st = .blind
    else if loadedNow s = true then t.dkc.st = .overloaded ∧ t.dkc.lists = s.dkc.lists ∧ t.dkc.grants = s.dkc.grants
    else t.dkc.st = .openDeck ∧ t.dkc.lists = s.dkc.lists := by
  intro t
  have ht : t = _ := endResync_eq s
  have hlists : (resynced s).dkc.lists = s.dkc.lists := by rw [resynced_dkc]
  have hgrants : (resynced s).dkc.grants = s.dkc.grants := by rw [resynced_dkc]
  rw [ht]
  split
  · exact ⟨changeDeck_st _ _ _, (changeDeck_lists _ _ _).trans hlists⟩
  · split
    · exact changeDeck_st .blind _ _
    · split
      · refine ⟨changeDeck_st _ _ _, (changeDeck_lists _ _ _).trans hlists, ?_⟩
        rw [changeDeck_dkc (by decide) (by decide), hgrants]
      · exact ⟨changeDeck_st _ _ _, (changeDeck_lists _ _ _).trans hlists⟩

/-! ### The verdict on a ghost (R137) -/

/-- The state with lane l's ghost mark cleared. -/
def unmarked (l : Lane) (s : State) : State := { s with rtk := { s.rtk with ghost := put s.rtk.ghost l false } }

/-- The state with a lane's list replaced and a load added. -/
def withList (l : Lane) (es : List DeckEntry) (load : Nat) (s : State) : State :=
  { s with dkc := { s.dkc with lists := put s.dkc.lists l es, onDeck := s.dkc.onDeck + load } }

section Ghost

variable {l : Lane} {s : State}

theorem thresholdDepart_unmarked (h : s.rtk.ghost[l] = false) (occupancy : Nat) : thresholdDepart l occupancy s = s := by
  rw [thresholdDepart, h]
  rfl

theorem thresholdDepart_marked (h : s.rtk.ghost[l] = true) (occupancy : Nat) : thresholdDepart l occupancy s =
    ghostVerdict l (decide (s.sst.live.track.ghostLong * 100 ≤ occupancy)) (unmarked l s) := by
  rw [thresholdDepart, h]
  rfl

theorem ghostVerdict_none (h : ∀ e ∈ s.dkc.lists[l], isGhost e = false) (isHeavy : Bool) : ghostVerdict l isHeavy s = s := by
  unfold ghostVerdict
  cases isHeavy <;> simp only [changeLatestGhost_none h, Bool.false_eq_true, if_true, if_false]

theorem ghostVerdict_heavy {older newer : List DeckEntry} {e : DeckEntry} (hl : s.dkc.lists[l] = older ++ e :: newer)
    (he : isGhost e = true) (h : ∀ x ∈ newer, isGhost x = false) : ghostVerdict l true s =
      deckReview (countUnadmitted (withList l (older ++ { e with kind := .heavy, load := s.sst.live.deck.unknownLoad } :: newer)
        s.sst.live.deck.unknownLoad s)) := by
  unfold ghostVerdict
  simp only [if_true, hl, changeLatestGhost_append he h]
  rfl

theorem ghostVerdict_light {older newer : List DeckEntry} {e : DeckEntry} (hl : s.dkc.lists[l] = older ++ e :: newer)
    (he : isGhost e = true) (h : ∀ x ∈ newer, isGhost x = false) :
    ghostVerdict l false s = withList l (older ++ { e with kind := .light } :: newer) 0 s := by
  unfold ghostVerdict
  simp only [Bool.false_eq_true, if_false, hl, changeLatestGhost_append he h]
  rfl

end Ghost

/-! ### The expiry of a record (R124) -/

/-- The state with outputs away, and Condition Monitor and link as given. -/
def sansNotices (c : CmnState) (k : LkiState) (s : State) : State := sansOutputs { s with cmn := c, lki := k }

theorem sansNotices_withFullEntries (c : CmnState) (k : LkiState) (s : State) (ls : List Lane) (x : State) :
    sansNotices c k (withFullEntries s ls x) = sansNotices c k x := by
  induction ls generalizing x with
  | nil => rfl
  | cons l ls ih => exact ih _

theorem withdraw_queued {r : VRecord} (h : r.admission = .queued) (s : State) : withdraw r s = deckReview (leaveQueue r.id s) := by
  rw [withdraw, h]

theorem withdraw_granted {r : VRecord} (h : r.admission = .granted) (s : State) : withdraw r s = deckReview (endGrant r.id s) := by
  rw [withdraw, h]

theorem withdraw_other {r : VRecord} (hq : r.admission ≠ .queued) (hg : r.admission ≠ .granted) (s : State) : withdraw r s = s := by
  unfold withdraw
  cases h : r.admission with
  | queued => exact absurd h hq
  | granted => exact absurd h hg
  | none | expired | unadmitted | used => rfl

theorem endGrant_some {id : Nat} {g : Grant} {s : State} (h : s.dkc.grants.find? (·.id == id) = some g) : endGrant id s =
    { s with dkc := { s.dkc with grants := s.dkc.grants.eraseP (·.id == id), committed := s.dkc.committed - g.load } } := by
  rw [endGrant, h]

theorem endGrant_deckMoves (id : Nat) (s : State) : DeckMoves s (endGrant id s) := by
  unfold endGrant
  split
  · exact .refl s
  · exact .of_same rfl rfl rfl rfl

theorem withdraw_deckMoves (r : VRecord) (s : State) : DeckMoves s (withdraw r s) := by
  unfold withdraw
  split
  · exact (deckReview_deckMoves _).after rfl rfl rfl rfl
  · exact (endGrant_deckMoves _ _).trans (deckReview_deckMoves _)
  all_goals exact .refl s

/-- A record that is closed after an operation of the deck has left every approach list. -/
theorem closed_left {id : Nat} {r : VRecord} {s x : State} (h : findRec s id = some r) (k : DeckMoves s x) (d : Disposition) (l : Lane) :
    id ∉ (closeRecord id d x).rtb.approach[l] := by
  refine (k.trans (closeRecord_deckMoves id d x)).left id (by rw [h]; exact Option.some_ne_none r) (closeRecord_gone id d x) l

end Sys2Proof.Machine

namespace Sys2Proof.Proofs

open Sys2Proof.Machine
open Sys2Proof.Safety

/-- Settles O50: the two requests, the release by the entry to RESYNC. -/
theorem deckCloseAndRelease : Obligations.DeckCloseAndRelease := by
  unfold Obligations.DeckCloseAndRelease
  refine fun r s hp => ⟨fun h => ⟨_, serve_open h (by rw [hp]; decide), fun hst => ?_, fun hst => ?_⟩,
    fun h hkey => ⟨_, serve_keyed h (by rw [hp]; decide) hkey, fun hsafe => ?_, fun hsafe => ?_⟩⟩
  · rw [answerDeckClose, closeDeck_closed (s := dropRequest s) hst]
    exact reply_of_asks h rfl .ok .empty
  · exact reply_places (x := deckShut s) (closeDeck_places (s := dropRequest s) hst) h.queues.held .ok .empty
  · have hs : (dropRequest s).cmn.safeFlag = true := hsafe
    rw [answerDeckRelease, if_pos hs]
    exact refuse_of_asks h .state
  · have hs : ¬ (dropRequest s).cmn.safeFlag = true := by
      show ¬ s.cmn.safeFlag = true
      rw [hsafe]
      decide
    rw [answerDeckRelease, if_neg hs]
    have hkeeps := enterResync_keeps (s := dropRequest s) (fun _ => hsafe) .deckRelease
    have hheld : ∀ u, Keeps (dropRequest s) u → u.lki.heldCommit = none → u.lki.behind = [] := fun u hu hc => by
      rw [hu.behind]
      exact h.queues.held (hu.held ▸ hc)
    have hreplied := reply_replied r .ok .empty (hheld _ hkeeps)
    have hdkc : (enterResync .deckRelease (dropRequest s)).dkc = resyncDkc s := (enterResync_dkc _ _).trans (resyncDkc_dropRequest s)
    have hmoves := enterResync_deckMoves .deckRelease (dropRequest s)
    have hreported : DeckReported s.dkc.st .deckRelease (enterResync .deckRelease (dropRequest s)) :=
      enterResync_reported .deckRelease (dropRequest s)
    have hgone : ∀ l : Lane, ∀ e ∈ s.dkc.lists[l], ∀ id, e.recId = some id → findRec (enterResync .deckRelease (dropRequest s)) id = none :=
      fun l e he id hid => enterResync_gone _ (s := dropRequest s) he hid
    have hqueued : ∀ g ∈ s.dkc.grants, ∀ v, findRec (enterResync .deckRelease (dropRequest s)) g.id = some v → v.admission = .queued :=
      fun g hg v hv => enterResync_queued _ (s := dropRequest s) hg hv
    have hsame := enterResync_same .deckRelease (dropRequest s)
    have haccept : accept r (enterResync .deckRelease (dropRequest s)) = reply r .ok .empty (enterResync .deckRelease (dropRequest s)) := rfl
    rw [haccept]
    generalize enterResync .deckRelease (dropRequest s) = u at *
    generalize settle (reply r .ok .empty u) = t at *
    have hfind : ∀ id, findRec t id = findRec u id := fun id => by rw [findRec, hreplied.rtb, findRec]
    have hst : t.dkc.st = .resync := (congrArg (fun d : DkcState => d.st) hreplied.dkc :).trans (by rw [hdkc]; rfl)
    have hsignal : t.dkc.signal = .allStop := hreplied.formed.signal.trans (signalOf_allStop (.inl hst))
    refine ⟨hreplied.formed, hreplied.requests.trans hkeeps.requests, ?_, ?_, fun l e he id hid => ?_, fun g hg v hv => ?_,
      hreplied.deckReported hreported, ?_, ?_, ?_, ?_, ?_, ?_, ?_, ?_⟩
    · exact hreplied.answers.trans (congrArg (· ++ _) hmoves.answers)
    · have hd := hreplied.dkc
      rw [hdkc] at hd
      have ht : sansSignal t.dkc = t.dkc := by rw [sansSignal, ← hsignal]
      exact ht.symm.trans hd
    · rw [hfind]
      exact hgone l e he id hid
    · rw [hfind] at hv
      exact hqueued g hg v hv
    · exact hreplied.tbu.trans hsame.tbu
    · exact (hreplied.same State.csq fun _ => rfl).trans hsame.csq
    · exact (hreplied.same State.scu fun _ => rfl).trans hsame.scu
    · exact (hreplied.same State.zsc fun _ => rfl).trans hsame.zsc
    · exact (hreplied.same State.liu fun _ => rfl).trans hsame.liu
    · exact (hreplied.same State.rtk fun _ => rfl).trans hsame.rtk
    · exact (hreplied.same State.trs fun _ => rfl).trans hsame.trs
    · exact (hreplied.same (·.sst.live) fun _ => rfl).trans (by rw [hsame.sst]; rfl)

/-- Settles O29: the withdrawal with its review, and the close after it. -/
theorem recordExpires : Obligations.RecordExpires := by
  unfold Obligations.RecordExpires
  intro id r w s hfind hst hwin hreached d
  have hdue : recordExpiryDue id s = true := by
    rw [recordExpiryDue, hfind, Option.any_some, hst, hwin, Option.any_some, reached, State.now, hreached]
    rfl
  have hd : (if (r.decision == some .divert && !inService s dLoop) = true then Disposition.divertAssumed else .lost) = d := by
    simp only [Bool.and_eq_true, beq_iff_eq, Bool.not_eq_true', d]
  have hexpire : expireRecord id s = closeRecord id d (withdraw r s) := by rw [expireRecord, hfind, ← hd]
  have hid : r.id = id := findRec_id hfind
  refine ⟨_, when'_due hdue s _, (settle_formedFrom _).formed, ?_, fun l => ?_, fun hq => ?_, fun g ha hg => ?_, fun hq ha => ?_⟩
  all_goals rw [hexpire]
  · exact (settled_same _ (findRec · id) fun _ => rfl).trans (closeRecord_gone _ _ _)
  · have hleft := closed_left hfind (withdraw_deckMoves r s) d l
    rwa [← settled_same (closeRecord id d (withdraw r s)) (·.rtb.approach[l]) fun _ => rfl] at hleft
  · rw [withdraw_queued hq, hid]
    exact settle_formedFrom _
  · rw [withdraw_granted ha, hid, endGrant_some hg]
    exact settle_formedFrom _
  · rw [withdraw_other hq ha]
    have hclosed := (closeRecord_places (d := d) hfind).same (sansNotices s.cmn s.lki) fun _ => rfl
    rw [sansNotices_withFullEntries] at hclosed
    exact (settled_same (closeRecord id d s) (sansNotices s.cmn s.lki) fun _ => rfl).trans hclosed

/-- Settles O32: the latest PENDING ghost changed, and the review after a HEAVY verdict. -/
theorem ghostVerdict : Obligations.GhostVerdict := by
  unfold Obligations.GhostVerdict
  intro l occupancy s t ghost long load
  refine ⟨fun hg => ?_, fun hg => ?_⟩
  · exact thresholdDepart_unmarked hg occupancy
  have ht : t = Machine.ghostVerdict l long (unmarked l s) := thresholdDepart_marked hg occupancy
  refine ⟨?_, fun hnone => ?_, fun older e newer hlist he hnewer => ?_⟩
  · rw [ht, (ghostVerdict_same l long (unmarked l s)).rtk]
    rfl
  · rw [ht, ghostVerdict_none (s := unmarked l s) hnone]
    exact ⟨rfl, rfl⟩
  · cases hlong : long with
    | false =>
      rw [hlong, ghostVerdict_light (s := unmarked l s) hlist he hnewer] at ht
      rw [ht]
      exact ⟨fun _ => ⟨rfl, rfl⟩, fun hi _ => hi, fun _ hc => absurd hc (by decide), by simp [withList, unmarked]⟩
    | true =>
      rw [hlong, ghostVerdict_heavy (s := unmarked l s) hlist he hnewer] at ht
      rw [ht]
      let x := countUnadmitted (withList l (older ++ { e with kind := .heavy, load := load } :: newer) load (unmarked l s))
      refine ⟨fun hn => ?_, fun _ hc => absurd hc (by decide), fun hi _ => ?_, (deckReview_deckMoves x).unadmitted⟩
      · have hni : s.dkc.st ≠ .isolated := hn.resolve_right (by decide)
        have hrev := deckReview_reviewed (s := x) fun hc => absurd hc hni
        exact ⟨hrev.lists, hrev.onDeck⟩
      · exact isolatedAfter_mono (isolatedAfter_review (s := x) hi) rfl rfl rfl rfl rfl rfl rfl fun _ _ hr => hr

/-- Settles O37: where the deck goes at each end. -/
theorem resyncAndRestEnd : Obligations.ResyncAndRestEnd := by
  unfold Obligations.ResyncAndRestEnd
  intro finish s htimer hreached latch loaded
  have hdue : s.dkc.timer.any (reached s.now) = true := by
    rw [htimer, Option.any_some, reached, State.now, hreached]
    rfl
  have hloaded : loadedNow s = true ↔ loaded := decide_eq_true_iff
  refine ⟨fun hst => ?_, fun hst => ?_⟩
  · have hnext : exec .resyncEnd s = .next (settle (endResync s)) := by
      refine when'_due ?_ s _
      rw [resyncEndDue, hst, hdue]
      rfl
    obtain ⟨hsame, hmoves, hreported, htime⟩ := endResync_leaves s
    have hclear := desyncClear_same { s with dkc := { s.dkc with timer := none } }
    have hgoes := endResync_goes s
    refine ⟨_, hnext, (settle_formedFrom _).formed, ?_, ?_, ?_, ?_, ?_, ?_, ?_⟩
    · exact (settled_same _ (·.dkc.timer) fun _ => rfl).trans htime
    · exact ((settled_same _ (·.cmn.desyncTimes) fun _ => rfl).trans hmoves.desyncTimes).trans rfl
    · rw [settled_same (endResync s) (·.cmn.conds[desyncIx].st) fun _ => rfl, hmoves.conds _ desyncIx_not_deckIx]
      exact giveClear_st desyncIx { s with dkc := { s.dkc with timer := none } }
    · exact ((settled_same _ State.liu fun _ => rfl).trans hsame.liu).trans hclear.liu
    · rw [settled_same (endResync s) (·.las) fun _ => rfl, toList_three, toList_three]
      simp only [List.map_cons, List.map_nil, hmoves.fifos]
      have hlas : (resynced s).las = s.las := hclear.las
      rw [hlas]
    · exact deckReported_prev hst (deckReported_settled hreported)
    · rw [deck_settled _ (·.st) fun _ => rfl, deck_settled _ (·.lists) fun _ => rfl, deck_settled _ (·.grants) fun _ => rfl]
      simp only [noncompliantOnDeck_iff, hloaded] at hgoes
      exact hgoes
  · have hnext : exec .restEnd s = .next (settle (endResting s)) := by
      refine when'_due ?_ s _
      rw [restEndDue, hst, hdue]
      rfl
    have hgoes := endResting_goes s
    refine ⟨_, hnext, (settle_formedFrom _).formed, ?_, deckReported_prev hst (deckReported_settled (endResting_reported s)), ?_⟩
    · exact (settled_same _ State.liu fun _ => rfl).trans (endResting_same s).liu
    · split
      next hb =>
        rw [if_pos hb] at hgoes
        exact ⟨(deck_settled _ (·.st) fun _ => rfl).trans hgoes.1, (deck_settled _ (·.timer) fun _ => rfl).trans hgoes.2.1⟩
      next hb =>
        rw [if_neg hb] at hgoes
        split
        next ho =>
          rw [if_pos ho] at hgoes
          have hdkc : ∀ {α : Type} (f : DkcState → α), (∀ d, f (sansSignal d) = f d) →
              f (settle (endResting s)).dkc = f (resyncDkc (rested s)) := fun f hf => (deck_settled _ f hf).trans (congrArg f hgoes)
          refine ⟨hdkc (·.st) fun _ => rfl, fun l => ?_, hdkc (·.onDeck) fun _ => rfl, hdkc (·.committed) fun _ => rfl,
            hdkc (·.grants) fun _ => rfl, hdkc (·.queue) fun _ => rfl, hdkc (·.resyncOwed) fun _ => rfl, hdkc (·.timer) fun _ => rfl⟩
          rw [hdkc (·.lists) fun _ => rfl]
          exact Vector.getElem_replicate _
        next ho =>
          rw [if_neg ho] at hgoes
          have hends : ∀ st, (endResting s).dkc.st = st ∧ (endResting s).dkc.timer = none ∧ (endResting s).dkc.lists = s.dkc.lists ∧
              (endResting s).dkc.onDeck = s.dkc.onDeck →
              (settle (endResting s)).dkc.st = st ∧ (settle (endResting s)).dkc.timer = none ∧ (settle (endResting s)).dkc.lists = s.dkc.lists :=
            fun st ⟨hs, ht, hl, _⟩ => ⟨(deck_settled _ (·.st) fun _ => rfl).trans hs, (deck_settled _ (·.timer) fun _ => rfl).trans ht,
              (deck_settled _ (·.lists) fun _ => rfl).trans hl⟩
          split
          next hl =>
            rw [if_pos (hloaded.mpr hl)] at hgoes
            exact hends _ hgoes
          next hl =>
            rw [if_neg fun hc => hl (hloaded.mp hc)] at hgoes
            exact hends _ hgoes

end Sys2Proof.Proofs
end

section
/-! SUPPORT. Proofs about the search of records by age, lane and id (R119, R121), and arrivals at the slip loop (R119, R120). -/

namespace Sys2Proof.Machine

open Sys2Proof.Safety

/-! ### The order of a search (R119, R121) -/

theorem olderThan_iff (s : State) (a b : VRecord) : olderThan s a b = true ↔ recordAge s b < recordAge s a ∨
    (recordAge s a = recordAge s b ∧ (a.lane.val < b.lane.val ∨ (a.lane.val = b.lane.val ∧ a.id < b.id))) := by
  simp only [olderThan, Bool.or_eq_true, Bool.and_eq_true, decide_eq_true_iff, beq_iff_eq, Fin.ext_iff]

theorem olderThan_irrefl (s : State) (r : VRecord) : olderThan s r r = false := by
  rw [← Bool.not_eq_true, olderThan_iff]
  omega

/-- The first of a list in the order of a search. -/
structure First (s : State) (rs : List VRecord) (r : VRecord) : Prop where
  mem   : r ∈ rs
  first : ∀ x ∈ rs, olderThan s x r = false

theorem foldl_first (s : State) (rs : List VRecord) (r : VRecord) :
    First s (r :: rs) (rs.foldl (fun best x => if olderThan s x best then x else best) r) := by
  induction rs generalizing r with
  | nil => exact ⟨List.mem_singleton_self r, fun x hx => List.mem_singleton.mp hx ▸ olderThan_irrefl s x⟩
  | cons y ys ih =>
    rw [List.foldl_cons]
    by_cases h : olderThan s y r = true
    · rw [if_pos h]
      obtain ⟨hmem, hfirst⟩ := ih y
      refine ⟨List.mem_cons_of_mem _ hmem, fun x hx => ?_⟩
      rcases List.mem_cons.mp hx with rfl | hx
      · have hy := hfirst y List.mem_cons_self
        rw [← Bool.not_eq_true] at hy ⊢
        rw [olderThan_iff] at h hy ⊢
        omega
      · exact hfirst x hx
    · rw [if_neg h]
      obtain ⟨hmem, hfirst⟩ := ih r
      refine ⟨?_, fun x hx => ?_⟩
      · rcases List.mem_cons.mp hmem with hr | hm
        · rw [hr]
          exact List.mem_cons_self
        · exact List.mem_cons_of_mem _ (List.mem_cons_of_mem _ hm)
      · rcases List.mem_cons.mp hx with rfl | hx
        · exact hfirst x List.mem_cons_self
        · rcases List.mem_cons.mp hx with rfl | hx
          · have hr := hfirst r List.mem_cons_self
            rw [← Bool.not_eq_true] at hr ⊢
            rw [olderThan_iff] at h hr ⊢
            omega
          · exact hfirst x (List.mem_cons_of_mem _ hx)

theorem oldestRecord_nil_iff (s : State) (rs : List VRecord) : oldestRecord s rs = none ↔ rs = [] := by
  cases rs <;> simp [oldestRecord]

theorem oldestRecord_first {s : State} {rs : List VRecord} {r : VRecord} (h : oldestRecord s rs = some r) : First s rs r := by
  cases rs with
  | nil => simp [oldestRecord] at h
  | cons x xs =>
    obtain rfl := Option.some.inj h
    exact foldl_first s xs x

theorem oldestRecord_some {s : State} {rs : List VRecord} (h : rs ≠ []) : ∃ r, oldestRecord s rs = some r :=
  Option.ne_none_iff_exists'.mp fun hn => h ((oldestRecord_nil_iff s rs).mp hn)

/-- What is first is no younger than any other. -/
theorem First.age {s : State} {rs : List VRecord} {r x : VRecord} (h : First s rs r) (hx : x ∈ rs) : recordAge s x ≤ recordAge s r := by
  have hn := h.first x hx
  rw [← Bool.not_eq_true, olderThan_iff] at hn
  omega

/-! ### The candidates (R119, R121) -/

theorem mem_approachRecords (s : State) (l : Lane) (r : VRecord) :
    r ∈ approachRecords s l ↔ ∃ id ∈ s.rtb.approach[l], findRec s id = some r := List.mem_filterMap

theorem holds_iff (r : VRecord) (t : Time) (a b : Windows → Time) : (r.windows.any fun w => inWindow t (a w) (b w)) = true ↔
    ∃ w, r.windows = some w ∧ (t - a w).toNat ≤ (b w - a w).toNat := by
  cases h : r.windows with
  | none => simp
  | some w =>
    simp only [Option.any_some, inWindow, decide_eq_true_iff, Option.some.injEq, exists_eq_left']
    exact Iff.rfl

/-! ### Arrivals at the slip loop -/

/-- A record of an approach list whose slip window holds the time. -/
def slipCandidates (s : State) (t : Time) : List VRecord := (allLanes.flatMap (approachRecords s)).filter (slipHolds t)

theorem mem_slipCandidates (s : State) (t : Time) (r : VRecord) : r ∈ slipCandidates s t ↔
    (∃ l : Lane, ∃ id ∈ s.rtb.approach[l], findRec s id = some r) ∧
      ∃ w, r.windows = some w ∧ (t - w.slipFrom).toNat ≤ (w.slipTo - w.slipFrom).toNat := by
  rw [slipCandidates, List.mem_filter, List.mem_flatMap, slipHolds, holds_iff r t (·.slipFrom) (·.slipTo)]
  simp only [mem_allLanes, true_and, mem_approachRecords]

theorem slipTaken_eq (s : State) (t : Time) : slipTaken s t =
    (oldestRecord s ((slipCandidates s t).filter (·.decision == some .divert))).or (oldestRecord s (slipCandidates s t)) := by
  unfold slipTaken
  dsimp only
  cases h : oldestRecord s ((slipCandidates s t).filter (·.decision == some .divert)) with
  | some r =>
    have h' : oldestRecord s (((allLanes.flatMap (approachRecords s)).filter (slipHolds t)).filter (·.decision == some .divert)) = some r := h
    rw [h']
    rfl
  | none =>
    have h' : oldestRecord s (((allLanes.flatMap (approachRecords s)).filter (slipHolds t)).filter (·.decision == some .divert)) = none := h
    rw [h']
    rfl

/-- The record that a D ARRIVE takes: a candidate, DIVERT where there is a DIVERT candidate, and no younger than any of its sort. -/
theorem slipTaken_some {s : State} {t : Time} (h : slipCandidates s t ≠ []) : ∃ r, slipTaken s t = some r ∧ r ∈ slipCandidates s t ∧
    ((∃ x ∈ slipCandidates s t, x.decision = some .divert) → r.decision = some .divert) ∧
    ∀ x ∈ slipCandidates s t, (x.decision = some .divert ↔ r.decision = some .divert) → recordAge s x ≤ recordAge s r := by
  have hmem : ∀ x, x ∈ (slipCandidates s t).filter (·.decision == some .divert) ↔ x ∈ slipCandidates s t ∧ x.decision = some .divert :=
    fun x => by rw [List.mem_filter, beq_iff_eq]
  rw [slipTaken_eq]
  cases hd : oldestRecord s ((slipCandidates s t).filter (·.decision == some .divert)) with
  | some r =>
    have hfirst := oldestRecord_first hd
    obtain ⟨hr, hdiv⟩ := (hmem r).mp hfirst.mem
    exact ⟨r, rfl, hr, fun _ => hdiv, fun x hx hiff => hfirst.age ((hmem x).mpr ⟨hx, hiff.mpr hdiv⟩)⟩
  | none =>
    obtain ⟨r, hr⟩ := oldestRecord_some (s := s) h
    have hfirst := oldestRecord_first hr
    have hnone : ∀ x ∈ slipCandidates s t, x.decision ≠ some .divert := fun x hx hdiv => by
      have hin := (hmem x).mpr ⟨hx, hdiv⟩
      rw [(oldestRecord_nil_iff s _).mp hd] at hin
      cases hin
    exact ⟨r, hr, hfirst.mem, fun ⟨x, hx, hdiv⟩ => absurd hdiv (hnone x hx), fun x hx _ => hfirst.age hx⟩

theorem slipArrive_none {s : State} {t : Time} (h : slipTaken s t = none) : slipArrive t s = s := by
  rw [slipArrive, h]

theorem slipArrive_some {s : State} {t : Time} {r : VRecord} (h : slipTaken s t = some r) : slipArrive t s =
    if r.decision == some .divert then closeRecord r.id .diverted s else closeRecord r.id .exited (withdraw r s) := by
  rw [slipArrive, h]

end Sys2Proof.Machine

namespace Sys2Proof.Proofs

open Sys2Proof.Machine
open Sys2Proof.Safety

/-- Settles O30: the search among the candidates, and the close with the withdrawal before it. -/
theorem slipArrivalTakesOldest : Obligations.SlipArrivalTakesOldest := by
  unfold Obligations.SlipArrivalTakesOldest
  intro time s waiting fits
  have hfits : ∀ r, r ∈ slipCandidates s time ↔ fits r := mem_slipCandidates s time
  refine ⟨fun hnone => ?_, fun ⟨r0, hr0⟩ => ?_⟩
  · have hempty : slipCandidates s time = [] := List.eq_nil_iff_forall_not_mem.mpr fun r hr => hnone r ((hfits r).mp hr)
    refine slipArrive_none ?_
    rw [slipTaken_eq, hempty]
    rfl
  · obtain ⟨r, htaken, hr, hdivert, hage⟩ := slipTaken_some (List.ne_nil_of_mem ((hfits r0).mpr hr0))
    have harrive := slipArrive_some htaken
    refine ⟨r, htaken, (hfits r).mp hr, fun ⟨x, hx, hd⟩ => hdivert ⟨x, (hfits x).mpr hx, hd⟩,
      fun x hx hiff => hage x ((hfits x).mpr hx) hiff, ?_, fun hd => ?_, fun hd => ?_⟩
    · rw [harrive]
      split <;> exact closeRecord_gone _ _ _
    · rw [harrive, if_pos (beq_iff_eq.mpr hd)]
      exact ⟨rfl, closeRecord_dkc _ _ _⟩
    · have hne : ¬ (r.decision == some .divert) = true := fun hc => hd (beq_iff_eq.mp hc)
      rw [harrive, if_neg hne]
      refine ⟨fun hq => ?_, fun g ha hg => ?_, fun hq ha => ?_⟩
      · rw [withdraw_queued hq]
        rfl
      · rw [withdraw_granted ha, endGrant_some hg]
      · rw [withdraw_other hq ha]
        exact ⟨rfl, closeRecord_dkc _ _ _⟩

end Sys2Proof.Proofs
end

section
/-! SUPPORT. Proofs about the Weight Unit: the temperature factor, the loads and flags of a weighing, spacings and groups, and the place of
the agreement samples in it (R77 to R91, R158). -/

namespace Sys2Proof.Machine

open Sys2Proof.Safety

/-! ### The temperature factor (R77) -/

theorem zip_map_self {α β : Type} (f : α → β) (l : List α) (p : α × β) (h : p ∈ l.zip (l.map f)) : p.1 ∈ l ∧ p.2 = f p.1 := by
  rw [← List.map_prod_left_eq_zip] at h
  obtain ⟨a, ha, rfl⟩ := List.mem_map.mp h
  exact ⟨ha, rfl⟩

theorem tempQ_toNat (st : Settings) (i : Nat) : ((tempQ st i).toNat : Int) = ((st.weigh.tempQ.toList.getD i 4096 : Nat) : Int) := by
  rw [tempQ, Int.ofNat_eq_natCast, Int.toNat_natCast]

theorem interpolation_nonneg {a b k : Int} (ha : 0 ≤ a) (hb : 0 ≤ b) (hk : 0 ≤ k) (hk100 : k < 100) : 0 ≤ a + Int.fdiv ((b - a) * k) 100 := by
  have hge : -a * 100 ≤ (b - a) * k := by nlinarith
  have hdiv : -a ≤ Int.fdiv ((b - a) * k) 100 := by
    rw [Int.fdiv_eq_ediv_of_nonneg _ (by decide)]
    omega
  omega

theorem tempFactor_between (st : Settings) {t : Int} (hlow : -200 ≤ t) (hhigh : t < 600) :
    (tempFactor st (some t) : Int) = tempQ st ((t + 200) / 100).toNat +
      Int.fdiv ((tempQ st (((t + 200) / 100).toNat + 1) - tempQ st ((t + 200) / 100).toNat) * (t - (100 * ((t + 200) / 100) - 200))) 100 := by
  have hi : (((t + 200) / 100).toNat : Int) = (t + 200) / 100 := by omega
  rw [tempFactor, if_neg (by omega), if_neg (by omega)]
  dsimp only
  rw [hi, show t - (-200 + 100 * ((t + 200) / 100)) = t - (100 * ((t + 200) / 100) - 200) by omega]
  exact Int.toNat_of_nonneg (interpolation_nonneg (Int.natCast_nonneg _) (Int.natCast_nonneg _) (by omega) (by omega))

/-! ### Strip loads and flags (R79 to R83) -/

theorem stripLoad_some (a v : Nat) (feff : Option Nat) :
    stripLoad (some a) v feff = if v = 0 then none else feff.map fun f => min (rawLoad a v f) 50000 := by
  cases feff with
  | none => split <;> rfl
  | some f => rfl

theorem stripLoad_eq (area : Option Nat) (v : Nat) (feff : Option Nat) :
    stripLoad area v feff = if v = 0 then none else area.bind fun a => feff.map fun f => min (rawLoad a v f) 50000 := by
  cases area with
  | none => split <;> rfl
  | some a => exact stripLoad_some a v feff

theorem stripSaturates_iff (area : Option Nat) (v : Nat) (feff : Option Nat) :
    stripSaturates area v feff = true ↔ v ≠ 0 ∧ ∃ a ∈ area, ∃ f ∈ feff, Config.axleMax < rawLoad a v f := by
  cases area <;> cases feff <;> simp [stripSaturates]

theorem axleSaturates_iff (f1 f2 : Option Nat) (a : Axle) : axleSaturates f1 f2 a = true ↔ a.speed.getD 0 ≠ 0 ∧
    ((∃ f ∈ f1, Config.axleMax < rawLoad a.s1Area (a.speed.getD 0) f) ∨
      ∃ area ∈ a.s2Area, ∃ f ∈ f2, Config.axleMax < rawLoad area (a.speed.getD 0) f) := by
  simp only [axleSaturates, Bool.or_eq_true, stripSaturates_iff, Option.mem_some_iff, exists_eq_left', ← and_or_left]

theorem axleSample_eq (m : Nat) (a : Axle) : axleSample m a = a.w1.bind fun x => a.w2.map fun y => stripsAgree m x y := by
  unfold axleSample
  cases a.w1 <;> cases a.w2 <;> rfl

theorem axleSample_false_iff (m : Nat) (a : Axle) :
    axleSample m a = some false ↔ ∃ x ∈ a.w1, ∃ y ∈ a.w2, m * max x y < absDiff x y * 1000 := by
  rw [axleSample_eq]
  cases a.w1 <;> cases a.w2 <;> simp [stripsAgree]

theorem lowSpeed_map (st : Settings) {f : Axle → Axle} (hf : ∀ a, (f a).speed = a.speed) (axles : List Axle) :
    lowSpeed st (axles.map f) = true ↔ ∃ a ∈ axles, 1 ≤ a.speed.getD 0 ∧ a.speed.getD 0 < st.weigh.vLow := by
  simp [lowSpeed, hf]

theorem pairedSpeeds_map {f : Axle → Axle} (hspeed : ∀ a, (f a).speed = a.speed) (hsource : ∀ a, (f a).source = a.source)
    (axles : List Axle) : pairedSpeeds (axles.map f) = pairedSpeeds axles := by
  simp only [pairedSpeeds, List.filterMap_map, Function.comp_def, hspeed, hsource]

theorem accelerates_iff (st : Settings) (axles : List Axle) : accelerates st axles = true ↔ 2 ≤ (pairedSpeeds axles).length ∧
    st.weigh.accelPct * (pairedSpeeds axles).headD 0 <
      absDiff ((pairedSpeeds axles).getLastD 0) ((pairedSpeeds axles).headD 0) * 100 := by
  unfold accelerates
  rcases pairedSpeeds axles with _ | ⟨v, _ | ⟨w, rest⟩⟩
  · simp
  · simp
  · simp [List.getLast?_cons]

/-! ### Spacings and groups (R85, R86) -/

/-- An axle without its spacing and group. -/
def bareAxle (a : Axle) : Axle := { a with spacing := none, group := none }
/-- An axle without its group. -/
def ungrouped (a : Axle) : Axle := { a with group := none }

theorem spaceFrom_bare (prev : Axle) (as : List Axle) : (spaceFrom prev as).map bareAxle = as.map bareAxle := by
  induction as generalizing prev with
  | nil => rfl
  | cons a as ih => exact congrArg (bareAxle a :: ·) (ih a)

theorem spaceAxles_bare (as : List Axle) : (spaceAxles as).map bareAxle = as.map bareAxle := by
  cases as with
  | nil => rfl
  | cons a as => exact congrArg (bareAxle a :: ·) (spaceFrom_bare a as)

theorem groupFrom_ungrouped (gap g n : Nat) (as : List Axle) : (groupFrom gap g n as).map ungrouped = as.map ungrouped := by
  induction as generalizing g n with
  | nil => rfl
  | cons a as ih =>
    rw [groupFrom]
    split
    · exact congrArg (ungrouped a :: ·) (ih _ _)
    · exact congrArg (ungrouped a :: ·) (ih _ _)

theorem groupAxles_ungrouped (gap : Nat) (as : List Axle) : (groupAxles gap as).map ungrouped = as.map ungrouped := by
  cases as with
  | nil => rfl
  | cons a as => exact congrArg (ungrouped a :: ·) (groupFrom_ungrouped gap 1 1 as)

theorem bareAxle_ungrouped (as : List Axle) : (as.map ungrouped).map bareAxle = as.map bareAxle := by
  rw [List.map_map]
  rfl

theorem spaced_bare (gap : Nat) (as : List Axle) : (groupAxles gap (spaceAxles as)).map bareAxle = as.map bareAxle := by
  rw [← bareAxle_ungrouped, groupAxles_ungrouped, bareAxle_ungrouped, spaceAxles_bare]

theorem spaceFrom_spacing (prev : Axle) (as : List Axle) (i : Nat) {a b : Axle} (ha : (prev :: as)[i]? = some a)
    (hb : (spaceFrom prev as)[i]? = some b) :
    b.spacing = some (travelDistance (ticksFrom a.s1Start b.s1Start) (b.speed.getD 0)) := by
  induction as generalizing prev i with
  | nil => simp [spaceFrom] at hb
  | cons x xs ih =>
    cases i with
    | zero =>
      cases ha
      cases hb
      rfl
    | succ i => exact ih x i (by simpa using ha) (by simpa [spaceFrom] using hb)

/-- An axle of the spaced list has the spacing to the one before it (R85). -/
theorem spaceAxles_spacing (as : List Axle) (i : Nat) {a b : Axle} (ha : (spaceAxles as)[i]? = some a)
    (hb : (spaceAxles as)[i + 1]? = some b) :
    b.spacing = some (travelDistance (ticksFrom a.s1Start b.s1Start) (b.speed.getD 0)) := by
  have hat : (as[i]?).map bareAxle = some (bareAxle a) := by
    rw [← List.getElem?_map, ← spaceAxles_bare, List.getElem?_map, ha, Option.map_some]
  obtain ⟨x, hx, hxa⟩ := Option.map_eq_some_iff.mp hat
  cases as with
  | nil => simp at hx
  | cons y ys =>
    have hstart : x.s1Start = a.s1Start := (congrArg Axle.s1Start hxa :)
    rw [← hstart]
    exact spaceFrom_spacing y ys i hx (by simpa [spaceAxles] using hb)

/-- The state of the grouping before the axles that follow: the last axle's group, and how many axles it holds so far. -/
structure Grouped (pre : List Axle) (g n : Nat) : Prop where
  last  : ∃ a, pre.getLast? = some a ∧ a.group = some g
  size  : pre.countP (·.group == some g) = n
  bound : ∀ a ∈ pre, ∃ k ≤ g, a.group = some k

theorem Grouped.same {pre : List Axle} {g n : Nat} (h : Grouped pre g n) {a : Axle} (ha : a.group = some g) :
    Grouped (pre ++ [a]) g (n + 1) where
  last := ⟨a, List.getLast?_concat, ha⟩
  size := by simp [h.size, ha]
  bound x hx := by
    rcases List.mem_append.mp hx with hx | hx
    · exact h.bound x hx
    · exact ⟨g, le_rfl, List.mem_singleton.mp hx ▸ ha⟩

theorem Grouped.next {pre : List Axle} {g n : Nat} (h : Grouped pre g n) {a : Axle} (ha : a.group = some (g + 1)) :
    Grouped (pre ++ [a]) (g + 1) 1 where
  last := ⟨a, List.getLast?_concat, ha⟩
  size := by
    have hnone : pre.countP (·.group == some (g + 1)) = 0 := List.countP_eq_zero.mpr fun x hx => by
      obtain ⟨k, hk, hg⟩ := h.bound x hx
      rw [hg, beq_iff_eq, Option.some.injEq]
      omega
    simp [hnone, ha]
  bound x hx := by
    rcases List.mem_append.mp hx with hx | hx
    · obtain ⟨k, hk, hg⟩ := h.bound x hx
      exact ⟨k, by omega, hg⟩
    · exact ⟨g + 1, le_rfl, List.mem_singleton.mp hx ▸ ha⟩

/-- The row of R86 for an axle of a grouped list and the one before it. -/
def GroupRow (gap : Nat) (as : List Axle) (i : Nat) : Prop := ∀ a b, as[i]? = some a → as[i + 1]? = some b →
  b.group = if b.spacing.any (· ≤ gap) = true ∧ (as.take (i + 1)).countP (·.group == a.group) < 3 then a.group else a.group.map (· + 1)

theorem groupFrom_row (gap : Nat) (as pre : List Axle) (g n : Nat) (h : Grouped pre g n) (i : Nat) (hi : pre.length ≤ i + 1) :
    GroupRow gap (pre ++ groupFrom gap g n as) i := by
  induction as generalizing pre g n with
  | nil =>
    intro a b _ hb
    rw [groupFrom, List.append_nil, List.getElem?_eq_none hi] at hb
    cases hb
  | cons x xs ih =>
    have hone : ∀ (y : Axle) (rest : List Axle), pre ++ y :: rest = (pre ++ [y]) ++ rest := fun y rest => List.append_cons _ _ _
    by_cases hend : pre.length = i + 1
    · intro a b ha hb
      have hi' : i < pre.length := by omega
      have hlast : a.group = some g := by
        obtain ⟨l, hl, hg⟩ := h.last
        rw [List.getElem?_append_left hi', ← show pre.length - 1 = i by omega, ← List.getLast?_eq_getElem?, hl] at ha
        cases ha
        exact hg
      rw [List.getElem?_append_right hi, hend, Nat.sub_self] at hb
      rw [List.take_append_of_le_length hend.ge, ← hend, List.take_length, hlast, h.size]
      rw [groupFrom] at hb
      simp only [Bool.and_eq_true, decide_eq_true_iff] at hb
      split at hb <;> cases hb <;> rename_i hc
      · exact (if_pos hc).symm
      · exact (if_neg hc).symm
    · have hnext : ∀ y : Axle, (pre ++ [y]).length ≤ i + 1 := fun y => by
        rw [List.length_append, List.length_singleton]
        omega
      rw [groupFrom]
      split
      · rw [hone]
        exact ih _ _ _ (h.same rfl) (hnext _)
      · rw [hone]
        exact ih _ _ _ (h.next rfl) (hnext _)

theorem groupAxles_row (gap : Nat) (as : List Axle) (i : Nat) : GroupRow gap (groupAxles gap as) i := by
  cases as with
  | nil =>
    intro a b ha
    simp [groupAxles] at ha
  | cons x xs =>
    refine groupFrom_row gap xs [{ x with group := some 1 }] 1 1 ⟨⟨_, rfl, rfl⟩, rfl, fun a ha => ?_⟩ i (Nat.le_add_left 1 i)
    exact ⟨1, le_rfl, List.mem_singleton.mp ha ▸ rfl⟩

theorem groupAxles_spacing (gap : Nat) (as : List Axle) (i : Nat) {a b : Axle} (ha : (groupAxles gap (spaceAxles as))[i]? = some a)
    (hb : (groupAxles gap (spaceAxles as))[i + 1]? = some b) :
    b.spacing = some (travelDistance (ticksFrom a.s1Start b.s1Start) (b.speed.getD 0)) := by
  have hat : ∀ (j : Nat) (x : Axle), (groupAxles gap (spaceAxles as))[j]? = some x →
      ∃ y, (spaceAxles as)[j]? = some y ∧ ungrouped y = ungrouped x := fun j x hx => by
    refine Option.map_eq_some_iff.mp ?_
    rw [← List.getElem?_map, ← groupAxles_ungrouped gap, List.getElem?_map, hx, Option.map_some]
  obtain ⟨x, hx, hxa⟩ := hat i a ha
  obtain ⟨y, hy, hyb⟩ := hat (i + 1) b hb
  have hrow := spaceAxles_spacing as i hx hy
  have hxstart : x.s1Start = a.s1Start := (congrArg Axle.s1Start hxa :)
  have hystart : y.s1Start = b.s1Start := (congrArg Axle.s1Start hyb :)
  have hspeed : y.speed = b.speed := (congrArg Axle.speed hyb :)
  have hspacing : y.spacing = b.spacing := (congrArg Axle.spacing hyb :)
  rw [hxstart, hystart, hspeed, hspacing] at hrow
  exact hrow

theorem groupAxles_head (gap : Nat) (as : List Axle) : ∀ a ∈ (groupAxles gap (spaceAxles as)).head?, a.spacing = none ∧ a.group = some 1 := by
  intro a ha
  cases as with
  | nil => cases ha
  | cons x xs =>
    cases ha
    exact ⟨rfl, rfl⟩

/-! ### Quality (R88, R89) -/

theorem any_paired_of_bare {as bs : List Axle} (h : as.map bareAxle = bs.map bareAxle) :
    (as.any fun a => a.source == .paired) = bs.any fun a => a.source == .paired := by
  have hall : ∀ cs : List Axle, (cs.any fun a => a.source == .paired) = (cs.map bareAxle).any fun a => a.source == .paired := fun cs => by
    rw [List.any_map]
    rfl
  rw [hall, h, ← hall]

theorem load_of_bare {as bs : List Axle} (h : as.map bareAxle = bs.map bareAxle) : grossOf as = grossOf bs := by
  have hall : ∀ cs : List Axle, grossOf cs = ((cs.map bareAxle).map fun a => a.load.getD 0).sum := fun cs => by
    rw [List.map_map]
    rfl
  rw [hall, h, ← hall]

/-! ### Agreement samples (R81, R158) -/

/-- The state with another record pool. -/
def withPool (p : List VRecord) (s : State) : State := { s with rtb.pool := p }

theorem placeReport_withPool (r : Report) (p : List VRecord) (s : State) : placeReport r (withPool p s) = withPool p (placeReport r s) := by
  have henq : enqueueReport r (withPool p s) = withPool p (enqueueReport r s) := by
    unfold enqueueReport
    by_cases hfull : Config.reportCap ≤ s.lki.reports.length
    · rw [if_pos hfull]
      exact if_pos hfull
    · rw [if_neg hfull]
      exact if_neg hfull
  have hkick : ∀ x : State, kick (withPool p x) = withPool p (kick x) := fun x => by
    unfold kick
    by_cases hstay : (x.lki.tx.isSome || x.lki.warmDue) = true
    · rw [if_pos hstay]
      exact if_pos hstay
    · rw [if_neg hstay]
      refine (if_neg hstay).trans ?_
      rw [show (withPool p x).lki = x.lki from rfl]
      split <;> rfl
  rw [placeReport, henq, hkick, placeReport]

/-- A change of an entry's state without its report (R153, R162). -/
def markedCond (ix : CondIx) (new : CondState) (s : State) : State :=
  formModes { s with cmn.conds := change s.cmn.conds ix fun e =>
    { e with st := new, changed := true, watch := if new == .recovering then some s.now else none, lapsed := false } }

theorem setCond_eq (ix : CondIx) (new : CondState) (s : State) : setCond ix new s =
    if s.cmn.conds[ix].st == new then s
    else if maskSelects (maskOf ix s) s.cmn.conds[ix].st new then
      placeReport (conditionReport ix s.cmn.conds[ix].st (markedCond ix new s)) (markedCond ix new s)
    else markedCond ix new s := rfl

theorem markedCond_withPool (ix : CondIx) (new : CondState) (p : List VRecord) (s : State) :
    markedCond ix new (withPool p s) = withPool p (markedCond ix new s) := rfl

theorem setCond_withPool (ix : CondIx) (new : CondState) (p : List VRecord) (s : State) :
    setCond ix new (withPool p s) = withPool p (setCond ix new s) := by
  rw [setCond_eq, setCond_eq, markedCond_withPool, placeReport_withPool, show (withPool p s).cmn = s.cmn from rfl,
    show maskOf ix (withPool p s) = maskOf ix s from rfl,
    show conditionReport ix s.cmn.conds[ix].st (withPool p (markedCond ix new s)) =
      conditionReport ix s.cmn.conds[ix].st (markedCond ix new s) from rfl]
  split
  · rfl
  · split <;> rfl

theorem giveClear_withPool (ix : CondIx) (p : List VRecord) (s : State) : giveClear ix (withPool p s) = withPool p (giveClear ix s) := by
  unfold giveClear
  rw [show (withPool p s).cmn = s.cmn from rfl]
  split
  · exact setCond_withPool _ _ p s
  · exact setCond_withPool _ _ p s
  · rfl
  · rfl

theorem giveGraded_withPool (ix : CondIx) (b : Bool) (t : Time) (p : List VRecord) (s : State) :
    giveGraded ix b t (withPool p s) = withPool p (giveGraded ix b t s) := by
  cases b
  · exact setCond_withPool _ _ p { s with cmn.conds := change s.cmn.conds ix (countCause t) }
  · exact setCond_withPool _ _ p { s with cmn.conds := change s.cmn.conds ix (countCause t) }

theorem agreementSample_withPool (l : Lane) (b : Bool) (p : List VRecord) (s : State) :
    agreementSample l b (withPool p s) = withPool p (agreementSample l b s) := by
  unfold agreementSample
  dsimp only
  rw [show (withPool p s).cmn = s.cmn from rfl]
  split
  · exact giveClear_withPool _ p { s with cmn.windows := put s.cmn.windows l _ }
  · split
    · rfl
    · exact giveGraded_withPool _ _ _ p { s with cmn.windows := put s.cmn.windows l _ }

theorem giveSamples_withPool (l : Lane) (bs : List Bool) (p : List VRecord) (s : State) :
    giveSamples l bs (withPool p s) = withPool p (giveSamples l bs s) := by
  induction bs generalizing s with
  | nil => rfl
  | cons b bs ih =>
    have hone := agreementSample_withPool l b p s
    have hrest := ih (agreementSample l b s)
    rw [← hone] at hrest
    exact hrest

theorem agreementSample_places (l : Lane) (agree : Bool) (s : State) :
    let win := keepNewest 16 (s.cmn.windows[l] ++ [agree])
    let dis := win.countP (!·)
    let old := s.cmn.conds[disagreeIx l]
    let e := if dis ≤ 2 then clearedEntry s.tbu.time old else if agree then old
      else causedEntry (decide (6 ≤ dis)) s.tbu.time old
    Places (changeReports (disagreeIx l) e s)
      (withEntry (disagreeIx l) e { s with cmn := { s.cmn with windows := put s.cmn.windows l win } }) (agreementSample l agree s) := by
  intro win dis old e
  let x : State := { s with cmn := { s.cmn with windows := put s.cmn.windows l win } }
  have hsample : agreementSample l agree s = if dis ≤ 2 then giveClear (disagreeIx l) x
      else if agree then x else giveGraded (disagreeIx l) (6 ≤ dis) s.now x := rfl
  rw [hsample]
  by_cases hfew : dis ≤ 2
  · rw [if_pos hfew, show e = clearedEntry s.tbu.time old from if_pos hfew]
    exact giveClear_places (disagreeIx l) x
  · rw [if_neg hfew]
    by_cases hagree : agree = true
    · have he : e = old := (if_neg hfew).trans (if_pos hagree)
      have hself : withEntry (disagreeIx l) old x = x := withEntry_self _ x
      have hnone : changeReports (disagreeIx l) old s = [] := (congrArg (changeReports (disagreeIx l) old) hself).symm.trans
        (changeReports_same (disagreeIx l) old x)
      rw [if_pos hagree, he, hnone, hself]
      exact Places.refl x
    · rw [if_neg hagree, show e = causedEntry (decide (6 ≤ dis)) s.tbu.time old from (if_neg hfew).trans (if_neg hagree)]
      exact giveGraded_places (disagreeIx l) _ s.tbu.time x

/-! ### A record weighed whole (R92) -/

theorem weighRecord_eq {s : State} {id : Nat} {r : VRecord} {c : CloseReading} (h : findRec s id = some r) (hc : r.reading = some c) :
    weighRecord id s = giveSamples r.lane (agreementSamples (s.settingsOf r.gen) (weighToAxles (s.settingsOf r.gen) c r))
      (changeRec id (fun _ => weighToAxles (s.settingsOf r.gen) c r) s) := by
  rw [weighRecord, h]
  dsimp only
  rw [hc, Option.getD_some]

theorem finishRecord_eq {s : State} {id : Nat} {r : VRecord} {c : CloseReading} (h : findRec s id = some r) (hc : r.reading = some c) :
    finishRecord id s = changeRec id (fun _ => finishWeighing (s.settingsOf r.gen) c r) s := by
  rw [finishRecord, h]
  dsimp only
  rw [hc, Option.getD_some]

theorem findRec_set {s : State} {id : Nat} {r w : VRecord} (h : findRec s id = some r) (hw : w.id = r.id) :
    (s.rtb.pool.map fun x => if x.id == id then w else x).find? (·.id == id) = some w := by
  have hr := findRec_id h
  rw [findRec] at h
  have hcomp : ((fun x : VRecord => x.id == id) ∘ fun x => if x.id == id then w else x) = fun x => x.id == id := funext fun x => by
    dsimp only [Function.comp]
    split
    · rw [hw, hr, beq_self_eq_true]
      exact (‹(x.id == id) = true›).symm
    · rfl
  rw [List.find?_map, hcomp, h, Option.map_some, hr, beq_self_eq_true, if_pos rfl]

/-- A record of the pool is weighed whole: its samples given, and the record replaced. -/
theorem finish_weighRecord {s : State} {id : Nat} {r : VRecord} {c : CloseReading} (h : findRec s id = some r) (hc : r.reading = some c) :
    let st := s.settingsOf r.gen
    let w := weighToAxles st c r
    finishRecord id (weighRecord id s) = withPool (s.rtb.pool.map fun x => if x.id == id then finishWeighing st c w else x)
      (giveSamples r.lane (agreementSamples st w) s) := by
  intro st w
  let pool := s.rtb.pool.map fun x => if x.id == id then w else x
  have hweigh : weighRecord id s = withPool pool (giveSamples r.lane (agreementSamples st w) s) :=
    (weighRecord_eq h hc).trans (giveSamples_withPool r.lane (agreementSamples st w) pool s)
  have hsst := (giveSamples_same r.lane (agreementSamples st w) s).sst
  generalize giveSamples r.lane (agreementSamples st w) s = y at hweigh hsst ⊢
  have hfind : findRec (withPool pool y) id = some w := findRec_set h rfl
  have hst : (withPool pool y).settingsOf w.gen = st := by
    rw [State.settingsOf, show (withPool pool y).sst = s.sst from hsst]
    rfl
  rw [hweigh, finishRecord_eq hfind hc, hst]
  have hpool : (pool.map fun x => if x.id == id then finishWeighing st c w else x) =
      s.rtb.pool.map fun x => if x.id == id then finishWeighing st c w else x := by
    rw [List.map_map]
    refine List.map_congr_left fun x _ => ?_
    have hid : w.id = id := findRec_id (v := r) h
    dsimp only [Function.comp]
    split
    · rw [if_pos (by rw [hid, beq_self_eq_true])]
    · rfl
  exact congrArg (withPool · y) hpool

end Sys2Proof.Machine

namespace Sys2Proof.Proofs

open Sys2Proof.Machine
open Sys2Proof.Safety

/-- Settles O25: the weighing by its stages, the samples by their notices, and the record handed on by the frame of the samples. -/
theorem weighingRules : Obligations.WeighingRules := by
  unfold Obligations.WeighingRules
  refine ⟨fun st c r => ?_, fun st c r => ?_, fun l agree s => (agreementSample_places l agree s).toPlacedFrom,
    fun id c r s h hc => ?_, fun id s => rfl⟩
  · intro q cf factor f1 f2 formed apart w paired
    have hspeed : ∀ a, (weighAxle st f1 f2 a).speed = a.speed := fun _ => rfl
    have hpaired : pairedSpeeds w.axles = paired := by
      refine (pairedSpeeds_map (f := weighAxle st f1 f2) (fun _ => rfl) (fun _ => rfl) r.axles).trans ?_
      simp only [pairedSpeeds, beq_iff_eq, paired]
    refine ⟨fun h => ?_, fun T hT => ⟨fun hlow => ?_, fun hhigh => ?_, fun hlow hhigh => ?_⟩, List.length_map _, fun p hp => ?_, ?_, ?_, ?_, ?_, ?_,
      rfl, ?_⟩
    · show tempFactor st c.temp = 4096
      rw [h]
      rfl
    · show (tempFactor st c.temp : Int) = q 0
      rw [hT, tempFactor, if_pos hlow]
      exact tempQ_toNat st 0
    · show (tempFactor st c.temp : Int) = q 8
      rw [hT, tempFactor, if_neg (by omega), if_pos hhigh]
      exact tempQ_toNat st 8
    · show (tempFactor st c.temp : Int) = _
      rw [hT]
      exact tempFactor_between st hlow hhigh
    · obtain ⟨ha, hb⟩ := zip_map_self _ _ p hp
      intro a b v
      have hw1 : b.w1 = if v = 0 then none else f1.map fun f => min (formed a.s1Area v f) 50000 := by
        show p.2.w1 = _
        rw [hb]
        exact stripLoad_some _ _ _
      have hw2 : b.w2 = if v = 0 then none else a.s2Area.bind fun area => f2.map fun f => min (formed area v f) 50000 := by
        show p.2.w2 = _
        rw [hb]
        exact stripLoad_eq _ _ _
      have hload : b.load = some (axleLoad st.weigh.agreePm b.w1 b.w2) := by
        show p.2.load = some (axleLoad _ p.2.w1 p.2.w2)
        rw [hb]
        rfl
      refine ⟨?_, hw1, hw2, fun x hx y hy => ?_, fun x hx hy => ?_, fun hx hy => ?_⟩
      · show p.2 = { p.1 with w1 := p.2.w1, w2 := p.2.w2, load := p.2.load }
        rw [hb]
        rfl
      · rw [hload, hx, hy]
        exact congrArg some (ite_congr (propext decide_eq_true_iff) (fun _ => rfl) fun _ => rfl)
      · rw [hload, hx, hy]
        rfl
      · rw [hload, hx, hy]
        rfl
    · show (r.flags.tempStale || c.temp.isNone) = true ↔ _
      rw [Bool.or_eq_true, Option.isNone_iff_eq_none]
    · show (r.flags.saturated || r.axles.any (axleSaturates f1 f2)) = true ↔ _
      rw [Bool.or_eq_true, List.any_eq_true]
      simp only [axleSaturates_iff]
      exact Iff.rfl
    · show (r.flags.disagree || w.axles.any fun a => axleSample st.weigh.agreePm a == some false) = true ↔ _
      rw [Bool.or_eq_true, List.any_eq_true]
      simp only [beq_iff_eq, axleSample_false_iff]
      exact Iff.rfl
    · show (r.flags.lowSpeed || lowSpeed st (r.axles.map (weighAxle st f1 f2))) = true ↔ _
      rw [Bool.or_eq_true, lowSpeed_map st hspeed]
    · show (r.flags.accel || accelerates st w.axles) = true ↔ _
      rw [Bool.or_eq_true, accelerates_iff, hpaired]
      exact Iff.rfl
    · rw [agreementSamples]
      exact List.filterMap_congr fun b _ => axleSample_eq _ b
  · intro z gross useless overdue f doubt bare
    have hbare : z.axles.map bareAxle = r.axles.map bareAxle := spaced_bare _ _
    have huseless : (!(z.axles.any fun a => a.source == .paired) || r.reasons.truncated || c.mode == .blanket) = true ↔ useless := by
      rw [any_paired_of_bare hbare, Bool.or_eq_true, Bool.or_eq_true, Bool.not_eq_true', List.any_eq_false, or_assoc]
      simp only [beq_iff_eq]
      exact Iff.rfl
    have hoverdue : readOverdue c = true ↔ overdue := Bool.or_eq_true_iff
    have hdoubt : (doubtFlag f || readOverdue c || c.mode == .degraded) = true ↔ doubt := by
      simp only [doubtFlag, Bool.or_eq_true, hoverdue, beq_iff_eq, or_assoc]
      exact Iff.rfl
    have hquality : z.quality = some (if useless then .u else if doubt then .b else .a) :=
      congrArg some (ite_congr (propext huseless) (fun _ => rfl) fun _ => ite_congr (propext hdoubt) (fun _ => rfl) fun _ => rfl)
    refine ⟨hbare, groupAxles_head _ _, fun i b hb => ?_, hquality, ?_, ?_⟩
    · intro a spacing size
      have ha : z.axles[i.val]? = some a := List.getElem?_eq_getElem i.isLt
      have hspacing : b.spacing = some spacing := groupAxles_spacing _ _ i.val ha hb
      refine ⟨hspacing, ?_⟩
      have hrow := groupAxles_row st.weigh.groupGap (spaceAxles r.axles) i.val a b ha hb
      rw [hspacing, Option.any_some] at hrow
      refine hrow.trans (ite_congr ?_ (fun _ => rfl) fun _ => rfl)
      rw [decide_eq_true_iff]
      rfl
    · have hflag : z.flags.zeroOverdue = (f.zeroOverdue || (z.quality == some .b && readOverdue c)) := rfl
      rw [hflag, Bool.or_eq_true, Bool.and_eq_true, hoverdue, beq_iff_eq, hquality]
      by_cases hu : useless
      · simp [hu]
      · by_cases hd : doubt
        · simp [hu, hd]
        · have hno : ¬ overdue := fun ho => hd (.inr (.inr (.inr (.inr (.inr (.inr (.inr (.inl ho))))))))
          simp [hu, hd, hno]
    · have hz : z = { r with
          axles := z.axles, gross := z.gross, quality := z.quality, upper := z.upper
          flags := { f with zeroOverdue := z.flags.zeroOverdue } } := rfl
      have hgross : z.gross = some gross := congrArg some (load_of_bare hbare)
      have hupper : z.upper = some (gross + gross * (if z.quality = some .a then st.weigh.marginA else st.weigh.marginB) / 1000) := by
        have hformed : z.upper = some (upperOf (marginOf st (z.quality.getD .u)) (z.gross.getD 0)) := rfl
        rw [hformed, hgross, hquality]
        simp [upperOf, marginOf]
      exact hz.trans (by rw [hgross, hupper])
  · rw [weighAndDecide, finish_weighRecord h hc]
    rfl

end Sys2Proof.Proofs
end

section
/-! SUPPORT. Proofs about a decision: the offer, what is written into the record, the hand-offs with their reports, and the expiry at the
decision (R95, R102, R118, R124). -/

namespace Sys2Proof.Machine

open Sys2Proof.Safety

/-! ### The offer (R102, R132) -/

/-- The state with a record at the tail of the admission queue. -/
def queuedFor (id : Nat) (s : State) : State :=
  changeRec id (fun r => { r with admission := .queued }) { s with dkc.queue := s.dkc.queue ++ [id] }

/-- The state after the offer of a provisional decision. -/
def offeredTo (id : Nat) (d : Decision) (s : State) : State :=
  if d = .passHeavy ∧ ¬ (d = .passHeavy ∧ 16 ≤ s.dkc.queue.length) then deckReview (queuedFor id s) else s

theorem offerDecision_eq (id : Nat) (d : Decision) (reasons : Reasons) (s : State) :
    offerDecision id d reasons s =
      (if d = .passHeavy ∧ 16 ≤ s.dkc.queue.length then .divert else d,
       if d = .passHeavy ∧ 16 ≤ s.dkc.queue.length then { reasons with queueFull := true } else reasons, offeredTo id d s) := by
  cases d with
  | passLight => simp [offerDecision, offeredTo]
  | divert => simp [offerDecision, offeredTo]
  | passHeavy =>
    rw [offerDecision, offer, offeredTo]
    by_cases hroom : s.dkc.queue.length < Config.queueCap
    · have hfull : ¬ (Decision.passHeavy = .passHeavy ∧ 16 ≤ s.dkc.queue.length) := fun h => absurd hroom (Nat.not_lt.mpr h.2)
      rw [if_pos hroom, if_neg hfull, if_neg hfull, if_pos ⟨rfl, hfull⟩]
      rfl
    · have hfull : Decision.passHeavy = .passHeavy ∧ 16 ≤ s.dkc.queue.length := ⟨rfl, Nat.not_lt.mp hroom⟩
      rw [if_neg hroom, if_pos hfull, if_pos hfull, if_neg fun h => h.2 hfull]
      rfl

theorem queuedFor_deckMoves (id : Nat) (s : State) : DeckMoves s (queuedFor id s) := (changeRec_deckMoves .queued id _).after rfl rfl rfl rfl

theorem offeredTo_deckMoves (id : Nat) (d : Decision) (s : State) : DeckMoves s (offeredTo id d s) := by
  rw [offeredTo]
  split
  · exact (queuedFor_deckMoves id s).trans (deckReview_deckMoves _)
  · exact .refl s

theorem offeredTo_same (id : Nat) (d : Decision) (s : State) : SameB s (offeredTo id d s) := by
  rw [offeredTo]
  split
  · have hqueued : SameB s (queuedFor id s) := by constructor <;> rfl
    exact hqueued.trans (deckReview_same _)
  · exact .rfl' s

theorem offeredTo_other {id : Nat} {d : Decision} (h : d ≠ .passHeavy) (s : State) : offeredTo id d s = s := if_neg fun hc => h hc.1

/-! ### The approach list (R115) -/

theorem insertByTime_split {α : Type} (time : α → Time) (x : α) (xs : List α) : ∃ i ≤ xs.length,
    insertByTime time x xs = xs.take i ++ x :: xs.drop i ∧ (∀ y ∈ xs.take i, earlier (time x) (time y) = false) ∧
    ∀ y ∈ (xs.drop i).head?, earlier (time x) (time y) = true := by
  induction xs with
  | nil => exact ⟨0, le_rfl, rfl, fun y hy => absurd hy List.not_mem_nil, fun y hy => absurd hy (Option.not_mem_none y)⟩
  | cons z zs ih =>
    rw [insertByTime]
    by_cases hz : earlier (time x) (time z) = true
    · rw [if_pos hz]
      exact ⟨0, Nat.zero_le _, rfl, fun y hy => absurd hy List.not_mem_nil, fun y hy => Option.mem_some_iff.mp hy ▸ hz⟩
    · rw [if_neg hz]
      obtain ⟨i, hi, heq, hsooner, hlater⟩ := ih
      refine ⟨i + 1, Nat.succ_le_succ hi, by rw [heq]; rfl, fun y hy => ?_, hlater⟩
      rcases List.mem_cons.mp hy with rfl | hy
      · exact Bool.eq_false_iff.mpr hz
      · exact hsooner y hy

theorem weighTimeOf_some {s : State} {id : Nat} {r : VRecord} (h : findRec s id = some r) : weighTimeOf s id = r.weighTime := by
  rw [weighTimeOf, h]
  rfl

/-! ### The hand-offs (R95, R107, R108, R165, R169) -/

theorem divertNotice_places (id : Nat) (s : State) :
    let holds := s.sst.live.link.traceMode = .holdOnDivert ∧ s.trs.held = none
    Places (if holds then [.traceHeld id s.tbu.time ((s.trs.ring.getLast?.map (·.index)).getD 0)] else [])
      { s with trs := if holds then { s.trs with held := some id } else s.trs } (divertNotice id s) := by
  intro holds
  have hiff : (s.sst.live.link.traceMode == .holdOnDivert && s.trs.held.isNone) = true ↔ holds := by
    rw [Bool.and_eq_true, beq_iff_eq, Option.isNone_iff_eq_none]
  rw [divertNotice]
  by_cases h : holds
  · rw [if_pos (hiff.mpr h), if_pos h, if_pos h]
    exact placeReport_places _ _
  · rw [if_neg fun hc => h (hiff.mp hc), if_neg h, if_neg h]
    exact .refl s

theorem startCamera_eq (l : Lane) (s : State) : startCamera l s = { s with
    dcu.camera := if l.val < s.sst.live.site.laneCount then put s.dcu.camera l (some (s.tbu.time + BitVec.ofNat 32 (s.sst.live.dec.camPulse * 100)))
      else s.dcu.camera } := by
  rw [startCamera]
  by_cases h : l.val < s.sst.live.site.laneCount
  · rw [if_pos ((lanePresent_iff _ _).mpr h), if_pos h]
    rfl
  · rw [if_neg fun hc => h ((lanePresent_iff _ _).mp hc), if_neg h]

theorem updateSnapshot_eq (r : VRecord) (s : State) : updateSnapshot r s = { s with
    dcu.snap := if s.dcu.frozen.isSome then s.dcu.snap else put s.dcu.snap r.lane (some (snapEntry r)) } := by
  rw [updateSnapshot]
  split <;> rfl

/-- What a decision puts into its lane's counters (R165). -/
def countedDecision (r : VRecord) (c : LaneCounters) : LaneCounters :=
  let diverted := c.diverted + (if r.decision = some .divert then 1 else 0)
  if r.quality = some .u ∨ r.quality = none then { c with unweighed := c.unweighed + 1, diverted := diverted }
  else { c with weighed := c.weighed + 1, diverted := diverted }

theorem countDecision_eq (r : VRecord) (s : State) :
    countDecision r s = { s with cmn.lanes := put s.cmn.lanes r.lane (countedDecision r s.cmn.lanes[r.lane]) } := by
  have hcount : ∀ c : LaneCounters, (if (r.quality == some .u || r.quality == none) = true then
        { c with unweighed := c.unweighed + 1, diverted := c.diverted + if (r.decision == some .divert) = true then 1 else 0 }
      else { c with weighed := c.weighed + 1, diverted := c.diverted + if (r.decision == some .divert) = true then 1 else 0 }) =
      countedDecision r c := fun c => by
    simp only [countedDecision, Bool.or_eq_true, beq_iff_eq]
  exact congrArg (fun c => { s with cmn.lanes := put s.cmn.lanes r.lane c }) (hcount s.cmn.lanes[r.lane])

/-- The decision of a written record holds the trace ring (R169). -/
abbrev HoldsRing (r : VRecord) (s : State) : Prop :=
  r.decision = some .divert ∧ s.sst.live.link.traceMode = .holdOnDivert ∧ s.trs.held = none

/-- The TRACE_HELD report of a decision (R169). -/
def heldReports (r : VRecord) (s : State) : List Report :=
  if HoldsRing r s then [.traceHeld r.id s.tbu.time ((s.trs.ring.getLast?.map (·.index)).getD 0)] else []

/-- The state after the hand-offs of a divert, without their reports (R107, R169). -/
def diverted (r : VRecord) (s : State) : State :=
  { s with
    trs := if HoldsRing r s then { s.trs with held := some r.id } else s.trs
    dcu.camera := if r.decision = some .divert ∧ r.lane.val < s.sst.live.site.laneCount then
      put s.dcu.camera r.lane (some (s.tbu.time + BitVec.ofNat 32 (s.sst.live.dec.camPulse * 100))) else s.dcu.camera }

theorem divertHandOff_places (r : VRecord) (s : State) : Places (heldReports r s) (diverted r s) (divertHandOff r s) := by
  rw [divertHandOff]
  by_cases h : r.decision = some .divert
  · have hnotice := divertNotice_places r.id s
    have hcamera := hnotice.map (startCamera r.lane) (fun u => by rw [startCamera_eq, startCamera_eq]; rfl)
      (fun u => by rw [startCamera_eq]) fun u => by rw [startCamera_eq]
    rw [if_pos (beq_iff_eq.mpr h)]
    have hrs : heldReports r s = if s.sst.live.link.traceMode = .holdOnDivert ∧ s.trs.held = none then
        [.traceHeld r.id s.tbu.time ((s.trs.ring.getLast?.map (·.index)).getD 0)] else [] := by
      simp only [heldReports, HoldsRing, h, true_and]
    have hstate : diverted r s = startCamera r.lane { s with
        trs := if s.sst.live.link.traceMode = .holdOnDivert ∧ s.trs.held = none then { s.trs with held := some r.id } else s.trs } := by
      simp only [startCamera_eq, diverted, HoldsRing, h, true_and]
    rw [hrs, hstate]
    exact hcamera
  · have hrs : heldReports r s = [] := if_neg fun hc => h hc.1
    have hstate : diverted r s = s := by simp only [diverted, HoldsRing, h, false_and, if_false]
    rw [if_neg fun hc => h (beq_iff_eq.mp hc), hrs, hstate]
    exact .refl s

/-- The hand-offs of a decision in their order (R95). -/
def handOff (id : Nat) (r : VRecord) (s : State) : State :=
  updateSnapshot r (divertHandOff r (countDecision r (placeReport (vehicleReport r) (enterApproach r.lane id s))))

/-- The state after the hand-offs of a decision, without their reports. -/
def handedOff (id : Nat) (r : VRecord) (s : State) : State :=
  { s with
    rtb.approach := change s.rtb.approach r.lane (insertByTime (weighTimeOf s) id)
    cmn.lanes := put s.cmn.lanes r.lane (countedDecision r s.cmn.lanes[r.lane])
    trs := if HoldsRing r s then { s.trs with held := some r.id } else s.trs
    dcu.camera := if r.decision = some .divert ∧ r.lane.val < s.sst.live.site.laneCount then
      put s.dcu.camera r.lane (some (s.tbu.time + BitVec.ofNat 32 (s.sst.live.dec.camPulse * 100))) else s.dcu.camera
    dcu.snap := if s.dcu.frozen.isSome then s.dcu.snap else put s.dcu.snap r.lane (some (snapEntry r)) }

theorem handOff_places (id : Nat) (r : VRecord) (s : State) :
    Places (vehicleReport r :: heldReports r s) (handedOff id r s) (handOff id r s) := by
  have hreport := placeReport_places (vehicleReport r) (enterApproach r.lane id s)
  have hcount := hreport.map (countDecision r) (fun u => by rw [countDecision_eq, countDecision_eq]; rfl)
    (fun u => by rw [countDecision_eq]) fun u => by rw [countDecision_eq]
  have hheld := (hcount.map (diverted r) (fun _ => rfl) (fun _ => rfl) fun _ => rfl).trans (divertHandOff_places r _)
  rw [show heldReports r (countDecision r (placeReport (vehicleReport r) (enterApproach r.lane id s))) = heldReports r s from
    hcount.same (heldReports r) fun _ => rfl] at hheld
  have hsnap := hheld.map (updateSnapshot r) (fun u => by rw [updateSnapshot_eq, updateSnapshot_eq]; rfl)
    (fun u => by rw [updateSnapshot_eq]) fun u => by rw [updateSnapshot_eq]
  rw [updateSnapshot_eq, countDecision_eq] at hsnap
  exact hsnap

/-! ### What is decided (R95, R118) -/

/-- The state with a decision written into its record, which is PENDING no more (R95). -/
def decidedState (id cls : Nat) (d : Decision) (reasons : Reasons) (s : State) : State :=
  leavePending id (changeRec id (writeDecision cls d reasons s.sst.live s.tbu.time) s)

/-- The decision of a record: its class number, the decision after the offer, and its reasons. -/
structure Decided where
  cls     : Nat
  first   : Decision
  d       : Decision
  reasons : Reasons

/-- What is decided of a record (R96 to R102). -/
def decidedOf (s : State) (r : VRecord) : Decided :=
  let cls := classOf (s.settingsOf r.gen) r
  let first := decideOf (s.settingsOf r.gen) cls.2.1 cls.2.2 r
  let full := first.1 = .passHeavy ∧ 16 ≤ s.dkc.queue.length
  ⟨cls.1, first.1, if full then .divert else first.1, if full then { first.2 with queueFull := true } else first.2⟩

theorem findRec_decidedState (id cls : Nat) (d : Decision) (reasons : Reasons) (s : State) :
    findRec (decidedState id cls d reasons s) id = (findRec s id).map (writeDecision cls d reasons s.sst.live s.tbu.time) :=
  findRec_changeRec_self (f := writeDecision cls d reasons s.sst.live s.tbu.time) (fun _ => rfl) id s

theorem findRec_handOff (id : Nat) (r2 : VRecord) (x : State) (k : Nat) : findRec (handOff id r2 x) k = findRec x k := by
  rw [findRec, (handOff_places id r2 x).rtb]
  rfl

theorem handOff_dkc (id : Nat) (r : VRecord) (s : State) : (handOff id r s).dkc = s.dkc := by
  have hnotice : ∀ u : State, (divertNotice r.id u).dkc = u.dkc := fun u => by
    rw [divertNotice]
    split
    · exact placeReport_dkc _ _
    · rfl
  have hdivert : ∀ u : State, (divertHandOff r u).dkc = u.dkc := fun u => by
    rw [divertHandOff]
    split
    · rw [startCamera_eq]
      exact hnotice u
    · rfl
  rw [handOff, updateSnapshot_eq]
  refine (hdivert _).trans ?_
  rw [countDecision_eq]
  exact placeReport_dkc _ _

section Decide

variable {id : Nat} {r : VRecord} {s : State} (h : findRec s id = some r)

include h

theorem decideRecord_eq : decideRecord id s =
    let x := decidedState id (decidedOf s r).cls (decidedOf s r).d (decidedOf s r).reasons (offeredTo id (decidedOf s r).first s)
    match findRec x id with
    | none => x
    | some r2 => expireAtDecision id (handOff id r2 x) := by
  rw [decideRecord, h]
  dsimp only
  rw [offerDecision_eq]
  rfl

theorem offeredTo_record {d : Decision} {x : VRecord} (hx : findRec (offeredTo id d s) id = some x) :
    ∃ a, x = { r with admission := a } := by
  obtain ⟨y, a, hy, rfl⟩ := (offeredTo_deckMoves id d s).records id x hx
  rw [h] at hy
  cases hy
  exact ⟨a, rfl⟩

theorem decideRecord_gone (hgone : findRec (offeredTo id (decidedOf s r).first s) id = none) : decideRecord id s =
    decidedState id (decidedOf s r).cls (decidedOf s r).d (decidedOf s r).reasons (offeredTo id (decidedOf s r).first s) := by
  rw [decideRecord_eq h]
  dsimp only
  rw [findRec_decidedState, hgone]
  rfl

/-- The record as the decision leaves it (R95, R118). -/
def writtenOf (s : State) (r : VRecord) (a : Admission) : VRecord :=
  writeDecision (decidedOf s r).cls (decidedOf s r).d (decidedOf s r).reasons s.sst.live s.tbu.time { r with admission := a }

theorem decideRecord_stands {x : VRecord} (hx : findRec (offeredTo id (decidedOf s r).first s) id = some x) :
    let y := decidedState id (decidedOf s r).cls (decidedOf s r).d (decidedOf s r).reasons (offeredTo id (decidedOf s r).first s)
    findRec y id = some (writtenOf s r x.admission) ∧
    decideRecord id s = expireAtDecision id (handOff id (writtenOf s r x.admission) y) := by
  intro y
  obtain ⟨a, rfl⟩ := offeredTo_record h hx
  have hsame := offeredTo_same id (decidedOf s r).first s
  have hfind : findRec y id = some (writtenOf s r a) := by
    rw [findRec_decidedState, hx, Option.map_some, hsame.sst, hsame.tbu]
    rfl
  refine ⟨hfind, ?_⟩
  rw [decideRecord_eq h]
  dsimp only
  rw [hfind]

theorem expireAtDecision_young (hout : r.outlived = false)
    (hyoung : (s.tbu.time - r.weighTime).toNat < s.sst.live.track.trackTtl * 100000) : expireAtDecision id s = s := by
  have hpassed : passed s.now r.weighTime (secs s.sst.live.track.trackTtl) = false :=
    Bool.eq_false_iff.mpr fun hp => absurd ((passed_iff _ _ _).mp hp) (Nat.not_le.mpr hyoung)
  rw [expireAtDecision, h]
  dsimp only
  rw [hout, hpassed]
  rfl

theorem expireAtDecision_old (hold : r.outlived = true ∨ s.sst.live.track.trackTtl * 100000 ≤ (s.tbu.time - r.weighTime).toNat) :
    expireAtDecision id s = closeRecord id
      (if r.decision = some .divert ∧ inService s dLoop = false then .divertAssumed else .lost) (withdraw r s) := by
  have hdue : (r.outlived || passed s.now r.weighTime (secs s.sst.live.track.trackTtl)) = true := by
    rw [Bool.or_eq_true]
    exact hold.imp_right fun hp => (passed_iff _ _ _).mpr hp
  rw [expireAtDecision, h]
  dsimp only
  rw [if_pos hdue, expireRecord, h]
  dsimp only
  simp only [Bool.and_eq_true, beq_iff_eq, Bool.not_eq_true']

end Decide

/-! ### The pending lists (R115) -/

theorem mem_pendings (s : State) (p : PendingRecord) : p ∈ s.las.toList.flatMap (·.pendingList) ↔ ∃ l : Lane, p ∈ s.las[l].pendingList := by
  rw [List.mem_flatMap]
  constructor
  · rintro ⟨a, ha, hp⟩
    obtain ⟨i, hi, rfl⟩ := Vector.mem_iff_getElem.mp (Vector.mem_toList_iff.mp ha)
    exact ⟨⟨i, hi⟩, hp⟩
  · rintro ⟨l, hp⟩
    exact ⟨s.las[l], Vector.mem_toList_iff.mpr (Vector.getElem_mem l.isLt), hp⟩

theorem pendingEntry_none_iff (s : State) (id : Nat) : pendingEntry s id = none ↔ ∀ l : Lane, ∀ p ∈ s.las[l].pendingList, p.id ≠ id := by
  rw [pendingEntry, List.find?_eq_none]
  simp only [mem_pendings, beq_iff_eq]
  exact ⟨fun hno l p hp => hno p ⟨l, hp⟩, fun hno p ⟨l, hp⟩ => hno l p hp⟩

theorem leavePending_las (id : Nat) (s : State) (l : Lane) :
    (leavePending id s).las[l] = { s.las[l] with pendingList := s.las[l].pendingList.filter (·.id != id) } := mapVec_getElem _ _ _

theorem leavePending_gone (id : Nat) (s : State) : pendingEntry (leavePending id s) id = none := by
  rw [pendingEntry_none_iff]
  intro l p hp
  rw [leavePending_las, List.mem_filter, bne_iff_ne] at hp
  exact hp.2

end Sys2Proof.Machine

namespace Sys2Proof.Proofs

open Sys2Proof.Machine
open Sys2Proof.Safety

/-- Settles O27: the offer, the writing and the hand-offs in their order, and the expiry at the decision. -/
theorem decisionIsWritten : Obligations.DecisionIsWritten := by
  unfold Obligations.DecisionIsWritten
  refine ⟨fun id r s h hout hyoung => ?_, fun id r s h hold => ?_⟩
  · intro cls first offered full queued y d speed vn signTime t r1 hr1 site track fast crawl windows r2 report holds
    have hy : offeredTo id (decidedOf s r).first s = y := rfl
    obtain ⟨hfind, ht⟩ := decideRecord_stands h (x := r1) hr1
    have hsame : SameB s y := offeredTo_same id (decidedOf s r).first s
    have hmoves : DeckMoves s y := offeredTo_deckMoves id (decidedOf s r).first s
    have hr2 : writtenOf s r r1.admission = r2 := rfl
    have hd : (decidedOf s r).d = d := rfl
    have hreasons : (decidedOf s r).reasons = r2.reasons := rfl
    have hcls : (decidedOf s r).cls = cls.1 := rfl
    rw [hy, hd, hreasons, hcls, hr2] at hfind ht
    let x := decidedState id cls.1 d r2.reasons y
    have hp : Places (vehicleReport r2 :: heldReports r2 x) (handedOff id r2 x) t ∧ t.dkc = y.dkc := by
      have hstay : expireAtDecision id (handOff id r2 x) = handOff id r2 x := by
        refine expireAtDecision_young (r := r2) (by rw [findRec_handOff]; exact hfind) hout ?_
        have hp := handOff_places id r2 x
        rw [hp.tbu, hp.live, show (handedOff id r2 x).tbu = s.tbu from hsame.tbu, show (handedOff id r2 x).sst = s.sst from hsame.sst]
        exact hyoung
      rw [show t = handOff id r2 x from ht.trans hstay]
      exact ⟨handOff_places id r2 x, handOff_dkc _ _ _⟩
    obtain ⟨hp, hdkc⟩ := hp
    have hholds : HoldsRing r2 x ↔ holds := by
      rw [HoldsRing, show x.sst = s.sst from hsame.sst, show x.trs = s.trs from hsame.trs]
      exact and_congr_left' Option.some_inj
    have hdivert : (r2.decision = some .divert) = (d = .divert) := propext Option.some_inj
    refine ⟨?_, ?_, ?_, ?_, ?_, ?_, ?_, ?_, ?_, hdkc, hp.same (·.rtb.history) fun _ => rfl, ?_⟩
    · have hpool : t.rtb.pool = y.rtb.pool.map fun x => if x.id == id then writeDecision cls.1 d r2.reasons y.sst.live y.tbu.time x else x :=
        hp.same (·.rtb.pool) fun _ => rfl
      rw [hpool, hsame.sst, hsame.tbu]
    · rw [findRec, hp.rtb]
      exact hfind
    · rw [pendingEntry, hp.las]
      exact leavePending_gone id _
    · obtain ⟨i, hi, heq, hsooner, hlater⟩ := insertByTime_split (weighTimeOf x) id y.rtb.approach[r.lane]
      have htime : ∀ k v, findRec y k = some v → weighTimeOf x k = v.weighTime := fun k v hv => by
        have hxk : findRec x k = (findRec y k).map fun z => if z.id == id then writeDecision cls.1 d r2.reasons y.sst.live y.tbu.time z else z :=
          findRec_changeRec (f := writeDecision cls.1 d r2.reasons y.sst.live y.tbu.time) (fun _ => rfl) id k y
        rw [hv, Option.map_some] at hxk
        rw [weighTimeOf_some hxk]
        split <;> rfl
      rw [weighTimeOf_some hfind] at hsooner hlater
      refine ⟨i, hi, ?_, fun k hk v hv => htime k v hv ▸ hsooner k hk, fun k hk v hv => htime k v hv ▸ hlater k hk⟩
      have happroach : t.rtb.approach = put y.rtb.approach r.lane (insertByTime (weighTimeOf x) id y.rtb.approach[r.lane]) :=
        hp.same (·.rtb.approach) fun _ => rfl
      rw [happroach, heq]
    · have hreports := hp.reports
      rw [heldReports, if_congr hholds rfl rfl, show x.tbu = s.tbu from hsame.tbu, show x.trs = s.trs from hsame.trs] at hreports
      exact hreports
    · refine (hp.same (·.trs) fun _ => rfl).trans ?_
      show (if HoldsRing r2 x then { y.trs with held := some r2.id } else y.trs) = _
      rw [if_congr hholds rfl rfl, hsame.trs]
    · refine (hp.same (·.cmn.lanes) fun _ => rfl).trans ?_
      show put y.cmn.lanes r2.lane (countedDecision r2 y.cmn.lanes[r2.lane]) = _
      rw [hmoves.lanes, countedDecision]
      simp only [hdivert]
      rfl
    · refine (hp.same (·.dcu.camera) fun _ => rfl).trans ?_
      show (if r2.decision = some .divert ∧ _ then put y.dcu.camera r2.lane (some (y.tbu.time + BitVec.ofNat 32 (y.sst.live.dec.camPulse * 100)))
        else y.dcu.camera) = _
      rw [show x.sst = s.sst from hsame.sst, hsame.dcu, hsame.tbu, hsame.sst]
      exact if_congr (and_congr_left' Option.some_inj) rfl rfl
    · refine (hp.same (·.dcu.snap) fun _ => rfl).trans ?_
      show (if y.dcu.frozen.isSome then y.dcu.snap else put y.dcu.snap r2.lane (some (snapEntry r2))) = _
      rw [hsame.dcu]
      rfl
    · rw [hp.las, toList_three, toList_three]
      have hfifo : ∀ l : Lane, (handedOff id r2 x).las[l].fifo = s.las[l].fifo := fun l =>
        (congrArg LasState.fifo (leavePending_las id _ l)).trans (hmoves.fifos l)
      simp only [List.map_cons, List.map_nil, hfifo]
  · intro cls d t
    let y := offeredTo id (decidedOf s r).first s
    have hsame : SameB s y := offeredTo_same id (decidedOf s r).first s
    have hmoves : DeckMoves s y := offeredTo_deckMoves id (decidedOf s r).first s
    let x := decidedState id (decidedOf s r).cls (decidedOf s r).d (decidedOf s r).reasons y
    cases hr1 : findRec y id with
    | none =>
      have ht : t = x := decideRecord_gone h hr1
      have hleft := hmoves.left id (by rw [h]; exact Option.some_ne_none r) hr1
      rw [ht]
      refine ⟨?_, hleft, fun hd => ?_⟩
      · rw [findRec_decidedState, hr1]
        rfl
      · have hys : y = s := offeredTo_other hd s
        rw [hys, h] at hr1
        cases hr1
    | some r1 =>
      obtain ⟨hfind, ht⟩ := decideRecord_stands h (x := r1) hr1
      let r2 := writtenOf s r r1.admission
      let z := handOff id r2 x
      have hz : findRec z id = some r2 := (findRec_handOff id r2 x id).trans hfind
      have hp := handOff_places id r2 x
      have htbu : z.tbu = s.tbu := hp.tbu.trans hsame.tbu
      have hlive : z.sst.live = s.sst.live := hp.live.trans (congrArg (fun u => u.live) hsame.sst :)
      have hexpired := expireAtDecision_old hz (by rw [htbu, hlive]; exact hold)
      have htz : t = _ := ht.trans hexpired
      have hservice : inService z dLoop = inService s dLoop := by
        have hliu : z.liu = s.liu := (hp.same (·.liu) fun _ => rfl).trans hsame.liu
        rw [inService, hlive, hliu, inService]
      rw [htz]
      refine ⟨closeRecord_gone _ _ _, closed_left hz (withdraw_deckMoves r2 z) _, fun hd ha hroom => ?_⟩
      have hys : y = s := offeredTo_other hd s
      have hadm : r2.admission = .none := by
        rw [hys, h] at hr1
        cases hr1
        exact ha
      have hwithdraw : withdraw r2 z = z := withdraw_other (by rw [hadm]; decide) (by rw [hadm]; decide) z
      have hpool : z.rtb.pool.length = s.rtb.pool.length := by
        rw [hp.rtb]
        exact (List.length_map _).trans (congrArg (fun u : State => u.rtb.pool.length) hys)
      have hhistory : z.rtb.history = s.rtb.history := by
        rw [hp.rtb]
        exact (congrArg (fun u : State => u.rtb.history) hys :)
      have hmem := mem_closeRecord_history (d := if r2.decision = some .divert ∧ inService z dLoop = false then .divertAssumed else .lost) hz
        (by rw [hpool, hhistory]; exact hroom)
      have hfirst : (decidedOf s r).d = d := if_neg fun hc => hd hc.1
      rw [hwithdraw]
      refine ⟨_, hmem, findRec_id hz, congrArg (fun u : TbuState => u.time) htbu, congrArg some hfirst, ?_⟩
      show (if r2.decision = some .divert ∧ _ then Disposition.divertAssumed else .lost) = _
      rw [show r2.decision = some d from congrArg some hfirst, hservice]
      exact if_congr (and_congr_left' Option.some_inj) rfl rfl

end Sys2Proof.Proofs
end

section
/-! SUPPORT. What the operations of the deck do to the entries of its lists, to the grants and to the grant times (R133 to R135, R142, R143). -/

namespace Sys2Proof.Machine

open Sys2Proof.Safety

/-! ### The frame of lists and grants -/

/-- An entry of a deck order list that names the same record and carries the same time and latches as another. -/
structure SameEntry (old e : DeckEntry) : Prop where
  recId    : e.recId = old.recId
  time     : e.entryTime = old.entryTime
  aged     : e.aged = old.aged
  agedFull : e.agedFull = old.agedFull

theorem SameEntry.refl (e : DeckEntry) : SameEntry e e := ⟨rfl, rfl, rfl, rfl⟩

theorem SameEntry.trans {a b c : DeckEntry} (h : SameEntry a b) (k : SameEntry b c) : SameEntry a c :=
  ⟨k.recId.trans h.recId, k.time.trans h.time, k.aged.trans h.aged, k.agedFull.trans h.agedFull⟩

/-- What operations without an arrival leave between s and t: the lists gain no entry, a record whose entry goes has left the pool, and every
new grant has the present time. -/
structure DeckFlow (s t : State) : Prop where
  entries : ∀ l : Lane, ∀ e ∈ t.dkc.lists[l], ∃ old ∈ s.dkc.lists[l], SameEntry old e
  left    : ∀ l : Lane, ∀ e ∈ s.dkc.lists[l], ∀ id, e.recId = some id →
              (∃ x ∈ t.dkc.lists[l], x.recId = some id) ∨ findRec t id = none
  gone    : ∀ id, findRec s id = none → findRec t id = none
  grants  : ∀ g ∈ t.dkc.grants, g ∈ s.dkc.grants ∨ g.time = s.tbu.time
  last    : t.dkc.lastGrant = s.dkc.lastGrant ∨ ∃ g, t.dkc.lastGrant = some g ∧ g.time = s.tbu.time
  times   : ∃ n, t.dkc.grantTimes = s.dkc.grantTimes ++ List.replicate n s.tbu.time
  tbu     : t.tbu = s.tbu

theorem DeckFlow.trans {s t u : State} (h : DeckFlow s t) (k : DeckFlow t u) : DeckFlow s u where
  entries l e he := by
    obtain ⟨x, hx, hsame⟩ := k.entries l e he
    obtain ⟨old, hold, hfirst⟩ := h.entries l x hx
    exact ⟨old, hold, hfirst.trans hsame⟩
  left l e he id hid := by
    rcases h.left l e he id hid with ⟨x, hx, hxid⟩ | hgone
    · exact k.left l x hx id hxid
    · exact .inr (k.gone id hgone)
  gone id hid := k.gone id (h.gone id hid)
  grants g hg := by
    rcases k.grants g hg with hg | hg
    · exact h.grants g hg
    · exact .inr (hg.trans (congrArg TbuState.time h.tbu))
  last := by
    rcases k.last with hk | ⟨g, hg, ht⟩
    · rw [hk]
      exact h.last
    · exact .inr ⟨g, hg, ht.trans (congrArg TbuState.time h.tbu)⟩
  times := by
    obtain ⟨n, hn⟩ := h.times
    obtain ⟨m, hm⟩ := k.times
    refine ⟨n + m, ?_⟩
    rw [hm, hn, h.tbu, List.append_assoc, List.replicate_append_replicate]
  tbu := k.tbu.trans h.tbu

/-- An operation that leaves lists, last grant and grant times, and gives no grant. -/
theorem DeckFlow.of_kept {s t : State} (hgone : ∀ id, findRec s id = none → findRec t id = none) (htbu : t.tbu = s.tbu)
    (hlists : t.dkc.lists = s.dkc.lists) (hgrants : ∀ g ∈ t.dkc.grants, g ∈ s.dkc.grants) (hlast : t.dkc.lastGrant = s.dkc.lastGrant)
    (htimes : t.dkc.grantTimes = s.dkc.grantTimes) : DeckFlow s t where
  entries l e he := ⟨e, hlists ▸ he, .refl e⟩
  left l e he id hid := .inl ⟨e, hlists ▸ he, hid⟩
  gone := hgone
  grants g hg := .inl (hgrants g hg)
  last := .inl hlast
  times := ⟨0, by rw [htimes, List.replicate_zero, List.append_nil]⟩
  tbu := htbu

theorem DeckFlow.refl (s : State) : DeckFlow s s := .of_kept (fun _ h => h) rfl rfl (fun _ h => h) rfl rfl

/-- An operation that leaves the Deck Controller's state. -/
theorem DeckFlow.of_dkc {s t : State} (hgone : ∀ id, findRec s id = none → findRec t id = none) (htbu : t.tbu = s.tbu)
    (hdkc : t.dkc = s.dkc) : DeckFlow s t :=
  .of_kept hgone htbu (by rw [hdkc]) (fun _ h => hdkc ▸ h) (by rw [hdkc]) (by rw [hdkc])

/-- An operation after a change of the Deck Controller's state alone that leaves lists, grants, last grant and grant times. -/
theorem DeckFlow.after {s x t : State} (k : DeckFlow x t) (hr : x.rtb = s.rtb) (ht : x.tbu = s.tbu) (hl : x.dkc.lists = s.dkc.lists)
    (hg : x.dkc.grants = s.dkc.grants) (hlast : x.dkc.lastGrant = s.dkc.lastGrant) (htimes : x.dkc.grantTimes = s.dkc.grantTimes) :
    DeckFlow s t :=
  (DeckFlow.of_kept (fun id h => by rwa [findRec, hr]) ht hl (fun _ h => hg ▸ h) hlast htimes).trans k

theorem DeckFlow.foldl {β : Type} {f : State → β → State} (h : ∀ s b, DeckFlow s (f s b)) (bs : List β) (s : State) :
    DeckFlow s (bs.foldl f s) := by
  induction bs generalizing s with
  | nil => exact .refl s
  | cons b bs ih => exact (h s b).trans (ih _)

/-! ### The operations of the deck -/

theorem closeRecord_flow (id : Nat) (d : Disposition) (s : State) : DeckFlow s (closeRecord id d s) :=
  .of_dkc (closeRecord_deckMoves id d s).gone (closeRecord_same id d s).tbu (closeRecord_dkc id d s)

theorem flushLane_flow (s : State) (l : Lane) : DeckFlow s (flushLane s l) where
  entries k e he := by
    by_cases hk : k = l
    · rw [hk, flushLane_lists_self] at he
      cases he
    · rw [flushLane_lists_other hk] at he
      exact ⟨e, he, .refl e⟩
  left k e he id hid := by
    by_cases hk : k = l
    · subst hk
      exact .inr (flushLane_gone he hid)
    · rw [flushLane_lists_other hk]
      exact .inl ⟨e, he, hid⟩
  gone := (flushLane_deckMoves s l).gone
  grants g hg := by
    rw [flushLane_dkc] at hg
    exact .inl hg
  last := by
    rw [flushLane_dkc]
    exact .inl rfl
  times := by
    rw [flushLane_dkc]
    exact ⟨0, (List.append_nil _).symm⟩
  tbu := (flushLane_same s l).tbu

theorem grantHead_flow (id u : Nat) (s : State) : DeckFlow s (grantHead id u s) where
  entries l e he := ⟨e, he, .refl e⟩
  left l e he k hk := .inl ⟨e, he, hk⟩
  gone := (grantHead_deckMoves id u s).gone
  grants g hg := (List.mem_append.mp hg).imp_right fun hnew => by rw [List.mem_singleton.mp hnew]; rfl
  last := .inr ⟨_, rfl, rfl⟩
  times := ⟨1, rfl⟩
  tbu := rfl

theorem arbitrate_flow (s : State) : DeckFlow s (arbitrate s) := by
  have hupTo : ∀ (n : Nat) (u : State), DeckFlow u (arbitrateUpTo n u) := fun n => by
    induction n with
    | zero => exact DeckFlow.refl
    | succ n ih =>
      intro u
      rw [arbitrateUpTo]
      split
      · split
        · exact (grantHead_flow _ _ u).trans (ih _)
        · exact .refl u
      · exact .refl u
  exact hupTo _ s

theorem deckAs_flow (new : DeckSt) (s : State) : DeckFlow s (deckAs new s) := (arbitrate_flow _).after rfl rfl rfl rfl rfl rfl

theorem changeDeck_flow (new : DeckSt) (c : DeckCause) (s : State) : DeckFlow s (changeDeck new c s) := by
  have hp := changeDeck_places new c s
  refine (deckAs_flow new s).trans (.of_dkc (fun id h => ?_) hp.tbu (changeDeck_granting new c s))
  rwa [findRec, hp.rtb]

theorem formOverload_flow (s : State) : DeckFlow s (formOverload s) := (DeckFlow.refl _).after rfl rfl rfl rfl rfl rfl

theorem cancelGrants_flow (s : State) : DeckFlow s (cancelGrants s) := by
  refine .of_kept (cancelGrants_deckMoves s).gone (cancelGrants_same s).tbu ?_ (fun g hg => ?_) ?_ ?_
  · rw [cancelGrants_dkc]
  · rw [cancelGrants_dkc] at hg
    cases hg
  · rw [cancelGrants_dkc]
  · rw [cancelGrants_dkc]

theorem enterResync_flow (c : DeckCause) (s : State) : DeckFlow s (enterResync c s) := by
  have hready : ∀ u, DeckFlow u (readyForResync u) := fun u => (formOverload_flow _).after rfl rfl rfl rfl rfl rfl
  rw [enterResync_eq, clearedForResync]
  exact (((DeckFlow.foldl flushLane_flow allLanes s).trans (cancelGrants_flow _)).trans (hready _)).trans (changeDeck_flow _ _ _)

theorem flushOut_flow (s : State) : DeckFlow s (flushOut s) := .foldl flushLane_flow _ s

theorem enterBlind_flow (c : DeckCause) (s : State) : DeckFlow s (enterBlind c s) := by
  have hcleared : DeckFlow (flushOut s) (clearedForBlind s) := (formOverload_flow _).after rfl rfl rfl rfl rfl rfl
  rw [enterBlind_eq]
  exact ((flushOut_flow s).trans hcleared).trans (changeDeck_flow _ _ _)

theorem endResting_flow (s : State) : DeckFlow s (endResting s) := by
  have hrested : DeckFlow s (rested s) := (formOverload_flow _).after rfl rfl rfl rfl rfl rfl
  rw [endResting_eq]
  refine hrested.trans ?_
  split
  · exact enterBlind_flow _ _
  · split
    · exact enterResync_flow _ _
    · split
      · exact changeDeck_flow _ _ _
      · exact changeDeck_flow _ _ _

theorem endIsolation_flow (s : State) : DeckFlow s (endIsolation s) := by
  have hrest : DeckFlow s (beginRest s) := (changeDeck_flow _ _ _).after rfl rfl rfl rfl rfl rfl
  rw [endIsolation_eq]
  split
  · exact hrest.trans (endResting_flow _)
  · exact hrest

theorem deckReview_flow (s : State) : DeckFlow s (deckReview s) := by
  rw [deckReview]
  refine (formOverload_flow s).trans ?_
  split
  · split
    · exact changeDeck_flow _ _ _
    · exact arbitrate_flow _
  · split
    · exact .refl _
    · exact changeDeck_flow _ _ _
  · split
    · exact .refl _
    · exact endIsolation_flow _
  · exact arbitrate_flow _
  all_goals exact .refl _

theorem leaveQueue_flow (id : Nat) (s : State) : DeckFlow s (leaveQueue id s) := (DeckFlow.refl _).after rfl rfl rfl rfl rfl rfl

theorem endGrant_flow (id : Nat) (s : State) : DeckFlow s (endGrant id s) := by
  unfold endGrant
  split
  · exact .refl s
  · exact .of_kept (fun _ h => h) rfl rfl (fun _ h => List.mem_of_mem_eraseP h) rfl rfl

theorem withdraw_flow (r : VRecord) (s : State) : DeckFlow s (withdraw r s) := by
  unfold withdraw
  split
  · exact (leaveQueue_flow _ s).trans (deckReview_flow _)
  · exact (endGrant_flow _ s).trans (deckReview_flow _)
  all_goals exact .refl s

theorem offeredTo_flow (id : Nat) (d : Decision) (s : State) : DeckFlow s (offeredTo id d s) := by
  have hqueued : DeckFlow s (queuedFor id s) := .of_kept (queuedFor_deckMoves id s).gone rfl rfl (fun _ h => h) rfl rfl
  unfold offeredTo
  split
  · exact hqueued.trans (deckReview_flow _)
  · exact .refl s

end Sys2Proof.Machine
end

section
/-! SUPPORT. What a decision leaves of records, history and assemblers, and the end of a wait for a straddle partner (R71, R92, R95). -/

namespace Sys2Proof.Machine

open Sys2Proof.Safety

/-! ### The frame of a decision -/

/-- The conditions of the loops and of the Settings Store. -/
def LoopIx (ix : CondIx) : Prop := ix = storeFaultIx ∨ ∃ l, ix = loopStuckIx l ∨ ix = chatterIx l

/-- What a decision does not touch beside the records: closed marks, device mode, answers, and the conditions of loops and Settings Store. -/
structure Aside (s t : State) : Prop where
  closed  : t.cmn.closedMark = s.cmn.closedMark
  mode    : t.cmn.mode = s.cmn.mode
  answers : answerPath t = answerPath s
  conds   : ∀ ix, LoopIx ix → t.cmn.conds[ix] = s.cmn.conds[ix]

theorem Aside.refl (s : State) : Aside s s := ⟨rfl, rfl, rfl, fun _ _ => rfl⟩

theorem Aside.trans {s t u : State} (h : Aside s t) (k : Aside t u) : Aside s u :=
  ⟨k.closed.trans h.closed, k.mode.trans h.mode, k.answers.trans h.answers, fun ix hix => (k.conds ix hix).trans (h.conds ix hix)⟩

theorem Aside.foldl {β : Type} {f : State → β → State} (h : ∀ s b, Aside s (f s b)) (bs : List β) (s : State) :
    Aside s (bs.foldl f s) := by
  induction bs generalizing s with
  | nil => exact .refl s
  | cons b bs ih => exact (h s b).trans (ih _)

/-- Reports placed add nothing. -/
theorem Aside.placed {rs : List Report} {x s t : State} (k : Places rs x t) (h : Aside s x) : Aside s t :=
  ⟨(k.same (·.cmn.closedMark) fun _ => rfl).trans h.closed, (k.same (·.cmn.mode) fun _ => rfl).trans h.mode, k.answers.trans h.answers,
    fun ix hix => by rw [k.conds]; exact h.conds ix hix⟩

theorem aside_withEntry {ix : CondIx} (hix : ¬ LoopIx ix) (e : CondEntry) (s : State) : Aside s (withEntry ix e s) :=
  ⟨rfl, rfl, rfl, fun k hk => withEntry_conds_other (fun he : k = ix => hix (he ▸ hk)) e s⟩

/-- A lane's or a strip's condition is none of a loop's. -/
theorem not_loopIx {ix : CondIx} (h : ix.val < 30 ∨ (49 < ix.val ∧ ix.val ≠ 63)) : ¬ LoopIx ix := by
  rintro (rfl | ⟨l, rfl | rfl⟩)
  · revert h
    decide
  all_goals simp only [loopStuckIx, chatterIx] at h; omega

theorem DeckMoves.aside {s t : State} (h : DeckMoves s t) : Aside s t where
  closed := (congrArg (fun c : CmnState => c.closedMark) h.cmn :)
  mode := (congrArg (fun c : CmnState => c.mode) h.cmn :)
  answers := h.answers
  conds ix hix := h.conds ix fun ⟨l, hl⟩ => by
    rcases hl with rfl | rfl | rfl <;> exact not_loopIx (by simp only [tableFullIx, noncomplianceIx, overstayIx]; omega) hix

/-- What decisions leave between s and t: records and pending entries only go, a record stays STRADDLE_SUSPECT and DECIDED at the present
time, the history loses no summary while pool and history together have room, and of the assemblers nothing else changes. -/
structure DecisionMoves (s t : State) : Prop where
  gone  : ∀ id, findRec s id = none → findRec t id = none
  marks : ∀ id x, findRec t id = some x → ∃ r, findRec s id = some r ∧
            (r.flags.straddleSuspect = true → x.flags.straddleSuspect = true) ∧
            (r.st = .decided ∧ r.decTime = some s.tbu.time → x.st = .decided ∧ x.decTime = some s.tbu.time)
  size  : t.rtb.pool.length + t.rtb.history.length ≤ s.rtb.pool.length + s.rtb.history.length
  kept  : s.rtb.pool.length + s.rtb.history.length ≤ 64 → ∀ z ∈ s.rtb.history, z ∈ t.rtb.history
  las   : ∀ l : Lane, ∃ ps, t.las[l] = { s.las[l] with pendingList := ps } ∧ ∀ p ∈ ps, p ∈ s.las[l].pendingList
  tbu   : t.tbu = s.tbu
  flow  : DeckFlow s t
  aside : Aside s t

theorem DecisionMoves.refl (s : State) : DecisionMoves s s :=
  ⟨fun _ h => h, fun _ x h => ⟨x, h, fun h => h, fun h => h⟩, le_rfl, fun _ _ h => h, fun _ => ⟨_, rfl, fun _ h => h⟩, rfl,
    .refl s, .refl s⟩

theorem DecisionMoves.trans {s t u : State} (h : DecisionMoves s t) (k : DecisionMoves t u) : DecisionMoves s u where
  gone id hid := k.gone id (h.gone id hid)
  marks id x hx := by
    obtain ⟨y, hy, hsus, hdec⟩ := k.marks id x hx
    obtain ⟨r, hr, hsus', hdec'⟩ := h.marks id y hy
    rw [h.tbu] at hdec
    exact ⟨r, hr, hsus ∘ hsus', hdec ∘ hdec'⟩
  size := k.size.trans h.size
  kept hs z hz := k.kept (h.size.trans hs) z (h.kept hs z hz)
  las l := by
    obtain ⟨ps, ht, hps⟩ := h.las l
    obtain ⟨qs, hu, hqs⟩ := k.las l
    rw [ht] at hu hqs
    exact ⟨qs, hu, fun p hp => hps p (hqs p hp)⟩
  tbu := k.tbu.trans h.tbu
  flow := h.flow.trans k.flow
  aside := h.aside.trans k.aside

theorem DecisionMoves.foldl {β : Type} {f : State → β → State} (h : ∀ s b, DecisionMoves s (f s b)) (bs : List β) (s : State) :
    DecisionMoves s (bs.foldl f s) := by
  induction bs generalizing s with
  | nil => exact .refl s
  | cons b bs ih => exact (h s b).trans (ih _)

theorem DeckMoves.toDecision {s t : State} (h : DeckMoves s t) (k : DeckFlow s t) : DecisionMoves s t where
  gone := h.gone
  marks id x hx := by
    obtain ⟨r, a, hr, rfl⟩ := h.records id x hx
    exact ⟨r, hr, fun h => h, fun h => h⟩
  size := h.size
  kept := h.kept
  las := h.las
  tbu := k.tbu
  flow := k
  aside := h.aside

/-- A state whose record pool, history, assemblers, deck and time are those of another. -/
theorem DecisionMoves.of_eq {s x t : State} (h : DecisionMoves s x) (hpool : t.rtb.pool = x.rtb.pool)
    (hhistory : t.rtb.history = x.rtb.history) (hlas : t.las = x.las) (htbu : t.tbu = x.tbu) (hdkc : t.dkc = x.dkc) (haside : Aside x t) :
    DecisionMoves s t where
  gone id hid := by rw [findRec, hpool]; exact h.gone id hid
  marks id y hy := by
    rw [findRec, hpool] at hy
    exact h.marks id y hy
  size := by rw [hpool, hhistory]; exact h.size
  kept hs z hz := by rw [hhistory]; exact h.kept hs z hz
  las l := by rw [hlas]; exact h.las l
  tbu := htbu.trans h.tbu
  flow := h.flow.trans (.of_dkc (fun id hid => by rwa [findRec, hpool]) htbu hdkc)
  aside := h.aside.trans haside

/-- A record of id changed to one of the same id. -/
theorem findRec_changeRec_of {f : VRecord → VRecord} {id : Nat} (hf : ∀ r, r.id = id → (f r).id = id) (k : Nat) (s : State) :
    findRec (changeRec id f s) k = (findRec s k).map fun r => if r.id == id then f r else r := by
  have hid : ((fun r : VRecord => r.id == k) ∘ fun r => if r.id == id then f r else r) = fun r => r.id == k := by
    funext r
    dsimp only [Function.comp_apply]
    split
    next h => rw [hf r (beq_iff_eq.mp h), beq_iff_eq.mp h]
    next => rfl
  rw [findRec, changeRec, List.find?_map, hid]
  rfl

theorem changeRec_gone {f : VRecord → VRecord} {id : Nat} {s : State} (hf : ∀ r, r.id = id → (f r).id = id) (k : Nat)
    (hk : findRec s k = none) : findRec (changeRec id f s) k = none := by
  rw [findRec_changeRec_of hf, hk]
  rfl

/-- A change of a record that keeps its marks. -/
theorem changeRec_decisionMoves {f : VRecord → VRecord} {id : Nat} {s : State} (hf : ∀ r, r.id = id → (f r).id = id)
    (hmarks : ∀ r, findRec s id = some r → (r.flags.straddleSuspect = true → (f r).flags.straddleSuspect = true) ∧
      (r.st = .decided ∧ r.decTime = some s.tbu.time → (f r).st = .decided ∧ (f r).decTime = some s.tbu.time)) :
    DecisionMoves s (changeRec id f s) where
  gone := changeRec_gone hf
  marks k x hx := by
    rw [findRec_changeRec_of hf] at hx
    obtain ⟨r, hr, rfl⟩ := Option.map_eq_some_iff.mp hx
    split
    next h =>
      have hk : k = id := (findRec_id hr).symm.trans (beq_iff_eq.mp h)
      rw [hk] at hr ⊢
      obtain ⟨hsus, hdec⟩ := hmarks r hr
      exact ⟨r, hr, hsus, hdec⟩
    next => exact ⟨r, hr, fun h => h, fun h => h⟩
  size := le_of_eq (congrArg (· + s.rtb.history.length) (List.length_map _))
  kept _ _ hz := hz
  las _ := ⟨_, rfl, fun _ hp => hp⟩
  tbu := rfl
  flow := .of_dkc (changeRec_gone hf) rfl rfl
  aside := ⟨rfl, rfl, rfl, fun _ _ => rfl⟩

theorem leavePending_decisionMoves (id : Nat) (s : State) : DecisionMoves s (leavePending id s) where
  gone _ h := h
  marks _ x h := ⟨x, h, fun h => h, fun h => h⟩
  size := le_rfl
  kept _ _ hz := hz
  las l := ⟨_, leavePending_las id s l, fun _ hp => List.mem_of_mem_filter hp⟩
  tbu := rfl
  flow := .of_dkc (fun _ h => h) rfl rfl
  aside := ⟨rfl, rfl, rfl, fun _ _ => rfl⟩

theorem giveSamples_aside (l : Lane) (bs : List Bool) (s : State) : Aside s (giveSamples l bs s) := by
  refine Aside.foldl (fun s b => ?_) bs s
  have hwindow : ∀ win, Aside s { s with cmn := { s.cmn with windows := put s.cmn.windows l win } } :=
    fun _ => ⟨rfl, rfl, rfl, fun _ _ => rfl⟩
  exact .placed (agreementSample_places l b s)
    ((hwindow _).trans (aside_withEntry (not_loopIx (by simp only [disagreeIx]; omega)) _ _))

theorem giveSamples_decisionMoves (l : Lane) (bs : List Bool) (s : State) : DecisionMoves s (giveSamples l bs s) := by
  have hsame := giveSamples_same l bs s
  exact (DecisionMoves.refl s).of_eq (by rw [hsame.rtb]) (by rw [hsame.rtb]) hsame.las hsame.tbu hsame.dkc (giveSamples_aside l bs s)

/-- A record replaced by one of the same id and marks. -/
theorem setRecord_decisionMoves {id : Nat} {r w : VRecord} {s : State} (hr : findRec s id = some r) (hid : w.id = r.id)
    (hsus : w.flags.straddleSuspect = r.flags.straddleSuspect) (hst : w.st = r.st) (htime : w.decTime = r.decTime) :
    DecisionMoves s (changeRec id (fun _ => w) s) := by
  refine changeRec_decisionMoves (fun _ _ => hid.trans (findRec_id hr)) fun x hx => ?_
  rw [hr] at hx
  cases hx
  rw [hsus, hst, htime]
  exact ⟨fun h => h, fun h => h⟩

theorem weighRecord_decisionMoves (id : Nat) (s : State) : DecisionMoves s (weighRecord id s) := by
  rw [weighRecord]
  split
  · exact .refl s
  next r hr =>
    dsimp only
    exact (setRecord_decisionMoves (w := weighToAxles _ _ r) hr rfl rfl rfl rfl).trans (giveSamples_decisionMoves _ _ _)

theorem finishRecord_decisionMoves (id : Nat) (s : State) : DecisionMoves s (finishRecord id s) := by
  rw [finishRecord]
  split
  · exact .refl s
  next r hr => exact setRecord_decisionMoves (w := finishWeighing _ _ r) hr rfl rfl rfl rfl

theorem decidedState_decisionMoves (id cls : Nat) (d : Decision) (reasons : Reasons) (s : State) :
    DecisionMoves s (decidedState id cls d reasons s) :=
  (changeRec_decisionMoves (f := writeDecision cls d reasons s.sst.live s.tbu.time) (fun _ h => h)
    fun _ _ => ⟨fun h => h, fun _ => ⟨rfl, rfl⟩⟩).trans (leavePending_decisionMoves id _)

theorem handOff_decisionMoves (id : Nat) (r : VRecord) (s : State) : DecisionMoves s (handOff id r s) := by
  have hp := handOff_places id r s
  have hhanded : DecisionMoves s (handedOff id r s) := (DecisionMoves.refl s).of_eq rfl rfl rfl rfl rfl ⟨rfl, rfl, rfl, fun _ _ => rfl⟩
  have hdkc : (handOff id r s).dkc = (handedOff id r s).dkc := handOff_dkc id r s
  exact hhanded.of_eq (by rw [hp.rtb]) (by rw [hp.rtb]) hp.las hp.tbu hdkc (.placed hp (.refl _))

theorem expireAtDecision_decisionMoves (id : Nat) (s : State) : DecisionMoves s (expireAtDecision id s) := by
  have hexpire : DecisionMoves s (expireRecord id s) := by
    rw [expireRecord]
    split
    · exact .refl s
    · exact ((withdraw_deckMoves _ s).trans (closeRecord_deckMoves _ _ _)).toDecision
        ((withdraw_flow _ s).trans (closeRecord_flow _ _ _))
  rw [expireAtDecision]
  split
  · split
    · exact hexpire
    · exact .refl s
  · exact .refl s

theorem decideRecord_decisionMoves (id : Nat) (s : State) : DecisionMoves s (decideRecord id s) := by
  cases h : findRec s id with
  | none =>
    rw [decideRecord, h]
    exact .refl s
  | some r =>
    rw [decideRecord_eq h]
    have hwritten := ((offeredTo_deckMoves id (decidedOf s r).first s).toDecision (offeredTo_flow id _ s)).trans
      (decidedState_decisionMoves id (decidedOf s r).cls (decidedOf s r).d (decidedOf s r).reasons _)
    dsimp only
    split
    · exact hwritten
    · exact (hwritten.trans (handOff_decisionMoves id _ _)).trans (expireAtDecision_decisionMoves id _)

theorem weighAndDecide_decisionMoves (id : Nat) (s : State) : DecisionMoves s (weighAndDecide id s) :=
  ((weighRecord_decisionMoves id s).trans (finishRecord_decisionMoves id _)).trans (decideRecord_decisionMoves id _)

/-- A record is flagged (R71, R73). -/
theorem flagSuspect_decisionMoves (s : State) (id : Nat) : DecisionMoves s (flagSuspect s id) :=
  changeRec_decisionMoves (fun _ h => h) fun _ _ => ⟨fun _ => rfl, fun h => h⟩

theorem decideSuspect_decisionMoves (id : Nat) (s : State) : DecisionMoves s (decideSuspect id s) :=
  ((leavePending_decisionMoves id s).trans (flagSuspect_decisionMoves (leavePending id s) id)).trans (weighAndDecide_decisionMoves id _)

/-- A pending entry that has gone stays gone. -/
theorem DecisionMoves.pendingEntry {s t : State} (h : DecisionMoves s t) {id : Nat} (hid : pendingEntry s id = none) :
    pendingEntry t id = none := by
  rw [pendingEntry_none_iff] at hid ⊢
  intro l p hp
  obtain ⟨ps, ht, hps⟩ := h.las l
  rw [ht] at hp
  exact hid l p (hps p hp)

/-! ### The record that is decided -/

/-- A record that its decision leaves in the pool is as the decision writes it. -/
theorem decideRecord_written {id : Nat} {s : State} {x : VRecord} (hx : findRec (decideRecord id s) id = some x) :
    ∃ r a, findRec s id = some r ∧ x = writtenOf s r a := by
  obtain ⟨r, hr, -⟩ := (decideRecord_decisionMoves id s).marks id x hx
  cases hy : findRec (offeredTo id (decidedOf s r).first s) id with
  | none =>
    rw [decideRecord_gone hr hy, findRec_decidedState, hy] at hx
    cases hx
  | some y =>
    obtain ⟨hfind, ht⟩ := decideRecord_stands hr hy
    rw [ht] at hx
    have hz := (findRec_handOff id (writtenOf s r y.admission) _ id).trans hfind
    rw [expireAtDecision, hz] at hx
    dsimp only at hx
    split at hx
    · rw [expireRecord, hz] at hx
      dsimp only at hx
      rw [closeRecord_gone] at hx
      cases hx
    · rw [hz] at hx
      cases hx
      exact ⟨r, y.admission, hr, rfl⟩

theorem decideRecord_decided {id : Nat} {s : State} {x : VRecord} (hx : findRec (decideRecord id s) id = some x) :
    ∃ r, findRec s id = some r ∧ x.st = .decided ∧ x.decTime = some s.tbu.time ∧ x.decision.isSome = true ∧
      x.flags.straddleSuspect = r.flags.straddleSuspect := by
  obtain ⟨r, a, hr, rfl⟩ := decideRecord_written hx
  exact ⟨r, hr, rfl, rfl, rfl, rfl⟩

/-- A flagged record is STRADDLE_SUSPECT. -/
theorem flagSuspect_suspect {s : State} {id : Nat} {x : VRecord} (hx : findRec (flagSuspect s id) id = some x) :
    x.flags.straddleSuspect = true := by
  have hfind : findRec (flagSuspect s id) id = (findRec s id).map fun r => { r with flags := { r.flags with straddleSuspect := true } } :=
    findRec_changeRec_self (f := fun r => { r with flags := { r.flags with straddleSuspect := true } }) (fun _ => rfl) id s
  rw [hfind] at hx
  obtain ⟨v, -, rfl⟩ := Option.map_eq_some_iff.mp hx
  rfl

theorem decideSuspect_decided {id : Nat} {s : State} {x : VRecord} (hx : findRec (decideSuspect id s) id = some x) :
    x.st = .decided ∧ x.decTime = some s.tbu.time ∧ x.decision.isSome = true ∧ x.flags.straddleSuspect = true := by
  let y := flagSuspect (leavePending id s) id
  have hweighed : DecisionMoves y (finishRecord id (weighRecord id y)) := (weighRecord_decisionMoves id y).trans (finishRecord_decisionMoves id _)
  obtain ⟨r, hr, hst, htime, hdec, hsus⟩ := decideRecord_decided (s := finishRecord id (weighRecord id y)) hx
  obtain ⟨w, hw, hmark, -⟩ := hweighed.marks id r hr
  have hflag : w.flags.straddleSuspect = true := flagSuspect_suspect hw
  exact ⟨hst, htime.trans (congrArg (fun u : TbuState => some u.time) hweighed.tbu), hdec, hsus.trans (hmark hflag)⟩

theorem decideSuspect_pendingEntry (id : Nat) (s : State) : pendingEntry (decideSuspect id s) id = none :=
  ((flagSuspect_decisionMoves (leavePending id s) id).trans (weighAndDecide_decisionMoves id _)).pendingEntry (leavePending_gone id s)

theorem DecisionMoves.suspect {s t : State} (h : DecisionMoves s t) {id : Nat}
    (hs : ∀ r, findRec s id = some r → r.flags.straddleSuspect = true) {x : VRecord} (hx : findRec t id = some x) :
    x.flags.straddleSuspect = true := by
  obtain ⟨r, hr, hsus, -⟩ := h.marks id x hx
  exact hsus (hs r hr)

end Sys2Proof.Machine

namespace Sys2Proof.Proofs

open Sys2Proof.Machine
open Sys2Proof.Safety

/-- Settles O24: the awaited record flagged, and then the decision alone. -/
theorem straddleWaitDecides : Obligations.StraddleWaitDecides := by
  unfold Obligations.StraddleWaitDecides
  intro id p r s hp hr hpassed
  have hdue : straddleWaitDue id s = true := by
    rw [straddleWaitDue, hp, Option.any_some, hr, Option.any_some]
    exact (passed_iff _ _ _).mpr hpassed
  have hend : endWait id s = decideSuspect id (flagSuspect s p.awaits) := by rw [endWait, hp]
  have hsame : SameC s (endWait id s) := by
    rw [hend]
    exact (changeRec_same _ _ _).toC.trans (decideSuspect_same _ _)
  have hset := settle_formedFrom (endWait id s)
  refine ⟨_, when'_due hdue s _, hset.formed, ?_, fun x hx => ?_, fun x _ hx => ?_, ?_, ?_, ?_, ?_, ?_, ?_, ?_⟩
  · refine (settled_same _ (pendingEntry · id) fun _ => rfl).trans ?_
    rw [hend]
    exact decideSuspect_pendingEntry id _
  · rw [settled_same _ (findRec · id) fun _ => rfl, hend] at hx
    obtain ⟨hst, htime, hdec, hsus⟩ := decideSuspect_decided hx
    exact ⟨hst, hsus, htime, hdec⟩
  · rw [settled_same _ (findRec · p.awaits) fun _ => rfl, hend] at hx
    exact (decideSuspect_decisionMoves id _).suspect (fun _ hflagged => flagSuspect_suspect hflagged) hx
  · exact (settled_same _ State.liu fun _ => rfl).trans hsame.liu
  · exact (settled_same _ State.csq fun _ => rfl).trans hsame.csq
  · exact (settled_same _ State.scu fun _ => rfl).trans hsame.scu
  · exact (settled_same _ State.zsc fun _ => rfl).trans hsame.zsc
  · exact (settled_same _ State.tbu fun _ => rfl).trans hsame.tbu
  · exact (settled_same _ State.rtk fun _ => rfl).trans hsame.rtk
  · exact (settled_same _ (·.sst.live) fun _ => rfl).trans (congrArg (fun u => u.live) hsame.sst :)

end Sys2Proof.Proofs
end

section
/-! SUPPORT. Proofs about sealed vehicles: the choice of the nearest, the completed close with its substitute speeds, what closes leave of the
assemblers, and orphans (R57, R61, R68, R69, R75). -/

namespace Sys2Proof.Machine

open Sys2Proof.Safety

/-! ### The assemblers at a close -/

/-- Of each assembler the pending list alone may differ. -/
def SameLanes (s t : State) : Prop := ∀ l : Lane, ∃ ps, t.las[l] = { s.las[l] with pendingList := ps }

theorem SameLanes.refl (s : State) : SameLanes s s := fun _ => ⟨_, rfl⟩

theorem SameLanes.trans {s t u : State} (h : SameLanes s t) (k : SameLanes t u) : SameLanes s u := fun l => by
  obtain ⟨ps, ht⟩ := h l
  obtain ⟨qs, hu⟩ := k l
  rw [ht] at hu
  exact ⟨qs, hu⟩

theorem SameLanes.foldl {β : Type} {f : State → β → State} (h : ∀ s b, SameLanes s (f s b)) (bs : List β) (s : State) :
    SameLanes s (bs.foldl f s) := by
  induction bs generalizing s with
  | nil => exact .refl s
  | cons b bs ih => exact (h s b).trans (ih _)

theorem DecisionMoves.lanes {s t : State} (h : DecisionMoves s t) : SameLanes s t := fun l => by
  obtain ⟨ps, ht, _⟩ := h.las l
  exact ⟨ps, ht⟩

theorem leavePending_lanes (id : Nat) (s : State) : SameLanes s (leavePending id s) := (leavePending_decisionMoves id s).lanes

theorem changeRec_lanes (id : Nat) (f : VRecord → VRecord) (s : State) : SameLanes s (changeRec id f s) := fun _ => ⟨_, rfl⟩

theorem closeRecord_lanes (id : Nat) (d : Disposition) (s : State) : SameLanes s (closeRecord id d s) := fun l => by
  obtain ⟨ps, ht, _⟩ := (closeRecord_deckMoves id d s).las l
  exact ⟨ps, ht⟩

/-- The record that survives a merge (R72, R84). -/
def mergedFrom (s : State) (a b : VRecord) : VRecord :=
  { mergedRecord a b with reading := some (joinReadings (a.reading.getD (closeReading s a.lane)) (b.reading.getD (closeReading s b.lane))) }

/-- The state with the survivor of a merge in the pool, the other closed MERGED. -/
def withMerged (lo hi : Nat) (w : VRecord) (s : State) : State :=
  closeRecord hi .merged (leavePending lo (changeRec lo (fun _ => w) s))

theorem mergeRecords_eq (y x : Nat) (s : State) : mergeRecords y x s =
    let z := weighRecord x (weighRecord y s)
    match findRec z (min y x), findRec z (max y x) with
    | some a, some b => decideRecord (min y x) (finishRecord (min y x) (withMerged (min y x) (max y x) (mergedFrom z a b) z))
    | _, _ => z := rfl

theorem withMerged_lanes (lo hi : Nat) (w : VRecord) (s : State) : SameLanes s (withMerged lo hi w s) :=
  ((changeRec_lanes _ _ s).trans (leavePending_lanes _ _)).trans (closeRecord_lanes _ _ _)

theorem mergeRecords_lanes (y x : Nat) (s : State) : SameLanes s (mergeRecords y x s) := by
  have hweighed := ((weighRecord_decisionMoves y s).trans (weighRecord_decisionMoves x _)).lanes
  rw [mergeRecords_eq]
  dsimp only
  split
  · exact (hweighed.trans (withMerged_lanes _ _ _ _)).trans
      ((finishRecord_decisionMoves _ _).trans (decideRecord_decisionMoves _ _)).lanes
  · exact hweighed

theorem mergeOrPart_lanes (y x : VRecord) (s : State) : SameLanes s (mergeOrPart y x s) := by
  unfold mergeOrPart
  split
  · exact mergeRecords_lanes _ _ s
  · exact ((decideSuspect_decisionMoves _ s).trans (decideSuspect_decisionMoves _ _)).lanes

theorem awaitCandidate_lanes (x : VRecord) (c : Nat) (s : State) : SameLanes s (awaitCandidate x c s) := fun l => by
  by_cases hl : l = x.lane
  · subst hl
    exact ⟨_, change_getElem_self _ _ _⟩
  · exact ⟨_, change_getElem_other _ _ _ _ hl⟩

theorem straddleCheck_lanes (id : Nat) (s : State) : SameLanes s (straddleCheck id s) := by
  unfold straddleCheck
  split
  · exact .refl s
  · dsimp only
    split
    · exact (mergeOrPart_lanes _ _ s).trans (.foldl (fun s o => (decideSuspect_decisionMoves o s).lanes) _ _)
    · split
      · exact (weighAndDecide_decisionMoves id s).lanes
      · split
        · exact awaitCandidate_lanes _ _ s
        · exact (weighAndDecide_decisionMoves id s).lanes

theorem completeClose_lanes (s : State) (v : SealedVehicle) : SameLanes s (completeClose s v) := by
  unfold completeClose
  split
  · exact (changeRec_lanes _ _ s).trans (straddleCheck_lanes _ _)
  all_goals exact .refl s

/-! ### Completed closes (R69) -/

/-- Lane l's sealed vehicles without those that have no FIFO entry left. -/
def withoutClosed (l : Lane) (s : State) : State :=
  { s with las := put s.las l { s.las[l] with sealed := s.las[l].sealed.filter fun v => s.las[l].fifo.any (·.veh == v.veh) } }

theorem completeCloses_eq (l : Lane) (s : State) : completeCloses l s =
    (s.las[l].sealed.filter fun v => !s.las[l].fifo.any (·.veh == v.veh)).foldl completeClose (withoutClosed l s) := by
  have hheld : ∀ v : SealedVehicle, (!resolved s.las[l] v) = s.las[l].fifo.any (·.veh == v.veh) := fun v => Bool.not_not _
  have hstate : changeLas l (fun a => { a with sealed := a.sealed.filter fun v => !resolved a v }) s = withoutClosed l s := by
    simp only [changeLas, change, hheld, withoutClosed]
  rw [completeCloses, hstate]
  rfl

/-- A lane with no sealed vehicle to close is left as it is. -/
theorem completeCloses_held {l : Lane} {s : State} (h : ∀ v ∈ s.las[l].sealed, s.las[l].fifo.any (·.veh == v.veh) = true) :
    completeCloses l s = s := by
  have hnone : (s.las[l].sealed.filter fun v => !s.las[l].fifo.any (·.veh == v.veh)) = [] :=
    List.filter_eq_nil_iff.mpr fun v hv => by rw [h v hv]; decide
  have hall : s.las[l].sealed.filter (fun v => s.las[l].fifo.any (·.veh == v.veh)) = s.las[l].sealed := List.filter_eq_self.mpr h
  rw [completeCloses_eq, hnone, List.foldl_nil, withoutClosed, hall, put_self]

theorem completeClose_unrecorded {v : SealedVehicle} (h : v.owner = .unrecorded) (s : State) : completeClose s v = s := by
  rw [completeClose, h]

/-- What completed closes leave of their lane's assembler. -/
theorem completeCloses_lane (l : Lane) (s : State) : ∃ sealed pending,
    (completeCloses l s).las[l] = { s.las[l] with sealed := sealed, pendingList := pending } := by
  have hlanes := SameLanes.foldl completeClose_lanes (s.las[l].sealed.filter fun v => !s.las[l].fifo.any (·.veh == v.veh)) (withoutClosed l s)
  obtain ⟨ps, hps⟩ := hlanes l
  have hget : (withoutClosed l s).las[l] = _ := put_getElem_self _ _ _
  rw [hget] at hps
  exact ⟨_, ps, by rw [completeCloses_eq, hps]⟩

theorem sealOpen_eq {l : Lane} {s : State} {v : OpenVehicle} (h : s.las[l].openVeh = some v) (hv : v.owner ≠ .noRecord) :
    sealOpen l s = completeCloses l { s with
      las := put s.las l { s.las[l] with openVeh := none, sealed := s.las[l].sealed ++ [⟨v.veh, v.owner, v.gen⟩] } } := by
  rw [sealOpen, h]
  dsimp only
  split
  next hno => exact absurd hno hv
  all_goals rfl

/-! ### Substitute speeds (R69) -/

/-- `pickBy` by a measure gives the first of the least. -/
theorem pickBy_least {α : Type} (f : α → Nat) (x : α) (xs : List α) : ∃ pre y post,
    pickBy (fun a b => decide (f a < f b)) (x :: xs) = some y ∧ x :: xs = pre ++ y :: post ∧ (∀ z ∈ pre, f y < f z) ∧
    ∀ z ∈ post, f y ≤ f z := by
  suffices h : ∀ (best : α) (pre mid : List α), (∀ z ∈ pre, f best < f z) → (∀ z ∈ mid, f best ≤ f z) → ∃ pre' y post,
      some (xs.foldl (fun best y => if decide (f y < f best) then y else best) best) = some y ∧
      pre ++ best :: mid ++ xs = pre' ++ y :: post ∧ (∀ z ∈ pre', f y < f z) ∧ ∀ z ∈ post, f y ≤ f z from
    h x [] [] (fun z hz => absurd hz List.not_mem_nil) fun z hz => absurd hz List.not_mem_nil
  induction xs with
  | nil => exact fun best pre mid hpre hmid => ⟨pre, best, mid, rfl, List.append_nil _, hpre, hmid⟩
  | cons y ys ih =>
    intro best pre mid hpre hmid
    rw [List.foldl_cons]
    by_cases hy : f y < f best
    · rw [if_pos (decide_eq_true hy)]
      obtain ⟨pre', z, post, hz, heq, hleast⟩ := ih y (pre ++ best :: mid) [] (fun z hz => by
        rcases List.mem_append.mp hz with hz | hz
        · exact hy.trans (hpre z hz)
        · rcases List.mem_cons.mp hz with rfl | hz
          · exact hy
          · exact hy.trans_le (hmid z hz)) fun z hz => absurd hz List.not_mem_nil
      exact ⟨pre', z, post, hz, by rw [← heq, List.append_assoc _ [y] ys]; rfl, hleast⟩
    · rw [if_neg fun hd => hy (of_decide_eq_true hd)]
      obtain ⟨pre', z, post, hz, heq, hleast⟩ := ih best pre (mid ++ [y]) hpre fun z hz => by
        rcases List.mem_append.mp hz with hz | hz
        · exact hmid z hz
        · rw [List.mem_singleton.mp hz]
          exact Nat.le_of_not_lt hy
      refine ⟨pre', z, post, hz, ?_, hleast⟩
      rw [← heq]
      simp

/-- The paired axles with their places. -/
def pairedAt (axles : List Axle) : List (Axle × Nat) := axles.zipIdx.filter fun p => p.1.source == .paired

theorem mem_pairedAt (axles : List Axle) (p : Axle × Nat) : p ∈ pairedAt axles ↔ axles[p.2]? = some p.1 ∧ p.1.source = .paired := by
  rw [pairedAt, List.mem_filter, List.mem_zipIdx_iff_getElem?, beq_iff_eq]

theorem pairedAt_pairwise (axles : List Axle) : (pairedAt axles).Pairwise fun a b => a.2 < b.2 := by
  refine List.Pairwise.filter _ ?_
  rw [List.pairwise_iff_getElem]
  intro i j hi hj hij
  simpa using hij

theorem substituteSpeed_none {axles : List Axle} (h : ∀ a ∈ axles, a.source = .substitute) (i : Nat) : substituteSpeed axles i = 0 := by
  have hempty : pairedAt axles = [] := List.eq_nil_iff_forall_not_mem.mpr fun p hp => by
    obtain ⟨hget, hpaired⟩ := (mem_pairedAt axles p).mp hp
    rw [h p.1 (List.mem_of_getElem? hget)] at hpaired
    cases hpaired
  rw [substituteSpeed, show (axles.zipIdx.filter fun p => p.1.source == .paired) = [] from hempty]
  rfl

/-- A substitute speed is that of the nearest paired axle, the earlier on a tie. -/
theorem substituteSpeed_nearest {axles : List Axle} {i : Nat} (h : pairedAt axles ≠ []) : ∃ p ∈ pairedAt axles,
    substituteSpeed axles i = p.1.speed.getD 0 ∧ ∀ q ∈ pairedAt axles, axleDistance p.2 i < axleDistance q.2 i ∨
      (axleDistance p.2 i = axleDistance q.2 i ∧ p.2 ≤ q.2) := by
  obtain ⟨x, xs, hxs⟩ := List.exists_cons_of_ne_nil h
  obtain ⟨pre, p, post, hpick, heq, hpre, hpost⟩ := pickBy_least (fun p : Axle × Nat => axleDistance p.2 i) x xs
  rw [← hxs] at hpick heq
  have horder := pairedAt_pairwise axles
  rw [heq] at horder
  have hlater : ∀ q ∈ post, p.2 < q.2 := (List.pairwise_cons.mp (List.pairwise_append.mp horder).2.1).1
  refine ⟨p, by rw [heq]; simp, ?_, fun q hq => ?_⟩
  · rw [substituteSpeed, show (axles.zipIdx.filter fun p => p.1.source == .paired) = pairedAt axles from rfl, hpick]
  · rw [heq] at hq
    rcases List.mem_append.mp hq with hq | hq
    · exact .inl (hpre q hq)
    · rcases List.mem_cons.mp hq with rfl | hq
      · exact .inr ⟨rfl, le_rfl⟩
      · rcases Nat.lt_or_eq_of_le (hpost q hq) with hlt | heq'
        · exact .inl hlt
        · exact .inr ⟨heq', (hlater q hq).le⟩

theorem resolveSpeeds_getElem? (axles : List Axle) (i : Nat) : (resolveSpeeds axles)[i]? = (axles[i]?).map fun a =>
    if a.source = .substitute then { a with speed := some (substituteSpeed axles i) } else a := by
  rw [resolveSpeeds, List.getElem?_map, List.getElem?_zipIdx, Option.map_map]
  simp [Function.comp_def]

theorem head_pairedSpeeds (axles : List Axle) : (pairedSpeeds axles).head? =
    (axles.find? fun a => a.source == .paired && a.speed.isSome).bind (·.speed) := by
  induction axles with
  | nil => rfl
  | cons a as ih =>
    rw [pairedSpeeds, List.filterMap_cons, List.find?_cons]
    cases hs : a.source == .paired with
    | false => exact ih
    | true =>
      cases hv : a.speed with
      | none =>
        rw [if_pos rfl]
        exact ih
      | some v =>
        rw [if_pos rfl]
        exact hv.symm

/-! ### Orphans (R57, R60, R61) -/

/-- What an orphan does to the pool (R61). -/
def orphanedPool (e : FifoEntry) (s : State) : List VRecord :=
  match e.owner, e.axle with
  | .recorded id, some n => s.rtb.pool.map fun r => if r.id == id then
      { r with
        axles := r.axles.modify (n - 1) fun a => { a with s2Area := none, source := .substitute, speed := none }
        flags := { r.flags with orphan := true } } else r
  | _, _ => s.rtb.pool

/-- Two changes of a record are one. -/
theorem changeRec_changeRec {f g : VRecord → VRecord} (hf : ∀ r, (f r).id = r.id) (id : Nat) (s : State) :
    changeRec id g (changeRec id f s) = changeRec id (fun r => g (f r)) s := by
  have hpool : (s.rtb.pool.map fun r => if r.id == id then f r else r).map (fun r => if r.id == id then g r else r) =
      s.rtb.pool.map fun r => if r.id == id then g (f r) else r := by
    rw [List.map_map]
    refine List.map_congr_left fun r _ => ?_
    rw [Function.comp_apply]
    by_cases hr : (r.id == id) = true
    · rw [if_pos hr, if_pos hr, if_pos (by rw [hf]; exact hr)]
    · rw [if_neg hr, if_neg hr, if_neg hr]
  exact congrArg (fun p => ({ s with rtb := { s.rtb with pool := p } } : State)) hpool

theorem orphanAxle_eq (e : FifoEntry) (s : State) : orphanAxle e s = { s with rtb := { s.rtb with pool := orphanedPool e s } } := by
  obtain ⟨start, area, owner, axle, gen, veh, waiting⟩ := e
  cases owner with
  | recorded id =>
    cases axle with
    | some n => exact changeRec_changeRec (f := fun r => { r with axles := r.axles.modify (n - 1) _ }) (fun _ => rfl) id s
    | none => rfl
  | noRecord => rfl
  | unrecorded => rfl

/-- The state after an orphan's STRIP_SILENT entry, its run and its record, before the closes it frees (R61). -/
def orphaned (l : Lane) (e : FifoEntry) (fifo : List FifoEntry) (s : State) : State :=
  let run := min (s.las[l].silentS2 + 1) 255
  let ce := causedEntry (decide (4 ≤ run)) s.tbu.time s.cmn.conds[silentIx (s2Chan l)]
  withEntry (silentIx (s2Chan l)) ce { s with
    las := put s.las l { s.las[l] with fifo := fifo, silentS2 := run }
    rtb := { s.rtb with pool := orphanedPool e s } }

/-- An entry leaves the FIFO as an orphan: its cause and its record, and then the closes it frees (R61; log entry 68). -/
theorem orphanFirst_places {l : Lane} {p : FifoEntry → Bool} {e : FifoEntry} {s : State} (h : s.las[l].fifo.find? p = some e) :
    ∃ y, Places (changeReports (silentIx (s2Chan l))
        (causedEntry (decide (4 ≤ min (s.las[l].silentS2 + 1) 255)) s.tbu.time s.cmn.conds[silentIx (s2Chan l)]) s)
      (orphaned l e (s.las[l].fifo.eraseP p) s) y ∧ orphanFirst l p s = completeCloses l y := by
  let a : LasState := { s.las[l] with fifo := s.las[l].fifo.eraseP p }
  have hlas : (put s.las l a)[l] = a := put_getElem_self _ _ _
  have hstate : changeLas l (fun b => { b with silentS2 := raiseRun (put s.las l a)[l].silentS2 }) { s with las := put s.las l a } =
      { s with las := put s.las l { a with silentS2 := min (s.las[l].silentS2 + 1) 255 } } := by
    rw [changeLas, change, put_put]
    rw [show ({ s with las := put s.las l a } : State).las[l] = a from hlas]
    rfl
  have hcause := (Places.refl ({ s with las := put s.las l { a with silentS2 := min (s.las[l].silentS2 + 1) 255 } } : State)).caused
    (silentIx (s2Chan l)) (decide (4 ≤ min (s.las[l].silentS2 + 1) 255)) s.tbu.time
  have hpool := hcause.map (orphanAxle e) (fun u => by rw [orphanAxle_eq, orphanAxle_eq]; rfl)
    (fun u => by rw [orphanAxle_eq]) fun u => by rw [orphanAxle_eq]
  rw [orphanAxle_eq] at hpool
  refine ⟨_, hpool, ?_⟩
  rw [orphanFirst, h]
  show completeCloses l (orphanAxle e (silentCause (s2Chan l) (raiseRun (put s.las l a)[l].silentS2)
    (changeLas l (fun b => { b with silentS2 := raiseRun (put s.las l a)[l].silentS2 }) { s with las := put s.las l a }))) = _
  rw [hstate, hlas]
  rfl

end Sys2Proof.Machine

namespace Sys2Proof.Proofs

open Sys2Proof.Machine
open Sys2Proof.Safety

/-- Settles O23: the seal, the closes in their order, and the record at its completed close. -/
theorem closeGapSeals : Obligations.CloseGapSeals := by
  unfold Obligations.CloseGapSeals
  refine ⟨fun l v s hopen howner hgap hpassed => ?_, fun l s => ?_, fun v s hv => ?_, fun id v s hv => ?_⟩
  · intro sealed y
    have hdue : closeGapDue l s = true := by
      rw [closeGapDue, hopen, Option.any_some, Bool.and_eq_true, Bool.and_eq_true, bne_iff_ne]
      refine ⟨⟨howner, ?_⟩, (passed_iff _ _ _).mpr hpassed⟩
      rcases hgap with hcov | hout
      · rw [hcov]
        rfl
      · rw [hout, Bool.not_false, Bool.or_true]
    have hseal : sealOpen l s = completeCloses l y := sealOpen_eq hopen howner
    obtain ⟨sealed', pending, hlane⟩ := completeCloses_lane l y
    have hy : y.las[l] = { s.las[l] with openVeh := none, sealed := sealed } := put_getElem_self _ _ _
    have hset := settle_formedFrom (sealOpen l s)
    rw [hy] at hlane
    refine ⟨_, when'_due hdue s _, hset.formed, ?_, ?_, ?_, fun hheld => ?_, fun hnone hveh hun => ?_⟩
    · rw [settled_same _ (·.las[l]) fun _ => rfl, hseal, hlane]
    · rw [settled_same _ (·.las[l]) fun _ => rfl, hseal, hlane]
    · rw [hseal]
      exact settle_formedFrom _
    · rw [hseal, completeCloses_held fun v hv => ?_]
      · exact settle_formedFrom _
      · rw [hy] at hv ⊢
        obtain ⟨e, he, hveh⟩ := hheld v hv
        exact List.any_eq_true.mpr ⟨e, he, beq_iff_eq.mpr hveh⟩
    · have hnot : y.las[l].fifo.any (·.veh == v.veh) = false := by
        rw [hy]
        exact List.any_eq_false.mpr fun e he => by rw [beq_iff_eq]; exact hveh e he
      have hone : y.las[l].sealed = [⟨v.veh, v.owner, v.gen⟩] := by
        rw [hy]
        show s.las[l].sealed ++ _ = _
        rw [hnone, List.nil_append]
      rw [hseal, completeCloses_eq, hone, List.filter_singleton, hnot]
      show FormedFrom _ (settle (completeClose (withoutClosed l y) ⟨v.veh, v.owner, v.gen⟩))
      rw [completeClose_unrecorded (v := ⟨v.veh, v.owner, v.gen⟩) hun, withoutClosed, hone, List.filter_singleton, hnot, hy, cond_false, ← hnone, put_put]
      exact settle_formedFrom _
  · intro held y
    refine ⟨completeCloses_held, fun v hv => ?_, fun v w hvw => ?_⟩
    · rw [completeCloses_eq, show (s.las[l].sealed.filter _) = [v] from hv]
      rfl
    · rw [completeCloses_eq, show (s.las[l].sealed.filter _) = [v, w] from hvw]
      rfl
  · exact completeClose_unrecorded hv s
  · intro paired
    refine ⟨closedRecord s, by rw [completeClose, hv]; rfl, fun r => ⟨?_, ?_, fun i b hb => ?_⟩⟩
    · have hspeed := congrArg (fun o => some (o.getD 0)) (head_pairedSpeeds r.axles)
      rw [closedRecord, hspeed]
      rfl
    · rw [closedRecord, resolveSpeeds, List.length_map, List.length_zipIdx]
    · intro away
      rw [show (closedRecord s r).axles = resolveSpeeds r.axles from rfl, resolveSpeeds_getElem?, List.getElem?_eq_getElem i.isLt,
        Option.map_some, Option.mem_some_iff] at hb
      refine ⟨fun hp => ?_, fun hsub => ?_⟩
      · rw [← hb, if_neg (by rw [show r.axles[i.val].source = _ from hp]; decide)]
        rfl
      · rw [if_pos (show r.axles[i.val].source = .substitute from hsub)] at hb
        subst hb
        refine ⟨rfl, fun hall => congrArg some (substituteSpeed_none hall _), fun j hj => ?_⟩
        have hj' : (r.axles[j], j.val) ∈ pairedAt r.axles := (mem_pairedAt _ _).mpr ⟨List.getElem?_eq_getElem j.isLt, hj⟩
        obtain ⟨p, hp, hspeed, hleast⟩ := substituteSpeed_nearest (i := i.val) (List.ne_nil_of_mem hj')
        obtain ⟨hget, hpaired⟩ := (mem_pairedAt _ _).mp hp
        obtain ⟨hlt, hat⟩ := List.getElem?_eq_some_iff.mp hget
        refine ⟨⟨p.2, hlt⟩, ?_, ?_, fun m hm => ?_⟩
        · exact (congrArg Axle.source hat).trans hpaired
        · exact congrArg some (hspeed.trans (congrArg (fun a : Axle => a.speed.getD 0) hat).symm)
        · have hm' := hleast (r.axles[m], m.val) ((mem_pairedAt _ _).mpr ⟨List.getElem?_eq_getElem m.isLt, hm⟩)
          have hdist : ∀ k : Nat, axleDistance k i.val = max i.val k - min i.val k := fun k => by
            rw [axleDistance, absDiff, max_comm, min_comm]
          rw [hdist, hdist] at hm'
          exact hm'

/-- Settles O21: the oldest due entry waits, or leaves as an orphan before the closes it frees. -/
theorem fifoEntryExpires : Obligations.FifoEntryExpires := by
  unfold Obligations.FifoEntryExpires
  intro l e s due hfind det
  have hfind' : s.las[l].fifo.find? (entryDue s l) = some e := hfind
  have hdue : fifoExpiryDue l s = true := List.any_eq_true.mpr ⟨e, List.mem_of_find?_eq_some hfind, List.find?_some hfind⟩
  have hbusy : s2Busy s l = true ↔ det = .pulse ∨ det = .tail := by
    rw [s2Busy, Bool.or_eq_true, beq_iff_eq, beq_iff_eq]
  have hexec : exec (.fifoEntryExpiry l) s = .next (settle (if s2Busy s l then markWaiting l s else orphanFirst l (entryDue s l) s)) :=
    when'_due hdue s _
  by_cases hb : det = .pulse ∨ det = .tail
  · rw [if_pos (hbusy.mpr hb)] at hexec
    refine ⟨_, hexec, (settle_formedFrom _).formed, fun _ => ?_, fun hp ht => absurd hb (not_or.mpr ⟨hp, ht⟩)⟩
    obtain ⟨hde, older, newer, hlist, holder⟩ := List.find?_eq_some_iff_append.mp hfind
    refine ⟨older, newer, hlist, fun x hx => by simpa using holder x hx, ?_⟩
    have hmark : markWaiting l s = { s with las := put s.las l { s.las[l] with fifo := older ++ { e with waiting := true } :: newer } } := by
      have hfirst : changeFirst (entryDue s l) (fun e => { e with waiting := true }) s.las[l].fifo =
          some (older ++ { e with waiting := true } :: newer) := by
        rw [hlist]
        exact changeFirst_append (fun y hy => by simpa using holder y hy) hde newer
      rw [markWaiting, changeLas, change, hfirst]
      rfl
    rw [hmark]
    exact settle_formedFrom _
  · rw [if_neg fun hc => hb (hbusy.mp hc)] at hexec
    obtain ⟨y, hy, horphan⟩ := orphanFirst_places hfind'
    rw [horphan] at hexec
    refine ⟨_, hexec, (settle_formedFrom _).formed, fun hc => absurd hc hb, fun _ _ => ?_⟩
    intro run ce x
    obtain ⟨sealed, pending, hlane⟩ := completeCloses_lane l y
    have hylas : y.las[l] = { s.las[l] with fifo := s.las[l].fifo.eraseP due, silentS2 := run } :=
      (congrArg (fun v : Vector LasState 3 => v[l]) hy.las).trans (put_getElem_self _ _ _)
    rw [hylas] at hlane
    refine ⟨?_, ?_, fun hsealed => ?_, y, hy.toPlacedFrom, settle_formedFrom _⟩
    · rw [settled_same _ (·.las[l]) fun _ => rfl, hlane]
    · rw [settled_same _ (·.las[l]) fun _ => rfl, hlane]
    · have hnone : completeCloses l y = y := completeCloses_held fun v hv => by
        rw [hylas] at hv
        exact absurd (show v ∈ s.las[l].sealed from hv) (by rw [hsealed]; exact List.not_mem_nil)
      rw [hnone]
      exact placed_settled hy.toPlacedFrom

end Sys2Proof.Proofs
end

section
/-! SUPPORT. Proofs about the hits of a lane's strips: the pair, the spurious hit, the first and the later S1 hit, the split and the room made
in a full FIFO (R57 to R66, R168). -/

namespace Sys2Proof.Machine

open Sys2Proof.Safety

/-! ### Id notices (R168) -/

/-- The Trace Store after an id notice. -/
def noticedTrs (c : Chan) (start : Time) (id : Nat) (trs : TrsState) : TrsState :=
  match joinNewest c start id trs.ring.reverse with
  | some rs => { trs with ring := rs.reverse }
  | none => { trs with notice := put trs.notice c (some (start, id)) }

theorem idNotice_eq (c : Chan) (start : Time) (id : Nat) (s : State) : idNotice c start id s = { s with trs := noticedTrs c start id s.trs } := by
  rw [idNotice, noticedTrs]
  cases joinNewest c start id s.trs.ring.reverse <;> rfl

/-- An id notice of 0 joins where it changes nothing. -/
theorem joinNewest_zero (c : Chan) (start : Time) (rs : List TraceRecord) : joinNewest c start 0 rs =
    match rs.find? (·.chan == c) with
    | some x => if x.start = start ∧ x.vehicle = 0 then some rs else none
    | none => none := by
  induction rs with
  | nil => rfl
  | cons r rs ih =>
    rw [joinNewest, List.find?_cons]
    by_cases hc : (r.chan == c) = true
    · rw [if_pos hc, hc]
      dsimp only
      by_cases hr : r.start = start ∧ r.vehicle = 0
      · obtain ⟨hstart, hveh⟩ := hr
        have hsame : ({ r with vehicle := 0 } : TraceRecord) = r := by rw [← hveh]
        rw [if_pos (by rw [hstart, hveh]; simp), if_pos ⟨hstart, hveh⟩, hsame]
      · rw [if_neg hr, if_neg (by rw [Bool.and_eq_true, beq_iff_eq, beq_iff_eq]; exact hr)]
    · rw [if_neg hc, ih, Bool.eq_false_iff.mpr hc]
      dsimp only
      cases rs.find? (·.chan == c) with
      | none => rfl
      | some x =>
        dsimp only
        split <;> rfl

theorem noticedTrs_zero (c : Chan) (start : Time) (trs : TrsState) : noticedTrs c start 0 trs =
    match trs.ring.reverse.find? (·.chan == c) with
    | some x => if x.start = start ∧ x.vehicle = 0 then trs else { trs with notice := put trs.notice c (some (start, 0)) }
    | none => { trs with notice := put trs.notice c (some (start, 0)) } := by
  rw [noticedTrs, joinNewest_zero]
  cases trs.ring.reverse.find? (·.chan == c) with
  | none => rfl
  | some x =>
    dsimp only
    by_cases hx : x.start = start ∧ x.vehicle = 0
    · rw [if_pos hx, if_pos hx]
      dsimp only
      rw [List.reverse_reverse]
    · rw [if_neg hx, if_neg hx]

/-! ### S2 hits (R58, R59) -/

/-- What a pair does to the pool (R58). -/
def pairedPool (e : FifoEntry) (area v : Nat) (s : State) : List VRecord :=
  match e.owner, e.axle with
  | .recorded id, some n => s.rtb.pool.map fun r => if r.id == id then
      { r with axles := r.axles.modify (n - 1) fun a => { a with s2Area := some area, speed := some v, source := .paired } } else r
  | _, _ => s.rtb.pool

theorem pairAxle_eq (e : FifoEntry) (area v : Nat) (s : State) :
    pairAxle e area v s = { s with rtb := { s.rtb with pool := pairedPool e area v s } } := by
  obtain ⟨start, earea, owner, axle, gen, veh, waiting⟩ := e
  cases owner with
  | recorded id => cases axle <;> rfl
  | noRecord => rfl
  | unrecorded => rfl

theorem takeS2_pairs {l : Lane} {h : Hit} {s : State} {e : FifoEntry} (he : s.las[l].fifo.find? (pairs s l h.start) = some e) :
    let v := (s.settingsOf e.gen).site.stripSpacing[l] * 100000 / max (h.start - e.start).toNat 1
    takeS2 l h s = completeCloses l (idNotice (s2Chan l) h.start (entryId e) { s with
      las := put s.las l { s.las[l] with fifo := s.las[l].fifo.eraseP (pairs s l h.start), vref := some v, silentS1 := 0, silentS2 := 0 }
      rtb := { s.rtb with pool := pairedPool e h.area v s } }) := by
  intro v
  rw [takeS2, he]
  dsimp only
  rw [pairAxle_eq]
  rfl

theorem takeS2_spurious {l : Lane} {h : Hit} {s : State} (he : s.las[l].fifo.find? (pairs s l h.start) = none) :
    takeS2 l h s = idNotice (s2Chan l) h.start 0 (giveGraded (silentIx (s1Chan l)) (4 ≤ min (s.las[l].silentS1 + 1) 255) s.tbu.time
      { s with las := put s.las l { s.las[l] with silentS1 := min (s.las[l].silentS1 + 1) 255 } }) := by
  rw [takeS2, he]
  rfl

/-! ### S1 hits (R57, R63 to R66) -/

/-- What the first S1 hit of vehicle n gives, from state y: the record or the fault cause, the entry and the open vehicle (R63, R66). -/
structure Opens (l : Lane) (h : Hit) (n : Nat) (covered : Bool) (y t : State) : Prop where
  opened : y.rtb.pool.length < 48 →
    t.rtb.pool = y.rtb.pool ++ [freshRecord y.rtb.nextId l y.sst.liveGen h.start h.area] ∧
    t.rtb.nextId = (if y.rtb.nextId = 4294967295 then 1 else y.rtb.nextId + 1) ∧
    t.rtb.history = (if y.rtb.nextId = 4294967295 then [] else y.rtb.history) ∧
    t.las[l].fifo = y.las[l].fifo ++ [⟨h.start, h.area, .recorded y.rtb.nextId, some 1, y.sst.liveGen, n, false⟩] ∧
    t.las[l].openVeh = some ⟨n, .recorded y.rtb.nextId, covered, h.start, h.start, h.taken, y.sst.liveGen⟩ ∧
    t.trs = (idNotice (s1Chan l) h.start y.rtb.nextId y).trs
  refused : 48 ≤ y.rtb.pool.length →
    t.rtb = y.rtb ∧
    t.las[l].fifo = y.las[l].fifo ++ [⟨h.start, h.area, .unrecorded, none, y.sst.liveGen, n, false⟩] ∧
    t.las[l].openVeh = some ⟨n, .unrecorded, covered, h.start, h.start, h.taken, y.sst.liveGen⟩ ∧
    t.cmn.conds = put y.cmn.conds (tableFullIx l) (causedEntry true y.tbu.time y.cmn.conds[tableFullIx l]) ∧
    t.trs = (idNotice (s1Chan l) h.start 0 y).trs
  others : ∀ k : Lane, k ≠ l → t.las[k] = y.las[k]
  sealed : t.las[l].sealed = y.las[l].sealed
  dkc    : t.dkc = y.dkc

/-- The id of an owner, 0 where there is no record. -/
def ownerId : Owner → Nat
  | .recorded id => id
  | .unrecorded | .noRecord => 0

theorem enterHit_eq (l : Lane) (h : Hit) (v : OpenVehicle) (axle : Option Nat) (s : State) : enterHit l h v axle s =
    idNotice (s1Chan l) h.start (ownerId v.owner) { s with las := put s.las l { s.las[l] with
      fifo := s.las[l].fifo ++ [⟨h.start, h.area, v.owner, axle, v.gen, v.veh, false⟩]
      openVeh := some { v with lastStart := h.start, lastTaken := h.taken } } } := by
  obtain ⟨veh, owner, covered, first, last, taken, gen⟩ := v
  cases owner <;> rfl

theorem openRecord_free {l : Lane} {start : Time} {area : Nat} {s : State} (h : s.rtb.pool.length < 48) : openRecord l start area s =
    some (s.rtb.nextId, freeNotice (advanceId { s with rtb.pool := s.rtb.pool ++ [freshRecord s.rtb.nextId l s.sst.liveGen start area] })) :=
  if_neg (by show ¬ 48 - s.rtb.pool.length = 0; omega)

theorem openRecord_full {l : Lane} {start : Time} {area : Nat} {s : State} (h : 48 ≤ s.rtb.pool.length) : openRecord l start area s = none :=
  if_pos (by show 48 - s.rtb.pool.length = 0; omega)

theorem advanceId_eq (s : State) : advanceId s = { s with rtb := { s.rtb with
    nextId := if s.rtb.nextId = 4294967295 then 1 else s.rtb.nextId + 1
    history := if s.rtb.nextId = 4294967295 then [] else s.rtb.history } } := by
  rw [advanceId]
  by_cases hlast : s.rtb.nextId = Config.lastId
  · have hlast' : s.rtb.nextId = 4294967295 := hlast
    rw [if_pos hlast, if_pos hlast', if_pos hlast']
  · have hlast' : ¬ s.rtb.nextId = 4294967295 := hlast
    rw [if_neg hlast, if_neg hlast', if_neg hlast']

theorem firstHit_opens (l : Lane) (h : Hit) (v : OpenVehicle) (s : State) : Opens l h v.veh v.loopCovered s (firstHit l h v s) := by
  rw [firstHit]
  dsimp only
  by_cases hfree : s.rtb.pool.length < 48
  · let x := advanceId { s with rtb.pool := s.rtb.pool ++ [freshRecord s.rtb.nextId l s.sst.liveGen h.start h.area] }
    have hx : x = _ := advanceId_eq _
    have hsame : SameA x (freeNotice x) := freeNotice_same x
    rw [openRecord_free hfree]
    dsimp only
    rw [enterHit_eq, idNotice_eq]
    change Opens l h v.veh v.loopCovered s ({ freeNotice x with las := _, trs := _ } : State)
    have hlas : x.las = s.las := by rw [hx]
    have htrs : x.trs = s.trs := by rw [hx]
    refine ⟨fun _ => ⟨?_, ?_, ?_, ?_, ?_, ?_⟩, fun hfull => absurd hfree (Nat.not_lt.mpr hfull), fun k hk => ?_, ?_, ?_⟩
    · show (freeNotice x).rtb.pool = _
      rw [hsame.rtb, hx]
    · show (freeNotice x).rtb.nextId = _
      rw [hsame.rtb, hx]
    · show (freeNotice x).rtb.history = _
      rw [hsame.rtb, hx]
    · show (put (freeNotice x).las l _)[l].fifo = _
      rw [put_getElem_self, hsame.las, hlas]
    · show (put (freeNotice x).las l _)[l].openVeh = _
      rw [put_getElem_self]
    · show noticedTrs _ _ _ (freeNotice x).trs = _
      rw [hsame.trs, htrs, idNotice_eq]
      rfl
    · show (put (freeNotice x).las l _)[k] = _
      rw [put_getElem_other _ _ _ _ hk, hsame.las, hlas]
    · show (put (freeNotice x).las l _)[l].sealed = _
      rw [put_getElem_self, hsame.las, hlas]
    · show (freeNotice x).dkc = _
      rw [hsame.dkc, hx]
  · have hfull := Nat.not_lt.mp hfree
    have hcause := giveFault_places (tableFullIx l) s.tbu.time s
    have hsame : SameA s (giveFault (tableFullIx l) s.now s) := giveFault_same _ _ s
    rw [openRecord_full hfull]
    dsimp only
    rw [enterHit_eq, idNotice_eq]
    refine ⟨fun hc => absurd hc hfree, fun _ => ⟨hsame.rtb, ?_, ?_, hcause.conds, ?_⟩, fun k hk => ?_, ?_, hsame.dkc⟩
    · show (put (giveFault (tableFullIx l) s.now s).las l _)[l].fifo = _
      rw [put_getElem_self, hsame.las]
    · show (put (giveFault (tableFullIx l) s.now s).las l _)[l].openVeh = _
      rw [put_getElem_self]
    · show noticedTrs _ _ _ (giveFault (tableFullIx l) s.now s).trs = _
      rw [hsame.trs, idNotice_eq]
      rfl
    · show (put (giveFault (tableFullIx l) s.now s).las l _)[k] = _
      rw [put_getElem_other _ _ _ _ hk, hsame.las]
    · show (put (giveFault (tableFullIx l) s.now s).las l _)[l].sealed = _
      rw [put_getElem_self, hsame.las]

/-- The vehicle number of a lane taken up changes nothing that a first hit reads. -/
theorem Opens.of_numbered {l : Lane} {h : Hit} {n k : Nat} {covered : Bool} {y t : State}
    (ho : Opens l h n covered { y with las := put y.las l { y.las[l] with nextVeh := k } } t) : Opens l h n covered y t := by
  obtain ⟨hopened, hrefused, hothers, hsealed, hdkc⟩ := ho
  have hget : (put y.las l { y.las[l] with nextVeh := k })[l] = { y.las[l] with nextVeh := k } := put_getElem_self _ _ _
  have hnotice : ∀ id, (idNotice (s1Chan l) h.start id { y with las := put y.las l { y.las[l] with nextVeh := k } }).trs =
      (idNotice (s1Chan l) h.start id y).trs := fun id => by rw [idNotice_eq, idNotice_eq]
  dsimp only at hopened hrefused hothers hsealed hdkc
  rw [hget] at hsealed hopened hrefused
  refine ⟨fun hf => ?_, fun hf => ?_, fun j hj => (hothers j hj).trans (put_getElem_other _ _ _ _ hj), hsealed, hdkc⟩
  · obtain ⟨hpool, hnext, hhist, hfifo, hveh, htrs⟩ := hopened hf
    exact ⟨hpool, hnext, hhist, hfifo, hveh, htrs.trans (hnotice _)⟩
  · obtain ⟨hrtb, hfifo, hveh, hconds, htrs⟩ := hrefused hf
    exact ⟨hrtb, hfifo, hveh, hconds, htrs.trans (hnotice _)⟩

theorem openWith_opens (l : Lane) (covered : Bool) (h : Hit) (s : State) : Opens l h s.las[l].nextVeh covered s (openWith l covered h s) :=
  (firstHit_opens l h ⟨s.las[l].nextVeh, .noRecord, covered, 0, 0, 0, 0⟩
    { s with las := put s.las l { s.las[l] with nextVeh := s.las[l].nextVeh + 1 } }).of_numbered

theorem completeCloses_nextVeh (l : Lane) (s : State) : (completeCloses l s).las[l].nextVeh = s.las[l].nextVeh := by
  obtain ⟨sealed, pending, h⟩ := completeCloses_lane l s
  rw [h]

theorem makeFifoRoom_room {l : Lane} {s : State} (h : s.las[l].fifo.length < 4) : makeFifoRoom l s = s := if_neg (Nat.not_le.mpr h)

theorem takeS1_none {l : Lane} {s : State} (hroom : s.las[l].fifo.length < 4) (h : s.las[l].openVeh = none) (x : Hit) :
    takeS1 l x s = openWith l false x s := by
  rw [takeS1, makeFifoRoom_room hroom]
  simp only [h]

section Open

variable {l : Lane} {s : State} (hroom : s.las[l].fifo.length < 4) {v : OpenVehicle} (h : s.las[l].openVeh = some v) (x : Hit)

include hroom h

theorem takeS1_first (hv : v.owner = .noRecord) : takeS1 l x s = firstHit l x v s := by
  rw [takeS1, makeFifoRoom_room hroom]
  simp only [h, hv]

theorem takeS1_later (hv : v.owner ≠ .noRecord) : takeS1 l x s =
    if splits s l x v then openWith l v.loopCovered x (sealOpen l s) else laterHit l x v s := by
  rw [takeS1, makeFifoRoom_room hroom]
  simp only [h]
  split
  next hno => exact absurd hno hv
  all_goals rfl

omit hroom h in
theorem splits_iff : splits s l x v = true ↔
    (s.settingsOf v.gen).asm.splitGap * 100000 / max (s.las[l].vref.getD (s.settingsOf v.gen).asm.vNominal) 1 <
      (x.start - x.prev.getD v.lastStart).toNat := decide_eq_true_iff

end Open

theorem laterHit_recorded {l : Lane} {v : OpenVehicle} {id : Nat} {r : VRecord} {s : State} (hv : v.owner = .recorded id)
    (hr : findRec s id = some r) (h : Hit) : laterHit l h v s = if r.axles.length < 12 then
      enterHit l h v (some (r.axles.length + 1)) (changeRec id (fun r => { r with axles := r.axles ++ [openAxle h.start h.area] }) s)
    else enterHit l h v none (changeRec id (fun r => { r with reasons := { r.reasons with truncated := true } }) s) := by
  rw [laterHit, hv]
  dsimp only
  rw [hr]
  rfl

theorem laterHit_unrecorded {l : Lane} {v : OpenVehicle} (hv : v.owner = .unrecorded) (h : Hit) (s : State) :
    laterHit l h v s = enterHit l h v none s := by
  rw [laterHit, hv]

end Sys2Proof.Machine

namespace Sys2Proof.Proofs

open Sys2Proof.Machine
open Sys2Proof.Safety

/-- Settles O22: the pair or the spurious hit of S2; the first hit, the split and the later hit of S1, and the room made before them. -/
theorem stripHits : Obligations.StripHits := by
  unfold Obligations.StripHits
  refine ⟨fun l h s => ?_, fun l h s => ?_⟩
  · intro t window
    have hwindow : pairs s l h.start = window := funext fun e => (Bool.decide_and _ _).symm
    refine ⟨fun e he => ?_, fun he => ?_⟩
    · intro v
      let x : State := { s with
        las := put s.las l { s.las[l] with fifo := s.las[l].fifo.eraseP window, vref := some v, silentS1 := 0, silentS2 := 0 }
        rtb := { s.rtb with pool := pairedPool e h.area v s } }
      have ht : t = completeCloses l (idNotice (s2Chan l) h.start (entryId e) x) := by
        have hpair := takeS2_pairs (h := h) (hwindow.symm ▸ he)
        rw [hwindow] at hpair
        exact hpair
      have hlas : (idNotice (s2Chan l) h.start (entryId e) x).las[l] = x.las[l] := by rw [idNotice_eq]
      obtain ⟨sealed, pending, hlane⟩ := completeCloses_lane l (idNotice (s2Chan l) h.start (entryId e) x)
      rw [← ht, hlas, show x.las[l] = _ from put_getElem_self _ _ _] at hlane
      rw [hlane]
      have hid : entryId e = match e.owner with | .recorded id => id | _ => 0 := by
        unfold entryId
        cases e.owner <;> rfl
      rw [hid] at ht
      exact ⟨rfl, rfl, rfl, rfl, ht⟩
    · intro run noticed
      let x : State := { s with las := put s.las l { s.las[l] with silentS1 := run } }
      let y := giveGraded (silentIx (s1Chan l)) (4 ≤ run) s.tbu.time x
      have ht : t = { y with trs := noticedTrs (s2Chan l) h.start 0 y.trs } := by
        rw [← idNotice_eq]
        exact takeS2_spurious (hwindow.symm ▸ he)
      have hsame : SameA x y := giveGraded_same _ _ _ x
      have hcause := giveGraded_places (silentIx (s1Chan l)) (4 ≤ run) s.tbu.time x
      rw [ht]
      refine ⟨hsame.las, hsame.rtb, hsame.dkc, ?_, hcause.conds⟩
      show noticedTrs (s2Chan l) h.start 0 y.trs = _
      rw [hsame.trs]
      exact noticedTrs_zero _ _ s.trs
  · intro t opens
    have hopens : ∀ n covered y, Opens l h n covered y t → opens n covered y := fun n covered y ho =>
      ⟨ho.opened, ho.refused, ho.others, ho.sealed, ho.dkc⟩
    refine ⟨fun hroom hopen => ?_, fun w hroom hopen => ?_, fun e es hfifo hlen => ?_⟩
    · refine hopens _ _ _ ?_
      rw [show t = _ from takeS1_none hroom hopen h]
      exact openWith_opens l false h s
    · intro st vref apart limit joins
      have hsplits : splits s l h w = true ↔ limit < apart := splits_iff h
      refine ⟨fun howner => ?_, fun howner hfar => ?_, fun id r howner hr hnear => ?_, fun howner hnear => ?_⟩
      · refine hopens _ _ _ ?_
        rw [show t = _ from takeS1_first hroom hopen h howner]
        exact firstHit_opens l h w s
      · intro y
        have ht : t = openWith l w.loopCovered h (completeCloses l y) := by
          rw [← sealOpen_eq hopen howner]
          exact (takeS1_later hroom hopen h howner).trans (if_pos (hsplits.mpr hfar))
        have hnext : (completeCloses l y).las[l].nextVeh = s.las[l].nextVeh := by
          rw [completeCloses_nextVeh, show y.las[l] = _ from put_getElem_self _ _ _]
        have hopened := openWith_opens l w.loopCovered h (completeCloses l y)
        rw [← ht, hnext] at hopened
        refine ⟨hopens _ _ _ hopened, fun hheld => hopens _ _ _ ?_⟩
        rwa [completeCloses_held fun v hv => ?_] at hopened
        obtain ⟨e, he, hveh⟩ := hheld v hv
        refine List.any_eq_true.mpr ⟨e, ?_, beq_iff_eq.mpr hveh⟩
        rw [show y.las[l] = _ from put_getElem_self _ _ _]
        exact he
      · have hne : w.owner ≠ .noRecord := by rw [howner]; exact fun hc => by cases hc
        have ht : t = laterHit l h w s :=
          (takeS1_later hroom hopen h hne).trans (if_neg fun hc => absurd (hsplits.mp hc) (Nat.not_lt.mpr hnear))
        have hid : ownerId w.owner = id := by rw [howner]; rfl
        rw [laterHit_recorded howner hr] at ht
        refine ⟨fun hfew => ?_, fun hmany => ?_⟩
        · rw [if_pos hfew, enterHit_eq, hid] at ht
          exact ht
        · rw [if_neg (Nat.not_lt.mpr hmany), enterHit_eq, hid] at ht
          exact ht
      · have hne : w.owner ≠ .noRecord := by rw [howner]; exact fun hc => by cases hc
        have ht : t = laterHit l h w s :=
          (takeS1_later hroom hopen h hne).trans (if_neg fun hc => absurd (hsplits.mp hc) (Nat.not_lt.mpr hnear))
        rw [ht, laterHit_unrecorded howner, enterHit_eq, howner]
        rfl
    · intro run ce
      obtain ⟨y, hy, hfirst⟩ := orphanFirst_places (l := l) (p := fun _ => true) (e := e) (s := s) (by rw [hfifo]; rfl)
      have herase : s.las[l].fifo.eraseP (fun _ => true) = es := by rw [hfifo]; rfl
      rw [herase] at hy
      refine ⟨y, hy.toPlacedFrom, ?_⟩
      obtain ⟨sealed, pending, hlane⟩ := completeCloses_lane l y
      have hylas : y.las[l] = { s.las[l] with fifo := es, silentS2 := run } :=
        (congrArg (fun v : Vector LasState 3 => v[l]) hy.las).trans (put_getElem_self _ _ _)
      have hroom : (completeCloses l y).las[l].fifo.length < 4 := by
        rw [hlane, hylas]
        show es.length < 4
        omega
      have hmade : makeFifoRoom l s = completeCloses l y := by
        rw [makeFifoRoom, if_pos (by rw [hfifo, List.length_cons, hlen]; exact le_rfl)]
        exact hfirst
      show takeS1 l h s = _
      rw [takeS1, hmade, takeS1, makeFifoRoom_room hroom]

end Sys2Proof.Proofs
end

section
/-! SUPPORT. Proofs about the Loop Input Unit: the roles of the loops, the notices of a change of service, raw edges and the watches (R45 to
R50). -/

namespace Sys2Proof.Machine

open Sys2Proof.Safety

/-! ### The roles of the loops (Table 0-6) -/

theorem loopRole_pLoop (k : Lane) : loopRole (pLoop k) = .presence k := by revert k; decide

theorem loopRole_eLoop (k : Lane) : loopRole (eLoop k) = .threshold k := by revert k; decide

theorem loopRole_xLoop (k : Lane) : loopRole (xLoop k) = .deckExit k := by revert k; decide

/-! ### The state of one loop -/

/-- The state with a loop's state replaced. -/
def withLoop (l : Loop) (x : LoopState) (s : State) : State := { s with liu := { s.liu with loops := put s.liu.loops l x } }

theorem withLoop_loops (l : Loop) (x : LoopState) (s : State) : (withLoop l x s).liu.loops[l] = x := put_getElem_self _ _ _

theorem withLoop_withLoop (l : Loop) (x y : LoopState) (s : State) : withLoop l y (withLoop l x s) = withLoop l y s := by
  rw [withLoop, withLoop, withLoop]
  simp only [put_put]

/-! ### Changes of service (R50) -/

/-- What the notices of a change of service leave: settings, loops, time, closed marks, and every condition but the deck's own. -/
structure DeckOnly (s t : State) : Prop where
  sst   : t.sst = s.sst
  liu   : t.liu = s.liu
  tbu   : t.tbu = s.tbu
  conds : ∀ ix, ¬ DeckIx ix → t.cmn.conds[ix] = s.cmn.conds[ix]
  marks : t.cmn.closedMark = s.cmn.closedMark

theorem DeckOnly.refl (s : State) : DeckOnly s s := ⟨rfl, rfl, rfl, fun _ _ => rfl, rfl⟩

theorem DeckOnly.trans {s t u : State} (h : DeckOnly s t) (k : DeckOnly t u) : DeckOnly s u :=
  ⟨k.sst.trans h.sst, k.liu.trans h.liu, k.tbu.trans h.tbu, fun ix hix => (k.conds ix hix).trans (h.conds ix hix),
    k.marks.trans h.marks⟩

theorem DeckMoves.deckOnly {s t : State} (h : DeckMoves s t) (k : SameB s t) : DeckOnly s t := 
  ⟨k.sst, k.liu, k.tbu, h.conds, (congrArg (fun c : CmnState => c.closedMark) h.cmn :)⟩

theorem blindBegins_deckMoves (s : State) : DeckMoves s (blindBegins s) := by
  rw [blindBegins]
  split
  iterate 3 exact enterBlind_deckMoves _ _
  iterate 2 exact ((flushOut_deckMoves _).trans (deckReview_deckMoves _)).after rfl rfl rfl rfl
  all_goals exact (flushOut_deckMoves _).trans (deckReview_deckMoves _)

theorem reviewBlind_deckMoves (further : Bool) (s : State) : DeckMoves s (reviewBlind further s) := by
  have hblind : DeckMoves s { s with dkc.blind := blindNow s } := .of_same rfl rfl rfl rfl
  refine hblind.trans ?_
  rw [reviewBlind]
  dsimp only
  split
  · split
    · exact blindBegins_deckMoves _
    · split
      · exact (flushOut_deckMoves _).trans (deckReview_deckMoves _)
      · exact .refl _
  · split
    · exact enterResync_deckMoves _ _
    · exact .refl _

theorem reviewBlind_deckOnly (further : Bool) (s : State) : DeckOnly s (reviewBlind further s) :=
  (reviewBlind_deckMoves further s).deckOnly (reviewBlind_same further s)

theorem deckLoopLost_deckOnly (l : Lane) (s : State) : DeckOnly s (deckLoopLost l s) := by
  rw [deckLoopLost]
  split
  · exact .refl s
  · exact reviewBlind_deckOnly true s

theorem ghostVerdict_deckOnly (l : Lane) (isHeavy : Bool) (s : State) : DeckOnly s (Machine.ghostVerdict l isHeavy s) := by
  have hsame := ghostVerdict_same l isHeavy s
  refine ⟨hsame.sst, hsame.liu, hsame.tbu, fun ix hix => ?_, ?_⟩
  all_goals rw [Machine.ghostVerdict]
  · split
    · dsimp only
      split
      · rfl
      · exact (deckReview_deckMoves _).conds ix hix
    · split <;> rfl
  · split
    · dsimp only
      split
      · rfl
      · exact ((deckReview_deckMoves _).deckOnly (deckReview_same _)).marks
    · split <;> rfl

theorem settleGhost_deckOnly (l : Lane) (isHeavy : Bool) (s : State) : DeckOnly s (settleGhost l isHeavy s) := by
  have hmark : DeckOnly s { s with rtk.ghost := put s.rtk.ghost l false } := ⟨rfl, rfl, rfl, fun _ _ => rfl, rfl⟩
  exact hmark.trans (ghostVerdict_deckOnly l isHeavy _)

theorem thresholdLost_deckOnly (l : Lane) (s : State) : DeckOnly s (thresholdLost l s) := by
  have hfree : DeckOnly s (useFree s) := ⟨rfl, rfl, rfl, fun _ _ => rfl, rfl⟩
  rw [thresholdLost]
  split
  · exact deckLoopLost_deckOnly l s
  · split
    · exact settleGhost_deckOnly l true s
    · split
      · exact (hfree.trans (settleGhost_deckOnly l true _)).trans (deckLoopLost_deckOnly l _)
      · exact (hfree.trans (deckLoopLost_deckOnly l _)).trans (settleGhost_deckOnly l true _)

/-- The loop that is lost has its occupancy announced no more. -/
def quieted (l : Loop) (s : State) : State := withLoop l { s.liu.loops[l] with announced := false } s

theorem serviceLost_deckOnly (l : Loop) (s : State) : DeckOnly (quieted l s) (serviceLost l s) := by
  rw [serviceLost]
  split
  · exact ⟨rfl, rfl, rfl, fun _ _ => rfl, rfl⟩
  · exact thresholdLost_deckOnly _ _
  · exact deckLoopLost_deckOnly _ _
  · exact .refl _

theorem serviceGained_deckOnly (l : Loop) (s : State) : DeckOnly s (serviceGained l s) := by
  rw [serviceGained]
  split
  · exact reviewBlind_deckOnly false s
  · exact reviewBlind_deckOnly false s
  · exact .refl s
  · exact .refl s

theorem inService_iff (s : State) (l : Loop) : inService s l = true ↔ loopInUse s.sst.live l = true ∧ s.liu.loops[l].stuck ≠ .faulted ∧
    ∀ ep, s.liu.loops[l].chatter = some ep → ep.faultGiven = false := by
  rw [inService, Bool.and_eq_true, Bool.and_eq_true, bne_iff_ne, Bool.not_eq_true', Option.any_eq_false, and_assoc]

/-- A service is read from the settings and the loop's own state. -/
theorem inService_congr {s t : State} {l : Loop} (hlive : t.sst.live = s.sst.live) (hstuck : t.liu.loops[l].stuck = s.liu.loops[l].stuck)
    (hchatter : t.liu.loops[l].chatter = s.liu.loops[l].chatter) : inService t l = inService s l := by
  rw [inService, hlive, hstuck, hchatter, inService]

theorem serviceLost_service (l : Loop) (s : State) : inService (serviceLost l s) l = inService s l := by
  have hdeck := serviceLost_deckOnly l s
  have hloop : (serviceLost l s).liu.loops[l] = { s.liu.loops[l] with announced := false } := by
    rw [hdeck.liu]
    exact withLoop_loops l _ s
  exact inService_congr (congrArg (fun u => u.live) hdeck.sst :) (by rw [hloop]) (by rw [hloop])

/-- A loop that a fault has taken out of service. -/
theorem serviceChange_out {l : Loop} {s : State} (was : Bool) (h : inService s l = false) :
    serviceChange l was s = if was then serviceLost l s else s := by
  rw [serviceChange, h]
  cases was <;> rfl

/-- A loop that is not put out of service. -/
theorem serviceChange_back {l : Loop} {s : State} {was : Bool} (h : was = true → inService s l = true) :
    serviceChange l was s = if was = false ∧ inService s l = true then serviceGained l s else s := by
  rw [serviceChange]
  cases was with
  | true => rw [h rfl]; rfl
  | false => cases inService s l <;> rfl

theorem DeckOnly.laneOpen {s t : State} (h : DeckOnly s t) {l : Lane} (hl : laneModeOf s l ≠ .closed) : laneModeOf t l ≠ .closed := by
  rw [ne_eq, ← beq_iff_eq, laneModeOf_eq_closed] at hl ⊢
  rw [h.sst, h.marks]
  exact hl

theorem deckLoopLost_open {l : Lane} {s : State} (h : laneModeOf s l ≠ .closed) : deckLoopLost l s = reviewBlind true s := if_neg h

theorem deckLoopLost_closed {l : Lane} {s : State} (h : laneModeOf s l = .closed) : deckLoopLost l s = s := if_pos h

theorem serviceLost_pLoop (k : Lane) (s : State) : serviceLost (pLoop k) s = lasLoopLost k (quieted (pLoop k) s) := by
  rw [serviceLost, loopRole_pLoop]
  rfl

theorem serviceLost_eLoop (k : Lane) (s : State) : serviceLost (eLoop k) s = thresholdLost k (quieted (eLoop k) s) := by
  rw [serviceLost, loopRole_eLoop]
  rfl

theorem serviceLost_xLoop (k : Lane) (s : State) : serviceLost (xLoop k) s = deckLoopLost k (quieted (xLoop k) s) := by
  rw [serviceLost, loopRole_xLoop]
  rfl

theorem thresholdLost_unmarked {l : Lane} {s : State} (h : s.rtk.ghost[l] = false) : thresholdLost l s = deckLoopLost l s := by
  rw [thresholdLost, h]
  rfl

theorem thresholdLost_marked {l : Lane} {s : State} (h : s.rtk.ghost[l] = true) : thresholdLost l s =
    if laneModeOf s l = .closed then settleGhost l true s
    else if Config.verdictFirst s.freeIndex then deckLoopLost l (settleGhost l true (useFree s))
    else settleGhost l true (deckLoopLost l (useFree s)) := by
  rw [thresholdLost, h]
  rfl

theorem chatterIx_not_deckIx (l : Loop) : ¬ DeckIx (chatterIx l) := by
  rintro ⟨k, h⟩
  revert l k
  decide

theorem loopStuckIx_not_deckIx (l : Loop) : ¬ DeckIx (loopStuckIx l) := by
  rintro ⟨k, h⟩
  revert l k
  decide

/-! ### Raw edges (R45, R46, R49) -/

/-- The debounce of an input after a raw edge to a level (R46). -/
def edgedDebounce (now : Time) (seen : Bool) (d : Debounce) : Debounce :=
  { d with
    lastEdge := now
    cand := if d.cand.isSome then d.cand else if seen = d.level then none else some ⟨seen, now⟩ }

theorem debounceEdge_eq (now : Time) (seen : Bool) (d : Debounce) : debounceEdge now seen d = edgedDebounce now seen d := by
  rw [debounceEdge, edgedDebounce]
  cases d.cand with
  | some c => rfl
  | none => simp only [beq_iff_eq, Option.isSome_none, Bool.false_eq_true, if_false]

/-- The state after a raw edge of an input in use, before the chatter watch. -/
def edged (i : Input) (level : Bool) (s : State) : State :=
  { s with liu := { s.liu with
    pins := put s.liu.pins i level
    deb := put s.liu.deb i (edgedDebounce s.tbu.time (levelUnder s.sst.live i level) s.liu.deb[i]) } }

theorem observe_eq (i : Input) (level : Bool) (s : State) : observe i level s =
    if inputInUse s.sst.live i then
      match inputLoop i with
      | some l => chatterEdge l (edged i level s)
      | none => edged i level s
    else { s with liu.pins := put s.liu.pins i level } := by
  have hseen : rawLevel { s with liu.pins := put s.liu.pins i level } i = levelUnder s.sst.live i level := by
    rw [rawLevel, put_getElem_self]
  rw [observe]
  dsimp only
  split
  · rw [takeEdge, hseen]
    have hstate : changeDeb i (debounceEdge s.tbu.time (levelUnder s.sst.live i level)) { s with liu.pins := put s.liu.pins i level } =
        edged i level s := congrArg (fun d => ({ s with liu := { s.liu with pins := put s.liu.pins i level, deb := put s.liu.deb i d } } : State))
      (debounceEdge_eq _ _ _)
    rw [← hstate]
    rfl
  · rfl

/-- A loop's edge-time list after an edge (R49). -/
def edgesAfter (l : Loop) (s : State) : List StoredTime :=
  keepNewest s.sst.live.loop.chatterN (s.liu.loops[l].edges ++ [⟨s.tbu.time, false⟩])

theorem chatterEdge_eq (l : Loop) (s : State) : chatterEdge l s =
    let x := { s.liu.loops[l] with edges := edgesAfter l s }
    if recentRun s.sst.live.loop.chatterN 100000 s.tbu.time (edgesAfter l s) then chatterDetection l (withLoop l x s)
    else withLoop l x s := rfl

theorem chatterDetection_none {l : Loop} {s : State} (h : s.liu.loops[l].chatter = none) : chatterDetection l s =
    giveCause (chatterIx l) s.tbu.time (withLoop l { s.liu.loops[l] with chatter := some ⟨s.tbu.time, s.tbu.time, false⟩ } s) := by
  rw [chatterDetection, h]
  rfl

theorem chatterDetection_some {l : Loop} {s : State} {ep : Episode} (h : s.liu.loops[l].chatter = some ep) : chatterDetection l s =
    let isFault := !ep.faultGiven && passed s.now ep.start 1000000
    let x := { s.liu.loops[l] with chatter := some ⟨ep.start, s.tbu.time, ep.faultGiven || isFault⟩ }
    if isFault then serviceChange l (inService s l) (giveFault (chatterIx l) s.tbu.time (withLoop l x s)) else withLoop l x s := by
  rw [chatterDetection, h]
  rfl

theorem chatterDetection_runs {l : Loop} {s : State} {ep : Episode} (h : s.liu.loops[l].chatter = some ep)
    (hno : ep.faultGiven = true ∨ (s.tbu.time - ep.start).toNat < 1000000) :
    chatterDetection l s = withLoop l { s.liu.loops[l] with chatter := some { ep with lastDet := s.tbu.time } } s := by
  have hnot : ¬ (!ep.faultGiven && passed s.now ep.start 1000000) = true := by
    rw [Bool.and_eq_true, Bool.not_eq_true', passed_iff]
    rintro ⟨hg, hp⟩
    rcases hno with hno | hno
    · rw [hg] at hno
      cases hno
    · exact absurd hp (Nat.not_le.mpr hno)
  rw [chatterDetection_some h]
  dsimp only
  rw [if_neg hnot, Bool.eq_false_iff.mpr hnot, Bool.or_false]

theorem chatterDetection_faults {l : Loop} {s : State} {ep : Episode} (h : s.liu.loops[l].chatter = some ep)
    (hnew : ep.faultGiven = false) (hlong : 1000000 ≤ (s.tbu.time - ep.start).toNat) :
    chatterDetection l s = serviceChange l (inService s l) (giveFault (chatterIx l) s.tbu.time
      (withLoop l { s.liu.loops[l] with chatter := some ⟨ep.start, s.tbu.time, true⟩ } s)) := by
  have hyes : (!ep.faultGiven && passed s.now ep.start 1000000) = true := by
    rw [Bool.and_eq_true, Bool.not_eq_true', passed_iff]
    exact ⟨hnew, hlong⟩
  rw [chatterDetection_some h]
  dsimp only
  rw [if_pos hyes, hyes, Bool.or_true]

theorem serviceChange_pins (l : Loop) (was : Bool) (s : State) : (serviceChange l was s).liu.pins = s.liu.pins := by
  rw [serviceChange]
  split
  · rw [(serviceLost_deckOnly l s).liu]
    rfl
  · split
    · rw [(serviceGained_deckOnly l s).liu]
    · rfl

theorem chatterEdge_pins (l : Loop) (s : State) : (chatterEdge l s).liu.pins = s.liu.pins := by
  have hdetection : ∀ u : State, (chatterDetection l u).liu.pins = u.liu.pins := fun u => by
    cases h : u.liu.loops[l].chatter with
    | none =>
      rw [chatterDetection_none h, (giveCause_same _ _ _).liu]
      rfl
    | some ep =>
      rw [chatterDetection_some h]
      dsimp only
      split
      · rw [serviceChange_pins, (giveFault_same _ _ _).liu]
        rfl
      · rfl
  rw [chatterEdge_eq]
  dsimp only
  split
  · exact hdetection _
  · rfl

/-! ### Faults and their end (R48 to R50) -/

theorem giveGraded_service (ix : CondIx) (b : Bool) (t : Time) (s : State) (l : Loop) : inService (giveGraded ix b t s) l = inService s l := by
  have hsame := giveGraded_same ix b t s
  exact inService_congr (by rw [hsame.sst]) (by rw [hsame.liu]) (by rw [hsame.liu])

theorem settle_service (s : State) (l : Loop) : inService (settle s) l = inService s l := settled_same s (inService · l) fun _ => rfl

/-- A fault cause that finds its loop out of service: the cause, and then the notices of the loss (log entry 45). -/
theorem fault_leaves {ix : CondIx} (hix : ¬ DeckIx ix) {l : Loop} {z : State} (h : inService z l = false) (was : Bool) :
    let e := causedEntry true z.tbu.time z.cmn.conds[ix]
    let t := settle (serviceChange l was (giveFault ix z.tbu.time z))
    t.cmn.conds[ix] = e ∧ inService t l = false ∧
      ∃ y, PlacedFrom (changeReports ix e z) (withEntry ix e z) y ∧ FormedFrom (if was then serviceLost l y else y) t := by
  intro e t
  have hfault := giveFault_places ix z.tbu.time z
  have hout : inService (giveFault ix z.tbu.time z) l = false := (giveGraded_service ix true z.tbu.time z l).trans h
  have ht : t = settle (if was then serviceLost l (giveFault ix z.tbu.time z) else giveFault ix z.tbu.time z) :=
    congrArg settle (serviceChange_out was hout)
  have hgiven : (giveFault ix z.tbu.time z).cmn.conds[ix] = e := by rw [hfault.conds, withEntry_conds_self]
  rw [ht]
  refine ⟨?_, ?_, _, hfault.toPlacedFrom, settle_formedFrom _⟩
  · refine (settled_same _ (·.cmn.conds[ix]) fun _ => rfl).trans ?_
    cases was
    · exact hgiven
    · exact ((serviceLost_deckOnly l _).conds ix hix).trans hgiven
  · rw [settle_service]
    cases was
    · exact hout
    · exact (serviceLost_service l _).trans hout

/-- A clear notice that may return its loop to service: the notice, and then the notices of the return (log entry 45). -/
theorem clear_returns {ix : CondIx} (hix : ¬ DeckIx ix) {l : Loop} {z : State} {was : Bool} (h : was = true → inService z l = true) :
    let e := clearedEntry z.tbu.time z.cmn.conds[ix]
    let t := settle (serviceChange l was (giveClear ix z))
    t.cmn.conds[ix] = e ∧ ∃ y, PlacedFrom (changeReports ix e z) (withEntry ix e z) y ∧
      FormedFrom (if was = false ∧ inService y l = true then serviceGained l y else y) t := by
  intro e t
  have hclear := giveClear_places ix z
  have hsame := giveClear_same ix z
  have hservice : inService (giveClear ix z) l = inService z l := inService_congr (by rw [hsame.sst]) (by rw [hsame.liu]) (by rw [hsame.liu])
  have ht : t = settle (if was = false ∧ inService (giveClear ix z) l = true then serviceGained l (giveClear ix z) else giveClear ix z) :=
    congrArg settle (serviceChange_back fun hw => hservice.trans (h hw))
  have hgiven : (giveClear ix z).cmn.conds[ix] = e := by rw [hclear.conds, withEntry_conds_self]
  rw [ht]
  refine ⟨?_, _, hclear.toPlacedFrom, settle_formedFrom _⟩
  refine (settled_same _ (·.cmn.conds[ix]) fun _ => rfl).trans ?_
  split
  · exact ((serviceGained_deckOnly l _).conds ix hix).trans hgiven
  · exact hgiven

end Sys2Proof.Machine

namespace Sys2Proof.Proofs

open Sys2Proof.Machine
open Sys2Proof.Safety

/-- Settles O16: the edge with its chatter watch, the two faults, the end of chatter, and the notices of R50 by the loop's role. -/
theorem loopWatches : Obligations.LoopWatches := by
  unfold Obligations.LoopWatches
  refine ⟨fun i level s hpin => ?_, fun l s huse hocc hstuck hpassed => ?_, fun l ep s huse hep hpassed => ?_, fun k s => ?_⟩
  · intro seen d deb
    have hdue : edgeDue i level s = true := bne_iff_ne.mpr hpin
    have hexec : exec (.rawEdge i level) s = .next (settle (observe i level s)) := when'_due hdue s _
    refine ⟨_, hexec, ?_, fun hout => ?_, fun hin hnone => ?_, fun l hl hin => ?_⟩
    · refine (settled_same _ (·.liu.pins) fun _ => rfl).trans ?_
      rw [observe_eq]
      split
      · split
        · exact chatterEdge_pins _ _
        · rfl
      · rfl
    · rw [observe_eq, if_neg (by rw [hout]; decide)]
      exact settle_formedFrom _
    · rw [observe_eq, if_pos hin, hnone]
      exact settle_formedFrom _
    · intro n x edges detection inLoop
      have hobserve : observe i level s = chatterEdge l (edged i level s) := by rw [observe_eq, if_pos hin, hl]
      have hdet : recentRun n 100000 s.tbu.time edges = detection := recentRun_eq _ _ _ _
      have hquiet : detection = false → observe i level s = inLoop { x with edges := edges } := fun hd => by
        rw [hobserve, chatterEdge_eq]
        exact if_neg (by rw [← hdet] at hd; exact Bool.eq_false_iff.mp hd)
      have hloud : detection = true → observe i level s = chatterDetection l (inLoop { x with edges := edges }) := fun hd => by
        rw [hobserve, chatterEdge_eq]
        exact if_pos (hdet.trans hd)
      have hat : (inLoop { x with edges := edges }).liu.loops[l] = { x with edges := edges } := put_getElem_self _ _ _
      have hput : ∀ y z, withLoop l y (inLoop z) = inLoop y := fun y z => withLoop_withLoop l z y (edged i level s)
      refine ⟨fun hd => ?_, fun hd hnone => ?_, fun ep hd hep => ⟨fun hno => ?_, fun hnew hlong => ?_⟩⟩
      · rw [hquiet hd]
        exact settle_formedFrom _
      · have hcause := giveCause_places (chatterIx l) s.tbu.time
          (inLoop { x with edges := edges, chatter := some ⟨s.tbu.time, s.tbu.time, false⟩ })
        rw [hloud hd, chatterDetection_none (by rw [hat]; exact hnone), hat, hput]
        exact placed_settled hcause.toPlacedFrom
      · have hep' : (inLoop { x with edges := edges }).liu.loops[l].chatter = some ep := by rw [hat]; exact hep
        rw [hloud hd, chatterDetection_runs hep' hno, hat, hput]
        exact settle_formedFrom _
      · intro e
        have hep' : (inLoop { x with edges := edges }).liu.loops[l].chatter = some ep := by rw [hat]; exact hep
        have hwas : inService (inLoop { x with edges := edges }) l = inService s l := inService_congr rfl (by rw [hat]) (by rw [hat])
        let z := inLoop { x with edges := edges, chatter := some ⟨ep.start, s.tbu.time, true⟩ }
        have hout : inService z l = false := Bool.eq_false_iff.mpr fun hin => by
          obtain ⟨-, -, hgiven⟩ := (inService_iff z l).mp hin
          have hchatter : z.liu.loops[l].chatter = some ⟨ep.start, s.tbu.time, true⟩ := congrArg LoopState.chatter (put_getElem_self _ _ _)
          exact Bool.noConfusion (hgiven _ hchatter)
        have hresult : observe i level s = serviceChange l (inService s l) (giveFault (chatterIx l) s.tbu.time z) := by
          rw [hloud hd, chatterDetection_faults hep' hnew hlong, hat, hput, hwas]
        rw [hresult]
        exact fault_leaves (chatterIx_not_deckIx l) hout (inService s l)
  · intro e
    have hdue : stuckFaultDue l s = true := by
      rw [stuckFaultDue, occupiedFor, Bool.and_eq_true, Bool.and_eq_true, Bool.and_eq_true, bne_iff_ne, passed_iff]
      exact ⟨hstuck, ⟨huse, hocc⟩, hpassed⟩
    let z := withLoop l { s.liu.loops[l] with stuck := .faulted } s
    have hout : inService z l = false := Bool.eq_false_iff.mpr fun hin => by
      obtain ⟨-, hno, -⟩ := (inService_iff z l).mp hin
      exact hno (congrArg LoopState.stuck (withLoop_loops l _ s))
    exact ⟨_, when'_due hdue s _, fault_leaves (z := z) (loopStuckIx_not_deckIx l) hout (inService s l)⟩
  · intro e
    have hdue : chatterQuietDue l s = true := by
      rw [chatterQuietDue, huse, hep]
      exact (passed_iff _ _ _).mpr hpassed
    let z := withLoop l { s.liu.loops[l] with chatter := none, edges := [] } s
    have hat : z.liu.loops[l] = { s.liu.loops[l] with chatter := none, edges := [] } := withLoop_loops l _ s
    have hback : inService s l = true → inService z l = true := fun hin => by
      obtain ⟨hu, hs, -⟩ := (inService_iff s l).mp hin
      refine (inService_iff z l).mpr ⟨hu, ?_, fun ep' hep' => ?_⟩
      · rw [hat]
        exact hs
      · rw [hat] at hep'
        cases hep'
    exact ⟨_, when'_due hdue s _, clear_returns (z := z) (chatterIx_not_deckIx l) hback⟩
  · intro quiet y
    have hmode : ∀ l, laneModeOf (quiet l) k = laneModeOf s k := fun l => rfl
    refine ⟨?_, rfl, fun hc => ⟨?_, ?_⟩, fun ho => ⟨?_, fun hg => ?_, fun hg => ?_⟩, ?_, rfl, ?_, ?_⟩
    · rw [serviceLost_pLoop]
      have hopen : ∀ o : Option OpenVehicle, (match o with
          | some v => if v.owner == Owner.noRecord then none else some { v with loopCovered := false }
          | none => none) = match o with
          | some v => if v.owner = Owner.noRecord then none else some { v with loopCovered := false }
          | none => none := fun o => by
        cases o with
        | none => rfl
        | some v => simp only [beq_iff_eq]
      exact congrArg (fun o => ({ quiet (pLoop k) with las := put s.las k { s.las[k] with openVeh := o } } : State)) (hopen _)
    · rw [serviceLost_xLoop]
      exact deckLoopLost_closed (s := quiet (xLoop k)) hc
    · rw [serviceLost_eLoop]
      cases hg : s.rtk.ghost[k] with
      | false => exact (thresholdLost_unmarked (s := quiet (eLoop k)) hg).trans (deckLoopLost_closed (s := quiet (eLoop k)) hc)
      | true => exact (thresholdLost_marked (s := quiet (eLoop k)) hg).trans (if_pos hc)
    · rw [serviceLost_xLoop]
      exact deckLoopLost_open (s := quiet (xLoop k)) ho
    · rw [serviceLost_eLoop]
      exact (thresholdLost_unmarked (s := quiet (eLoop k)) hg).trans (deckLoopLost_open (s := quiet (eLoop k)) ho)
    · have hlost := (thresholdLost_marked (s := quiet (eLoop k)) hg).trans (if_neg ho)
      rw [serviceLost_eLoop, show thresholdLost k (quieted (eLoop k) s) = _ from hlost]
      split
      · exact .inl (deckLoopLost_open ((settleGhost_deckOnly k true y).laneOpen ho))
      · exact .inr (congrArg (settleGhost k true) (deckLoopLost_open (s := y) ho))
    · rw [serviceGained, loopRole_pLoop]
    · rw [serviceGained, loopRole_eLoop]
    · rw [serviceGained, loopRole_xLoop]

end Sys2Proof.Proofs
end

section
/-! SUPPORT. Proofs about accepted candidates: arrivals and departs by the role of the loop, and what they leave of the loops (R46 to R53). -/

namespace Sys2Proof.Machine

open Sys2Proof.Safety

/-! ### Arrivals at the threshold -/

theorem boardHeavy_same (l : Lane) (t : Time) (r : VRecord) (load : Nat) (admitted noncompliant : Bool) (s : State) :
    SameB s (boardHeavy l t r load admitted noncompliant s) :=
  (leaveApproach_same r.id s).trans ((changeRec_same _ _ _).trans (enterDeck_same _ _ _))

theorem countUnadmitted_same (s : State) : SameB s (countUnadmitted s) := by constructor <;> rfl

theorem enterHeavy_same (l : Lane) (t : Time) (r : VRecord) (s : State) : SameB s (enterHeavy l t r s) := by
  rw [enterHeavy]
  split
  · exact (endGrant_same r.id s).trans ((boardHeavy_same _ _ _ _ _ _ _).trans (deckReview_same _))
  all_goals
    exact (leaveQueue_same r.id s).trans ((boardHeavy_same _ _ _ _ _ _ _).trans ((countUnadmitted_same _).trans (deckReview_same _)))

theorem enterDivert_same (l : Lane) (t : Time) (r : VRecord) (s : State) : SameB s (enterDivert l t r s) := by
  have hcount : ∀ f u, SameB u (countLane r.lane f u) := fun f u => by constructor <;> rfl
  exact (boardHeavy_same l t r _ _ _ s).trans ((countUnadmitted_same _).trans ((noncomplianceCause_same _ _ _).toB.trans
    ((hcount _ _).trans ((isolate_same _).trans (deckReview_same _)))))

theorem enterLight_same (l : Lane) (t : Time) (r : VRecord) (s : State) : SameB s (enterLight l t r s) :=
  (enterDeck_same _ _ s).trans ((deckReview_same _).trans (closeRecord_same _ _ _))

theorem refuseArrival_same (l : Lane) (r : VRecord) (s : State) : SameB s (refuseArrival l r s) := by
  have hout : SameB s (match r.admission with
      | .granted => endGrant r.id s
      | .queued => leaveQueue r.id s
      | .none | .expired | .unadmitted | .used => s) := by
    split
    · exact endGrant_same _ s
    · exact leaveQueue_same _ s
    all_goals exact .rfl' s
  exact hout.trans ((changeRec_same _ _ _).trans ((closeRecord_same _ _ _).trans (listOverflow_same _)))

theorem matchedArrival_same (l : Lane) (t : Time) (r : VRecord) (s : State) : SameB s (matchedArrival l t r s) := by
  rw [matchedArrival]
  split
  · exact refuseArrival_same l r s
  · refine (changeRec_same r.id (fun x => { x with deckLane := some l }) s).trans ?_
    dsimp only
    split
    · exact enterDivert_same l t r _
    · exact enterHeavy_same l t r _
    · exact enterLight_same l t r _
    · exact enterLight_same l t r _

/-! ### What arrivals and departs leave of the loops -/

/-- Settings, loops and time are as before. -/
structure SameLoops (s t : State) : Prop where
  sst : t.sst = s.sst
  liu : t.liu = s.liu
  tbu : t.tbu = s.tbu

theorem SameLoops.trans {s t u : State} (h : SameLoops s t) (k : SameLoops t u) : SameLoops s u :=
  ⟨k.sst.trans h.sst, k.liu.trans h.liu, k.tbu.trans h.tbu⟩

theorem SameB.loops {s t : State} (h : SameB s t) : SameLoops s t := ⟨h.sst, h.liu, h.tbu⟩
theorem SameC.loops {s t : State} (h : SameC s t) : SameLoops s t := ⟨h.sst, h.liu, h.tbu⟩
theorem SameD.loops {s t : State} (h : SameD s t) : SameLoops s t := ⟨h.sst, h.liu, h.tbu⟩

theorem thresholdArrive_loops (l : Lane) (t : Time) (s : State) : SameLoops s (thresholdArrive l t s) := by
  rw [thresholdArrive]
  split
  · exact (matchedArrival_same l t _ s).loops
  · rw [unmatchedArrival]
    split
    · exact (listOverflow_same s).loops
    · have hentered := (enterDeck_same l (ghostEntry t) s).loops
      have hreviewed := fun u => (deckReview_same u).loops
      exact ⟨(hreviewed _).sst.trans hentered.sst, (hreviewed _).liu.trans hentered.liu, (hreviewed _).tbu.trans hentered.tbu⟩

theorem slipArrive_loops (t : Time) (s : State) : SameLoops s (slipArrive t s) := by
  rw [slipArrive]
  split
  · exact ⟨rfl, rfl, rfl⟩
  · split
    · exact (closeRecord_same _ _ _).loops
    · exact ((withdraw_same _ s).trans (closeRecord_same _ _ _)).loops

/-- The state with a loop's ARRIVE announced. -/
def announced (l : Loop) (s : State) : State := withLoop l { s.liu.loops[l] with announced := true } s

theorem presenceArrive_closed {l : Lane} {s : State} (h : laneModeOf s l = .closed) (t : Time) :
    presenceArrive l t s = giveCause (intrusionIx l) s.tbu.time (abandonLaneZero l s) := by
  rw [presenceArrive, if_pos (beq_iff_eq.mpr h)]
  rfl

theorem presenceArrive_open {l : Lane} {s : State} (h : laneModeOf s l ≠ .closed) (t : Time) :
    presenceArrive l t s = abandonLaneZero l (lasArrive l t (announced (pLoop l) s)) := by
  rw [presenceArrive, if_neg fun hc => h (beq_iff_eq.mp hc)]
  rfl

theorem handArrive_eq (l : Loop) (t : Time) (s : State) : handArrive l t s =
    match loopRole l with
    | .presence k => presenceArrive k t s
    | .threshold k => thresholdArrive k t (announced l s)
    | .deckExit k => exitArrive k (announced l s)
    | .slip => slipArrive t (announced l s) := rfl

theorem role_presence {l : Loop} {k : Lane} (h : loopRole l = .presence k) : l = pLoop k := by
  revert l k
  decide

/-- An ARRIVE handed on leaves loops and settings, but that it may be announced. -/
theorem handArrive_loops (l : Loop) (t : Time) (s : State) : SameLoops s (handArrive l t s) ∨ SameLoops (announced l s) (handArrive l t s) := by
  rw [handArrive_eq]
  split
  next k hk =>
    by_cases hc : laneModeOf s k = .closed
    · rw [presenceArrive_closed hc]
      exact .inl ((abandonLaneZero_same k s).loops.trans (giveCause_same _ _ _).toB.loops)
    · rw [presenceArrive_open hc, role_presence hk]
      exact .inr ((lasArrive_same k t _).loops.trans (abandonLaneZero_same k _).loops)
  · exact .inr (thresholdArrive_loops _ t _)
  · exact .inr (exitArrive_same _ _).loops
  · exact .inr (slipArrive_loops t _)

/-- The state with a loop's occupancy begun. -/
def occupied (l : Loop) (t : Time) (s : State) : State := withLoop l { s.liu.loops[l] with occStart := t } s

theorem occupied_service (l : Loop) (t : Time) (s : State) : inService (occupied l t s) l = inService s l := by
  have hat : (occupied l t s).liu.loops[l] = { s.liu.loops[l] with occStart := t } := withLoop_loops l _ s
  exact inService_congr rfl (by rw [hat]) (by rw [hat])

theorem loopArrive_out {l : Loop} {s : State} (h : inService s l = false) (t : Time) : loopArrive l t s = occupied l t s :=
  if_neg fun hc => Bool.noConfusion (hc.symm.trans ((occupied_service l t s).trans h))

theorem loopArrive_in {l : Loop} {s : State} (h : inService s l = true) (t : Time) :
    loopArrive l t s = handArrive l t (occupied l t s) :=
  if_pos ((occupied_service l t s).trans h)

theorem announced_occupied (l : Loop) (t : Time) (s : State) :
    announced l (occupied l t s) = withLoop l { s.liu.loops[l] with occStart := t, announced := true } s := by
  have hat : (occupied l t s).liu.loops[l] = { s.liu.loops[l] with occStart := t } := withLoop_loops l _ s
  rw [announced, hat, occupied, withLoop_withLoop]

/-- An arrival leaves every debounce and line, and of its loop the stuck grade. -/
theorem loopArrive_loop (l : Loop) (t : Time) (s : State) :
    (loopArrive l t s).liu.deb = s.liu.deb ∧ (loopArrive l t s).liu.pins = s.liu.pins ∧
    (loopArrive l t s).liu.loops[l].occStart = t ∧ (loopArrive l t s).liu.loops[l].stuck = s.liu.loops[l].stuck := by
  have hwith : ∀ x : LoopState, ∀ u : State, u.liu = (withLoop l x s).liu → x.occStart = t → x.stuck = s.liu.loops[l].stuck →
      u.liu.deb = s.liu.deb ∧ u.liu.pins = s.liu.pins ∧ u.liu.loops[l].occStart = t ∧ u.liu.loops[l].stuck = s.liu.loops[l].stuck :=
    fun x u hu hocc hstuck => by
      have hat : u.liu.loops[l] = x := by rw [hu]; exact withLoop_loops l x s
      rw [hat, hu]
      exact ⟨rfl, rfl, hocc, hstuck⟩
  cases hin : inService s l with
  | false => exact hwith { s.liu.loops[l] with occStart := t } _ (by rw [loopArrive_out hin]; rfl) rfl rfl
  | true =>
    rw [loopArrive_in hin]
    rcases handArrive_loops l t (occupied l t s) with hsame | hsame
    · exact hwith { s.liu.loops[l] with occStart := t } _ hsame.liu rfl rfl
    · rw [announced_occupied] at hsame
      exact hwith { s.liu.loops[l] with occStart := t, announced := true } _ hsame.liu rfl rfl

/-! ### Departs (R47, R48, R67, R123) -/

theorem handDepart_loops (l : Loop) (occupancy : Nat) (s : State) : SameLoops s (handDepart l occupancy s) := by
  have hrefl : SameLoops s s := ⟨rfl, rfl, rfl⟩
  rw [handDepart]
  split
  · split
    · exact hrefl
    · exact (lasDepart_same _ s).loops
  · rw [thresholdDepart]
    split
    · have hdeck := settleGhost_deckOnly
      exact ⟨(hdeck _ _ s).sst, (hdeck _ _ s).liu, (hdeck _ _ s).tbu⟩
    · exact hrefl
  · exact hrefl
  · exact hrefl

/-- The state after a DEPART is handed on, its loop's ARRIVE being announced no more. -/
def departed (l : Loop) (t : Time) (s : State) : State :=
  if s.liu.loops[l].announced then handDepart l (t - s.liu.loops[l].occStart).toNat (quieted l s) else quieted l s

theorem departed_loops (l : Loop) (t : Time) (s : State) : SameLoops (quieted l s) (departed l t s) := by
  rw [departed]
  split
  · exact handDepart_loops _ _ _
  · exact ⟨rfl, rfl, rfl⟩

theorem loopDepart_eq (l : Loop) (t : Time) (s : State) : loopDepart l t s = endStuck l (departed l t s) := rfl

theorem endStuck_none {l : Loop} {s : State} (h : s.liu.loops[l].stuck = .none) : endStuck l s = s := by
  rw [endStuck]
  exact if_pos (beq_iff_eq.mpr h)

theorem endStuck_some {l : Loop} {s : State} (h : s.liu.loops[l].stuck ≠ .none) : endStuck l s =
    serviceChange l (inService s l) (giveClear (loopStuckIx l) (withLoop l { s.liu.loops[l] with stuck := .none } s)) := by
  rw [endStuck]
  exact if_neg fun hc => h (beq_iff_eq.mp hc)

/-- The state with a loop stuck no more. -/
def unstuck (l : Loop) (s : State) : State := withLoop l { s.liu.loops[l] with stuck := .none } s

theorem unstuck_service {l : Loop} {s : State} (h : inService s l = true) : inService (unstuck l s) l = true := by
  have hat : (unstuck l s).liu.loops[l] = { s.liu.loops[l] with stuck := .none } := withLoop_loops l _ s
  obtain ⟨huse, -, hep⟩ := (inService_iff s l).mp h
  refine (inService_iff _ l).mpr ⟨huse, ?_, ?_⟩
  · rw [hat]
    exact fun hc => by cases hc
  · rw [hat]
    exact hep

theorem endStuck_loop (l : Loop) (s : State) : (endStuck l s).liu.deb = s.liu.deb ∧ (endStuck l s).liu.pins = s.liu.pins ∧
    (endStuck l s).liu.loops[l] = { s.liu.loops[l] with stuck := .none } := by
  by_cases h : s.liu.loops[l].stuck = .none
  · rw [endStuck_none h]
    exact ⟨rfl, rfl, by rw [← h]⟩
  · have hclear := giveClear_same (loopStuckIx l) (unstuck l s)
    have hservice : inService (giveClear (loopStuckIx l) (unstuck l s)) l = inService (unstuck l s) l :=
      inService_congr (by rw [hclear.sst]) (by rw [hclear.liu]) (by rw [hclear.liu])
    have hend := (endStuck_some h).trans (serviceChange_back fun hw => hservice.trans (unstuck_service hw))
    have hliu : (endStuck l s).liu = (unstuck l s).liu := by
      rw [hend]
      split
      · exact (serviceGained_deckOnly l _).liu.trans hclear.liu
      · exact hclear.liu
    rw [hliu]
    exact ⟨rfl, rfl, withLoop_loops l _ s⟩

/-- A depart leaves every debounce and line; of its loop the announcement and the stuck grade go. -/
theorem loopDepart_loop (l : Loop) (t : Time) (s : State) : (loopDepart l t s).liu.deb = s.liu.deb ∧
    (loopDepart l t s).liu.pins = s.liu.pins ∧ (loopDepart l t s).liu.loops[l].announced = false ∧
    (loopDepart l t s).liu.loops[l].stuck = .none ∧ (loopDepart l t s).liu.loops[l].occStart = s.liu.loops[l].occStart := by
  obtain ⟨hdeb, hpins, hat⟩ := endStuck_loop l (departed l t s)
  have hliu := (departed_loops l t s).liu
  have hquiet : (departed l t s).liu.loops[l] = { s.liu.loops[l] with announced := false } := by
    rw [hliu]
    exact withLoop_loops l _ s
  rw [hquiet] at hat
  rw [loopDepart_eq, hdeb, hpins, hat, hliu]
  exact ⟨rfl, rfl, rfl, rfl, rfl⟩

/-- The event of a candidate leaves every debounce and line. -/
theorem debouncedEvent_inputs (i : Input) (level : Bool) (t : Time) (s : State) :
    (debouncedEvent i level t s).liu.deb = s.liu.deb ∧ (debouncedEvent i level t s).liu.pins = s.liu.pins := by
  rw [debouncedEvent]
  split
  next l _ =>
    split
    · obtain ⟨hdeb, hpins, -⟩ := loopArrive_loop l t s
      exact ⟨hdeb, hpins⟩
    · obtain ⟨hdeb, hpins, -⟩ := loopDepart_loop l t s
      exact ⟨hdeb, hpins⟩
  · split
    · rw [keyChange]
      split <;> exact ⟨rfl, rfl⟩
    · split
      · rw [takeFreeze]
        split <;> exact ⟨rfl, rfl⟩
      · exact ⟨rfl, rfl⟩

theorem enfSelects_eq (e : EnfEdge) (level : Bool) : enfSelects e level = match e with
    | .off => false | .rise => level | .fall => !level | .both => true := by cases e <;> rfl

/-- The event of an accepted change of ENF (R52, R109). -/
theorem debouncedEvent_enf (level : Bool) (t : Time) (s : State) : debouncedEvent enfInput level t s = { s with
    dcu := { s.dcu with frozen := if enfSelects s.sst.live.loop.enfEdge level && s.dcu.frozen.isNone then some t else s.dcu.frozen } } := by
  have hevent : debouncedEvent enfInput level t s = if enfSelects s.sst.live.loop.enfEdge level then takeFreeze t s else s := rfl
  rw [hevent, takeFreeze]
  cases enfSelects s.sst.live.loop.enfEdge level with
  | false => rfl
  | true =>
    by_cases hf : s.dcu.frozen.isSome = true
    · have hnone : s.dcu.frozen.isNone = false := by rw [Option.isNone_eq_false_iff]; exact hf
      rw [if_pos rfl, if_pos hf, hnone]
      rfl
    · have hnone : s.dcu.frozen.isNone = true := by rw [Option.isNone_iff_eq_none, ← Option.not_isSome_iff_eq_none]; exact hf
      rw [if_pos rfl, if_neg hf, hnone]
      rfl

/-- The event of an accepted change of MK (R53, R177). -/
theorem debouncedEvent_mk (level : Bool) (t : Time) (s : State) : debouncedEvent mkInput level t s =
    if level = false ∧ s.cmn.mode = .setup ∧ s.sst.storeBusy = false then
      { s with sst := { s.sst with working := none }, cmn := { s.cmn with mode := if s.cmn.safeFlag then .safe else .normal } }
    else s := by
  have hevent : debouncedEvent mkInput level t s = keyChange level s := rfl
  rw [hevent, keyChange]
  refine ite_congr (propext ?_) (fun _ => rfl) fun _ => rfl
  rw [Bool.and_eq_true, Bool.and_eq_true, Bool.not_eq_true', Bool.not_eq_true', beq_iff_eq, and_assoc]

end Sys2Proof.Machine

namespace Sys2Proof.Proofs

open Sys2Proof.Machine
open Sys2Proof.Safety

/-- Settles O17: the event of the candidate by its input, an arrival or a depart by the role of the loop. -/
theorem candidateAccepted : Obligations.CandidateAccepted := by
  unfold Obligations.CandidateAccepted
  intro i c s huse hcand hlevel hstable deb x
  have hdue : acceptDue i s = true := by
    rw [acceptDue, huse, hcand, Option.any_some, Bool.true_and, Bool.and_eq_true, beq_iff_eq]
    exact ⟨hlevel, (passed_iff _ _ _).mpr hstable⟩
  have haccept : acceptCandidate i s = debouncedEvent i c.level c.firstEdge x := by rw [acceptCandidate, hcand]; rfl
  have hexec : exec (.candidateAccepted i) s = .next (settle (debouncedEvent i c.level c.firstEdge x)) :=
    (when'_due hdue s _).trans (congrArg (fun u => Host.Outcome.next (settle u)) haccept)
  have hloop : ∀ l, inputLoop i = some l → debouncedEvent i c.level c.firstEdge x =
      if c.level then loopArrive l c.firstEdge x else loopDepart l c.firstEdge x := fun l hl => by rw [debouncedEvent, hl]
  refine ⟨_, hexec, (settle_formedFrom _).formed, ?_, ?_, fun hi => ?_, fun hi => ?_, fun l hl => ?_⟩
  · refine (settled_same _ (·.liu.deb) fun _ => rfl).trans ((debouncedEvent_inputs i c.level c.firstEdge x).1.trans ?_)
    rfl
  · exact (settled_same _ (·.liu.pins) fun _ => rfl).trans (debouncedEvent_inputs i c.level c.firstEdge x).2
  · intro selected
    have hselected : enfSelects s.sst.live.loop.enfEdge c.level = selected := enfSelects_eq _ _
    rw [hi, debouncedEvent_enf, show enfSelects x.sst.live.loop.enfEdge c.level = selected from hselected]
    exact settle_formedFrom _
  · rw [hi, debouncedEvent_mk]
    split
    · exact settle_formedFrom _
    · exact settle_formedFrom _
  · intro inLoop old freed
    rw [hloop l hl]
    refine ⟨fun hocc => ?_, fun hfree => ?_⟩
    · rw [hocc, if_pos rfl]
      obtain ⟨-, -, hstart, hstuck⟩ := loopArrive_loop l c.firstEdge x
      refine ⟨(settled_same _ (·.liu.loops[l].occStart) fun _ => rfl).trans hstart,
        (settled_same _ (·.liu.loops[l].stuck) fun _ => rfl).trans hstuck, fun hout => ?_, fun hin => ?_⟩
      · rw [loopArrive_out (s := x) hout]
        exact settle_formedFrom _
      · have hmarked : announced l (occupied l c.firstEdge x) = inLoop { old with occStart := c.firstEdge, announced := true } :=
          announced_occupied l c.firstEdge x
        have harrive := loopArrive_in (s := x) hin c.firstEdge
        rw [handArrive_eq, hmarked] at harrive
        cases hrole : loopRole l with
        | presence k => exact settle_formedFrom _
        | threshold k | deckExit k | slip =>
          rw [hrole] at harrive
          rw [harrive]
          exact settle_formedFrom _
    · rw [hfree, if_neg (by decide)]
      obtain ⟨-, -, hann, hstuck, hstart⟩ := loopDepart_loop l c.firstEdge x
      refine ⟨(settled_same _ (·.liu.loops[l].announced) fun _ => rfl).trans hann,
        (settled_same _ (·.liu.loops[l].stuck) fun _ => rfl).trans hstuck,
        (settled_same _ (·.liu.loops[l].occStart) fun _ => rfl).trans hstart, ?_⟩
      intro handed e
      have hhanded : departed l c.firstEdge x = handed := by
        show (if old.announced then handDepart l (c.firstEdge - old.occStart).toNat freed else freed) = handed
        refine ite_congr rfl (fun _ => ?_) fun _ => rfl
        rw [handDepart]
        cases loopRole l with
        | presence k => exact ite_congr (propext beq_iff_eq) (fun _ => rfl) fun _ => rfl
        | threshold k | deckExit k | slip => rfl
      have hloops := departed_loops l c.firstEdge x
      rw [hhanded] at hloops
      have hat : handed.liu.loops[l] = { old with announced := false } := by
        rw [hloops.liu]
        exact withLoop_loops l _ x
      rw [loopDepart_eq, hhanded]
      refine ⟨fun hnone => ?_, fun hsome => ?_⟩
      · rw [endStuck_none (by rw [hat]; exact hnone)]
        exact settle_formedFrom _
      · have hservice : inService handed l = inService s l :=
          inService_congr (congrArg (fun u => u.live) hloops.sst :) (by rw [hat]) (by rw [hat])
        have hreturn := clear_returns (loopStuckIx_not_deckIx l) (z := unstuck l handed) (was := inService handed l) unstuck_service
        dsimp only at hreturn
        obtain ⟨-, y, hplaced, hformed⟩ := hreturn
        rw [show (unstuck l handed).tbu = s.tbu from hloops.tbu] at hplaced
        rw [hservice] at hformed
        rw [endStuck_some (by rw [hat]; exact hsome), hservice]
        exact ⟨y, hplaced, hformed⟩

end Sys2Proof.Proofs
end

section
/-! SUPPORT. Proofs about arrivals at a lane's assembler, the straddle check, and the merge of two records (R51, R62, R67, R70, R72, R84). -/

namespace Sys2Proof.Machine

open Sys2Proof.Safety

/-! ### Arrivals and departs at the assembler (R41, R51, R62, R67) -/

theorem abandonLaneZero_eq (l : Lane) (s : State) : abandonLaneZero l s = { s with
    zsc := match s.zsc.meas with
      | some m => if chanLane m.chan = l then { s.zsc with pointer := m.chan, meas := none } else s.zsc
      | none => s.zsc } := by
  rw [abandonLaneZero]
  cases hm : s.zsc.meas with
  | none => rfl
  | some m =>
    rw [Option.any_some]
    by_cases hl : chanLane m.chan = l
    · rw [if_pos (beq_iff_eq.mpr hl), abandonZero_some hm]
      dsimp only
      rw [if_pos hl]
    · rw [if_neg fun hc => hl (beq_iff_eq.mp hc)]
      dsimp only
      rw [if_neg hl]

theorem completeCloses_sealed (l : Lane) (s : State) :
    (completeCloses l s).las[l].sealed = s.las[l].sealed.filter fun v => s.las[l].fifo.any (·.veh == v.veh) := by
  have hlanes := SameLanes.foldl completeClose_lanes (s.las[l].sealed.filter fun v => !s.las[l].fifo.any (·.veh == v.veh)) (withoutClosed l s)
  obtain ⟨ps, hps⟩ := hlanes l
  rw [completeCloses_eq, hps, show (withoutClosed l s).las[l] = _ from put_getElem_self _ _ _]

theorem completeCloses_other {l k : Lane} (h : k ≠ l) (s : State) : ∃ ps, (completeCloses l s).las[k] = { s.las[k] with pendingList := ps } := by
  have hlanes := SameLanes.foldl completeClose_lanes (s.las[l].sealed.filter fun v => !s.las[l].fifo.any (·.veh == v.veh)) (withoutClosed l s)
  obtain ⟨ps, hps⟩ := hlanes k
  rw [show (withoutClosed l s).las[k] = _ from put_getElem_other _ _ _ _ h] at hps
  exact ⟨ps, by rw [completeCloses_eq, hps]⟩

/-- The sealed vehicles that have an entry of the FIFO left. -/
def heldVehicles (a : LasState) (vs : List SealedVehicle) : List SealedVehicle := vs.filter fun v => a.fifo.any (·.veh == v.veh)

/-- What a seal of the open vehicle leaves of the assemblers (R67, R69). -/
structure Sealed (l : Lane) (w : OpenVehicle) (s t : State) : Prop where
  openVeh : t.las[l].openVeh = none
  fifo    : t.las[l].fifo = s.las[l].fifo
  nextVeh : t.las[l].nextVeh = s.las[l].nextVeh
  sealed  : t.las[l].sealed = if w.owner = .noRecord then s.las[l].sealed
              else heldVehicles s.las[l] (s.las[l].sealed ++ [⟨w.veh, w.owner, w.gen⟩])
  others  : ∀ k : Lane, k ≠ l → t.las[k].openVeh = s.las[k].openVeh ∧ t.las[k].fifo = s.las[k].fifo

theorem sealOpen_discards {l : Lane} {s : State} {w : OpenVehicle} (h : s.las[l].openVeh = some w) (hw : w.owner = .noRecord) :
    sealOpen l s = { s with las := put s.las l { s.las[l] with openVeh := none } } := by
  rw [sealOpen, h]
  dsimp only
  rw [hw]
  rfl

theorem sealOpen_sealed {l : Lane} {s : State} {w : OpenVehicle} (h : s.las[l].openVeh = some w) : Sealed l w s (sealOpen l s) := by
  by_cases hw : w.owner = .noRecord
  · rw [sealOpen_discards h hw]
    have hat : (put s.las l { s.las[l] with openVeh := none })[l] = _ := put_getElem_self _ _ _
    refine ⟨?_, ?_, ?_, ?_, fun k hk => ?_⟩
    · rw [hat]
    · rw [hat]
    · rw [hat]
    · rw [hat, if_pos hw]
    · have hother : (put s.las l { s.las[l] with openVeh := none })[k] = _ := put_getElem_other _ _ _ _ hk
      rw [hother]
      exact ⟨rfl, rfl⟩
  · let y : State := { s with
      las := put s.las l { s.las[l] with openVeh := none, sealed := s.las[l].sealed ++ [⟨w.veh, w.owner, w.gen⟩] } }
    have hy : y.las[l] = { s.las[l] with openVeh := none, sealed := s.las[l].sealed ++ [⟨w.veh, w.owner, w.gen⟩] } := put_getElem_self _ _ _
    obtain ⟨sealed, pending, hlane⟩ := completeCloses_lane l y
    have hsealed := completeCloses_sealed l y
    rw [hy] at hlane hsealed
    rw [show sealOpen l s = completeCloses l y from sealOpen_eq h hw]
    refine ⟨by rw [hlane], by rw [hlane], by rw [hlane], by rw [hsealed, if_neg hw]; rfl, fun k hk => ?_⟩
    obtain ⟨ps, hother⟩ := completeCloses_other hk y
    rw [hother, show y.las[k] = s.las[k] from put_getElem_other _ _ _ _ hk]
    exact ⟨rfl, rfl⟩

theorem openCovered_las (l : Lane) (s : State) : (openCovered l s).las = put s.las l { s.las[l] with
    openVeh := some ⟨s.las[l].nextVeh, .noRecord, true, 0, 0, 0, 0⟩, nextVeh := s.las[l].nextVeh + 1 } := by
  have hat : (put s.las l { s.las[l] with nextVeh := s.las[l].nextVeh + 1 })[l] = _ := put_getElem_self _ _ _
  show put (put s.las l { s.las[l] with nextVeh := s.las[l].nextVeh + 1 }) l
    { (put s.las l { s.las[l] with nextVeh := s.las[l].nextVeh + 1 })[l] with openVeh := some ⟨s.las[l].nextVeh, .noRecord, true, 0, 0, 0, 0⟩ } = _
  rw [put_put, hat]

/-- What an ARRIVE of P_L leaves of the assemblers (R62, Table 5-3). -/
structure Arrives (l : Lane) (time : Time) (s t : State) : Prop where
  vehicle : ∃ v, t.las[l].openVeh = some v ∧ v.loopCovered = true ∧
    (s.las[l].openVeh = none → v = ⟨s.las[l].nextVeh, .noRecord, true, 0, 0, 0, 0⟩ ∧ t.las[l].sealed = s.las[l].sealed) ∧
    (∀ w, s.las[l].openVeh = some w → w.loopCovered = false → earlier w.firstStart time = false →
      v = { w with loopCovered := true } ∧ t.las[l].sealed = s.las[l].sealed) ∧
    (∀ w, s.las[l].openVeh = some w → w.loopCovered = true ∨ earlier w.firstStart time = true →
      v = ⟨s.las[l].nextVeh, .noRecord, true, 0, 0, 0, 0⟩ ∧
      (w.owner = .noRecord → t.las[l].sealed = s.las[l].sealed) ∧
      (w.owner ≠ .noRecord → t.las[l].sealed = heldVehicles s.las[l] (s.las[l].sealed ++ [⟨w.veh, w.owner, w.gen⟩])))
  others : ∀ k : Lane, k ≠ l → t.las[k].openVeh = s.las[k].openVeh ∧ t.las[k].fifo = s.las[k].fifo

theorem lasArrive_arrives (l : Lane) (time : Time) (s : State) : Arrives l time s (lasArrive l time s) := by
  rw [lasArrive]
  cases h : s.las[l].openVeh with
  | none =>
    dsimp only
    refine ⟨⟨⟨s.las[l].nextVeh, .noRecord, true, 0, 0, 0, 0⟩, ?_, rfl, fun _ => ⟨rfl, ?_⟩, fun w hw => ?_, fun w hw => ?_⟩, fun k hk => ?_⟩
    · rw [openCovered_las, put_getElem_self]
    · rw [openCovered_las, put_getElem_self]
    · rw [h] at hw
      cases hw
    · rw [h] at hw
      cases hw
    · rw [openCovered_las, put_getElem_other _ _ _ _ hk]
      exact ⟨rfl, rfl⟩
  | some v =>
    dsimp only
    by_cases hgap : (!v.loopCovered && !earlier v.firstStart time) = true
    · rw [if_pos hgap]
      rw [Bool.and_eq_true, Bool.not_eq_true', Bool.not_eq_true'] at hgap
      obtain ⟨hcov, hlate⟩ := hgap
      have hlas : (changeLas l (fun a => { a with openVeh := some { v with loopCovered := true } }) s).las =
          put s.las l { s.las[l] with openVeh := some { v with loopCovered := true } } := rfl
      refine ⟨⟨{ v with loopCovered := true }, ?_, rfl, fun hn => ?_, fun w hw _ _ => ?_, fun w hw hor => ?_⟩, fun k hk => ?_⟩
      · rw [hlas, put_getElem_self]
      · rw [h] at hn
        cases hn
      · rw [h] at hw
        cases hw
        rw [hlas, put_getElem_self]
        exact ⟨rfl, rfl⟩
      · rw [h] at hw
        cases hw
        rw [hcov, hlate] at hor
        rcases hor with hor | hor <;> cases hor
      · rw [hlas, put_getElem_other _ _ _ _ hk]
        exact ⟨rfl, rfl⟩
    · rw [if_neg hgap]
      have hs := sealOpen_sealed h
      refine ⟨⟨⟨s.las[l].nextVeh, .noRecord, true, 0, 0, 0, 0⟩, ?_, rfl, fun hn => ?_, fun w hw hcov hlate => ?_, fun w hw _ => ?_⟩, fun k hk => ?_⟩
      · rw [openCovered_las, put_getElem_self, hs.nextVeh]
      · rw [h] at hn
        cases hn
      · rw [h] at hw
        cases hw
        exact absurd (by rw [hcov, hlate]; rfl) hgap
      · rw [h] at hw
        cases hw
        rw [openCovered_las, put_getElem_self]
        exact ⟨rfl, fun hno => hs.sealed.trans (if_pos hno), fun hyes => hs.sealed.trans (if_neg hyes)⟩
      · rw [openCovered_las, put_getElem_other _ _ _ _ hk]
        exact hs.others k hk

/-! ### The straddle check (R70) -/

/-- `pickBy` by a transitive and irreflexive preference gives an element that none is preferred to. -/
theorem pickBy_best {α : Type} {better : α → α → Bool} (hirrefl : ∀ a, better a a = false)
    (htrans : ∀ a b c, better a b = true → better b c = true → better a c = true) {xs : List α} (h : xs ≠ []) :
    ∃ y ∈ xs, pickBy better xs = some y ∧ ∀ z ∈ xs, better z y = false := by
  obtain ⟨x, rest, rfl⟩ := List.exists_cons_of_ne_nil h
  suffices hfold : ∀ (best : α) (seen : List α), best ∈ seen → (∀ z ∈ seen, better z best = false) →
      (rest.foldl (fun best y => if better y best then y else best) best) ∈ seen ++ rest ∧
      ∀ z ∈ seen ++ rest, better z (rest.foldl (fun best y => if better y best then y else best) best) = false by
    obtain ⟨hmem, hbest⟩ := hfold x [x] (List.mem_singleton_self x) fun z hz => List.mem_singleton.mp hz ▸ hirrefl z
    exact ⟨_, hmem, rfl, hbest⟩
  clear h
  induction rest with
  | nil =>
    intro best seen hmem hbest
    rw [List.append_nil]
    exact ⟨hmem, hbest⟩
  | cons y ys ih =>
    intro best seen hmem hbest
    rw [List.foldl_cons, List.append_cons]
    by_cases hy : better y best = true
    · rw [if_pos hy]
      refine ih y (seen ++ [y]) (List.mem_append_right _ (List.mem_singleton_self y)) fun z hz => ?_
      rcases List.mem_append.mp hz with hz | hz
      · refine Bool.eq_false_iff.mpr fun hzy => ?_
        exact absurd (hbest z hz) (by rw [htrans z y best hzy hy]; decide)
      · rw [List.mem_singleton.mp hz]
        exact hirrefl y
    · rw [if_neg hy]
      refine ih best (seen ++ [y]) (List.mem_append_left _ hmem) fun z hz => ?_
      rcases List.mem_append.mp hz with hz | hz
      · exact hbest z hz
      · rw [List.mem_singleton.mp hz]
        exact Bool.eq_false_iff.mpr hy

theorem nearer_iff (t : Time) (a b : VRecord) : nearer t a b = true ↔ apart a.weighTime t < apart b.weighTime t ∨
    (apart a.weighTime t = apart b.weighTime t ∧ (a.lane.val < b.lane.val ∨ (a.lane.val = b.lane.val ∧ a.id < b.id))) := by
  simp only [nearer, Bool.or_eq_true, Bool.and_eq_true, decide_eq_true_iff, beq_iff_eq, Fin.ext_iff]

/-- The nearest of a list of records (R70; log entry 48). -/
theorem nearest_of_list (t : Time) {rs : List VRecord} (h : rs ≠ []) : ∃ y ∈ rs, pickBy (nearer t) rs = some y ∧
    ∀ z ∈ rs, apart y.weighTime t < apart z.weighTime t ∨ (apart y.weighTime t = apart z.weighTime t ∧
      (y.lane < z.lane ∨ (y.lane = z.lane ∧ y.id ≤ z.id))) := by
  obtain ⟨y, hy, hpick, hbest⟩ := pickBy_best (better := nearer t)
    (fun a => by rw [← Bool.not_eq_true, nearer_iff]; omega)
    (fun a b c hab hbc => by
      rw [nearer_iff] at hab hbc ⊢
      omega) h
  refine ⟨y, hy, hpick, fun z hz => ?_⟩
  have hnot := hbest z hz
  rw [← Bool.not_eq_true, nearer_iff] at hnot
  rw [Fin.lt_def, Fin.ext_iff]
  omega

theorem apart_comm (a b : Time) : apart a b = min (a - b).toNat (b - a).toNat := Nat.min_comm _ _

/-- A record awaits another (R70). -/
def Awaits (s : State) (id : Nat) (y : VRecord) : Prop :=
  findRec s y.id = some y ∧ ∃ k : Lane, ∃ p ∈ s.las[k].pendingList, p.id = y.id ∧ p.awaits = id

theorem mem_awaiting (s : State) (id : Nat) (y : VRecord) : y ∈ awaiting s id ↔ Awaits s id y := by
  rw [awaiting, List.mem_filterMap]
  constructor
  · rintro ⟨p, hp, hy⟩
    rw [List.mem_flatMap] at hp
    obtain ⟨a, ha, hpa⟩ := hp
    obtain ⟨k, hk, rfl⟩ := Vector.mem_iff_getElem.mp (Vector.mem_toList_iff.mp ha)
    obtain ⟨hmem, haw⟩ := List.mem_filter.mp hpa
    have hid := findRec_id hy
    exact ⟨by rw [hid]; exact hy, ⟨k, hk⟩, p, hmem, hid.symm, beq_iff_eq.mp haw⟩
  · rintro ⟨hy, k, p, hp, hid, haw⟩
    refine ⟨p, List.mem_flatMap.mpr ⟨s.las[k], Vector.mem_toList_iff.mpr (Vector.getElem_mem k.isLt), ?_⟩, by rw [hid]; exact hy⟩
    exact List.mem_filter.mpr ⟨hp, beq_iff_eq.mpr haw⟩

theorem mem_straddleCandidates (s : State) (x c : VRecord) : c ∈ straddleCandidates s x ↔ c ∈ s.rtb.pool ∧ c.st = .assembling ∧
    adjacent s.sst.live x.lane c.lane = true ∧ apart c.weighTime x.weighTime ≤ (s.settingsOf x.gen).asm.straddleWin * 100 := by
  rw [straddleCandidates, List.mem_filter, Bool.and_eq_true, Bool.and_eq_true, beq_iff_eq, decide_eq_true_iff, and_assoc]
  exact Iff.rfl

section Check

variable {id : Nat} {x : VRecord} {s : State} (h : findRec s id = some x)

include h

theorem straddleCheck_awaited {y : VRecord} (hy : pickBy (nearer x.weighTime) (awaiting s id) = some y) : straddleCheck id s =
    (((awaiting s id).map (·.id)).filter (· != y.id)).foldl (fun s o => decideSuspect o s) (mergeOrPart y x s) := by
  rw [straddleCheck, h]
  dsimp only
  rw [hy]

theorem straddleCheck_decides (hnone : awaiting s id = [])
    (halone : x.flags.straddleSuspect = true ∨ (s.settingsOf x.gen).asm.straddleWin = 0 ∨ straddleCandidates s x = []) :
    straddleCheck id s = weighAndDecide id s := by
  rw [straddleCheck, h]
  dsimp only
  rw [hnone, pickBy]
  dsimp only
  split
  · rfl
  next hopen =>
    rw [Bool.or_eq_true, decide_eq_true_iff, not_or] at hopen
    rw [(halone.resolve_left hopen.1).resolve_left hopen.2]
    rfl

theorem straddleCheck_waits (hnone : awaiting s id = []) (hsus : x.flags.straddleSuspect = false)
    (hwin : (s.settingsOf x.gen).asm.straddleWin ≠ 0) {c : VRecord} (hc : pickBy (nearer x.weighTime) (straddleCandidates s x) = some c) :
    straddleCheck id s = awaitCandidate x c.id s := by
  rw [straddleCheck, h]
  dsimp only
  rw [hnone, pickBy]
  dsimp only
  rw [hsus, decide_eq_false hwin, hc]
  rfl

end Check

/-! ### The merge (R72, R84) -/

theorem mergeTest_iff (s : State) (y x : VRecord) : mergeTest s y x = true ↔ y.axles.length = x.axles.length ∧
    ∀ p ∈ x.axles.zip y.axles, apart p.1.s1Start p.2.s1Start ≤ (s.settingsOf y.gen).asm.straddleWin * 100 := by
  let near : Axle → Axle → Bool := fun a b => decide (apart a.s1Start b.s1Start ≤ ms (s.settingsOf y.gen).asm.straddleWin)
  have hzip : List.zipWith near x.axles y.axles = (x.axles.zip y.axles).map fun p => near p.1 p.2 :=
    (List.map_zip_eq_zipWith (f := fun p : Axle × Axle => near p.1 p.2)).symm
  rw [show mergeTest s y x = (x.axles.length == y.axles.length && (List.zipWith near x.axles y.axles).all fun b => b) from rfl,
    Bool.and_eq_true, beq_iff_eq, eq_comm, hzip, List.all_map, List.all_eq_true]
  simp only [Function.comp_apply, near, decide_eq_true_iff]
  exact Iff.rfl

/-- A record weighed to its axle loads under its own settings and close readings (R77 to R83). -/
def weighedOf (s : State) (r : VRecord) : VRecord :=
  weighToAxles (s.settingsOf r.gen) (r.reading.getD (closeReading s r.lane)) r

/-- Of the close readings the weighing to axle loads takes the temperature alone. -/
theorem weighToAxles_temp {c c' : CloseReading} (h : c.temp = c'.temp) (st : Settings) (r : VRecord) :
    weighToAxles st c r = weighToAxles st c' r := by
  simp only [weighToAxles, h]

theorem weighedOf_same {s t : State} (h : SameB s t) (r : VRecord) : weighedOf t r = weighedOf s r := by
  have hst : t.settingsOf r.gen = s.settingsOf r.gen := by rw [State.settingsOf, State.settingsOf, h.sst]
  rw [weighedOf, weighedOf, hst]
  refine weighToAxles_temp ?_ _ _
  cases hr : r.reading with
  | some c => rfl
  | none =>
    show temperatureReading t = temperatureReading s
    rw [temperatureReading, temperatureReading, h.csq]

theorem findRec_weighRecord {s : State} {id : Nat} {r : VRecord} (h : findRec s id = some r) :
    findRec (weighRecord id s) id = some (weighedOf s r) := by
  rw [weighRecord, h]
  dsimp only
  rw [findRec, (giveSamples_same _ _ _).rtb]
  exact findRec_set h rfl

theorem findRec_weighRecord_other {k id : Nat} (hk : k ≠ id) (s : State) : findRec (weighRecord id s) k = findRec s k := by
  rw [weighRecord]
  split
  · rfl
  next r hr =>
    dsimp only
    rw [findRec, (giveSamples_same _ _ _).rtb]
    have hset : ∀ w : VRecord, w.id = id → findRec (changeRec id (fun _ => w) s) k = findRec s k := fun w hw => by
      rw [findRec_changeRec_of (fun _ _ => hw)]
      cases hf : findRec s k with
      | none => rfl
      | some v => rw [Option.map_some, if_neg fun hc => hk ((findRec_id hf).symm.trans (beq_iff_eq.mp hc))]
    exact hset _ (findRec_id (v := r) hr)

/-- Of two weighed partners the first leads: its gross is the greater, or equal in the lower lane (R72). -/
def Leads (a b : VRecord) : Prop := grossOf b.axles < grossOf a.axles ∨ (grossOf a.axles = grossOf b.axles ∧ a.lane < b.lane)

theorem leads_iff (a b : VRecord) : (grossOf b.axles < grossOf a.axles || (grossOf a.axles == grossOf b.axles && a.lane.val < b.lane.val)) = true ↔
    Leads a b := by
  rw [Bool.or_eq_true, Bool.and_eq_true, decide_eq_true_iff, beq_iff_eq, decide_eq_true_iff]
  exact Iff.rfl

theorem leads_asymm {a b : VRecord} (h : Leads a b) : ¬ Leads b a := by
  rw [Leads, Fin.lt_def] at *
  omega

theorem leads_total {a b : VRecord} (hlane : a.lane ≠ b.lane) (h : ¬ Leads a b) : Leads b a := by
  rw [Leads, Fin.lt_def] at *
  rw [ne_eq, Fin.ext_iff] at hlane
  omega

/-- What the record that survives a merge has of the partners (R72, R84). -/
structure MergedFrom (survivor lead follow m : VRecord) : Prop where
  id        : m.id = survivor.id
  gen       : m.gen = survivor.gen
  lane      : m.lane = lead.lane
  weighTime : m.weighTime = lead.weighTime
  gross     : grossOf m.axles = ((lead.axles.zip follow.axles).map fun p => min (p.1.load.getD 0 + p.2.load.getD 0) 50000).sum
  merged    : m.flags.straddleMerged = true

theorem grossOf_mergeAxles (as bs : List Axle) : grossOf (mergeAxles as bs) =
    ((as.zip bs).map fun p => min (p.1.load.getD 0 + p.2.load.getD 0) 50000).sum := by
  let summed : Axle × Axle → Axle := fun p => { p.1 with load := some (min (p.1.load.getD 0 + p.2.load.getD 0) Config.axleMax) }
  have hzip : mergeAxles as bs = (as.zip bs).map summed := (List.map_zip_eq_zipWith (f := summed)).symm
  rw [grossOf, hzip, List.map_map]
  rfl

theorem mergedRecord_leads {a b : VRecord} (h : Leads a b) : MergedFrom a a b (mergedRecord a b) := by
  have hb := (leads_iff a b).mpr h
  constructor
  · rfl
  · rfl
  · simp only [mergedRecord, hb, if_true]
  · simp only [mergedRecord, hb, if_true]
  · simp only [mergedRecord, hb, if_true]
    exact grossOf_mergeAxles _ _
  · rfl

theorem mergedRecord_follows {a b : VRecord} (h : ¬ Leads a b) : MergedFrom a b a (mergedRecord a b) := by
  have hb := Bool.eq_false_iff.mpr fun hc => h ((leads_iff a b).mp hc)
  constructor
  · rfl
  · rfl
  · simp only [mergedRecord, hb, Bool.false_eq_true, if_false]
  · simp only [mergedRecord, hb, Bool.false_eq_true, if_false]
  · simp only [mergedRecord, hb, Bool.false_eq_true, if_false]
    exact grossOf_mergeAxles _ _
  · rfl

/-- The state with two records weighed to their axle loads. -/
def bothWeighed (y x : VRecord) (s : State) : State := weighRecord x.id (weighRecord y.id s)

theorem bothWeighed_decisionMoves (y x : VRecord) (s : State) : DecisionMoves s (bothWeighed y x s) :=
  (weighRecord_decisionMoves y.id s).trans (weighRecord_decisionMoves x.id _)

section Merge

variable {s : State} {y x : VRecord} (hy : findRec s y.id = some y) (hx : findRec s x.id = some x) (hne : y.id ≠ x.id)

include hy hx hne

theorem findRec_bothWeighed : findRec (bothWeighed y x s) y.id = some (weighedOf s y) ∧
    findRec (bothWeighed y x s) x.id = some (weighedOf s x) := by
  refine ⟨(findRec_weighRecord_other hne _).trans (findRec_weighRecord hy), ?_⟩
  have hthen : findRec (weighRecord y.id s) x.id = some x := (findRec_weighRecord_other hne.symm s).trans hx
  exact (findRec_weighRecord hthen).trans (congrArg some (weighedOf_same (weighRecord_same y.id s) x))

/-- A merge is the decision of the survivor, the partner of the lower id, over the state with the merged record. -/
theorem mergeRecords_partners :
    let survivor := if y.id < x.id then y else x
    let other := if y.id < x.id then x else y
    let z := bothWeighed y x s
    findRec z survivor.id = some (weighedOf s survivor) ∧ findRec z other.id = some (weighedOf s other) ∧ survivor.id ≠ other.id ∧
    mergeRecords y.id x.id s = decideRecord survivor.id (finishRecord survivor.id
      (withMerged survivor.id other.id (mergedFrom z (weighedOf s survivor) (weighedOf s other)) z)) := by
  obtain ⟨hzy, hzx⟩ := findRec_bothWeighed hy hx hne
  by_cases hlt : y.id < x.id
  · have hmin : min y.id x.id = y.id := Nat.min_eq_left hlt.le
    have hmax : max y.id x.id = x.id := Nat.max_eq_right hlt.le
    simp only [if_pos hlt]
    refine ⟨hzy, hzx, hne, ?_⟩
    rw [mergeRecords_eq, hmin, hmax]
    dsimp only
    rw [show weighRecord x.id (weighRecord y.id s) = bothWeighed y x s from rfl, hzy, hzx]
  · have hmin : min y.id x.id = x.id := Nat.min_eq_right (Nat.not_lt.mp hlt)
    have hmax : max y.id x.id = y.id := Nat.max_eq_left (Nat.not_lt.mp hlt)
    simp only [if_neg hlt]
    refine ⟨hzx, hzy, hne.symm, ?_⟩
    rw [mergeRecords_eq, hmin, hmax]
    dsimp only
    rw [show weighRecord x.id (weighRecord y.id s) = bothWeighed y x s from rfl, hzy, hzx]

end Merge

/-- The merge of two weighed partners of the pool, the first surviving. -/
def mergedInto (z : State) (a b : VRecord) : State := decideRecord a.id (finishRecord a.id (withMerged a.id b.id (mergedFrom z a b) z))

section Survivor

variable {z : State} {a b : VRecord} (ha : findRec z a.id = some a) (hb : findRec z b.id = some b) (hab : a.id ≠ b.id)

include ha in
theorem findRec_merged (id : Nat) : findRec (leavePending a.id (changeRec a.id (fun _ => mergedFrom z a b) z)) id =
    if id = a.id then some (mergedFrom z a b) else findRec z id := by
  refine (findRec_changeRec_of (f := fun _ => mergedFrom z a b) (id := a.id) (fun _ _ => rfl) id z).trans ?_
  by_cases hid : id = a.id
  · rw [if_pos hid, hid, ha, Option.map_some, if_pos (beq_self_eq_true a.id)]
  · rw [if_neg hid]
    cases hf : findRec z id with
    | none => rfl
    | some v => rw [Option.map_some, if_neg fun hc => hid ((findRec_id hf).symm.trans (beq_iff_eq.mp hc))]

include ha hb hab in
/-- The other partner is closed MERGED. -/
theorem mergedInto_other : findRec (mergedInto z a b) b.id = none ∧
    (z.rtb.pool.length + z.rtb.history.length ≤ 64 →
      ∃ r ∈ (mergedInto z a b).rtb.history, r.id = b.id ∧ r.disposition = .merged ∧ r.closeTime = z.tbu.time) := by
  let u := leavePending a.id (changeRec a.id (fun _ => mergedFrom z a b) z)
  have hmoves : DecisionMoves (closeRecord b.id .merged u) (mergedInto z a b) :=
    (finishRecord_decisionMoves _ _).trans (decideRecord_decisionMoves _ _)
  have hu : findRec u b.id = some b := (findRec_merged ha b.id).trans ((if_neg hab.symm).trans hb)
  have hroom : u.rtb.pool.length + u.rtb.history.length = z.rtb.pool.length + z.rtb.history.length :=
    congrArg (· + z.rtb.history.length) (List.length_map _)
  refine ⟨hmoves.gone _ (closeRecord_gone _ _ _), fun hs => ?_⟩
  have hsize := (closeRecord_deckMoves b.id .merged u).size
  exact ⟨_, hmoves.kept (by omega) _ (mem_closeRecord_history hu .merged (by omega)), rfl, rfl, rfl⟩

include ha hab in
/-- The survivor is decided with what the merge gives it. -/
theorem mergedInto_survivor {lead follow : VRecord} (hm : MergedFrom a lead follow (mergedRecord a b)) {r : VRecord}
    (hr : findRec (mergedInto z a b) a.id = some r) : r.st = .decided ∧ r.flags.straddleMerged = true ∧ r.gen = a.gen ∧ r.lane = lead.lane ∧
      r.weighTime = lead.weighTime ∧ r.decTime = some z.tbu.time ∧
      r.gross = some ((lead.axles.zip follow.axles).map fun p => min (p.1.load.getD 0 + p.2.load.getD 0) 50000).sum := by
  let m := mergedFrom z a b
  let u := withMerged a.id b.id m z
  have hu : findRec u a.id = some m :=
    (findRec_closeRecord b.id a.id .merged _).trans ((if_neg hab).trans ((findRec_merged ha a.id).trans (if_pos rfl)))
  let w := finishWeighing (u.settingsOf m.gen) (joinReadings (a.reading.getD (closeReading z a.lane)) (b.reading.getD (closeReading z b.lane))) m
  have hfinish : findRec (finishRecord a.id u) a.id = some w := by
    rw [finishRecord_eq hu rfl]
    exact findRec_set hu rfl
  obtain ⟨v, adm, hv, rfl⟩ := decideRecord_written hr
  rw [hfinish] at hv
  cases hv
  have htime : (finishRecord a.id u).tbu = z.tbu :=
    (finishRecord_decisionMoves a.id u).tbu.trans (closeRecord_same b.id .merged _).tbu
  have hgross : grossOf w.axles = grossOf m.axles := load_of_bare (spaced_bare _ m.axles)
  exact ⟨rfl, hm.merged, hm.gen, hm.lane, hm.weighTime, congrArg (fun x : TbuState => some x.time) htime,
    congrArg some (hgross.trans hm.gross)⟩

end Survivor

end Sys2Proof.Machine

namespace Sys2Proof.Proofs

open Sys2Proof.Machine
open Sys2Proof.Safety

/-- Settles O19: the arrival by the modes of Table 5-3, the straddle check by the nearest of those that await or may be awaited, and the
merge by the decision of its survivor. -/
theorem assemblerArrivalsAndStraddles : Obligations.AssemblerArrivalsAndStraddles := by
  unfold Obligations.AssemblerArrivalsAndStraddles
  refine ⟨fun l time s hin => ?_, fun id x s hx => ?_, fun y x s hy hx hlane hid => ?_⟩
  · intro p zsc kept t
    have hmode : laneModeOf (occupied (pLoop l) time s) l = laneModeOf s l := rfl
    have ht : t = presenceArrive l time (occupied (pLoop l) time s) := by
      rw [show t = loopArrive (pLoop l) time s from rfl, loopArrive_in hin, handArrive_eq, loopRole_pLoop]
    refine ⟨fun hclosed => ?_, fun hopen => ?_, fun huncovered => ?_, fun w hw hcov => ?_⟩
    · intro e
      let x : State := { s with
        zsc := zsc, liu := { s.liu with loops := put s.liu.loops (pLoop l) { p with occStart := time } } }
      have hzero : abandonLaneZero l (occupied (pLoop l) time s) = x := abandonLaneZero_eq l _
      rw [ht, presenceArrive_closed (hmode.trans hclosed), hzero]
      exact (giveCause_places (intrusionIx l) s.tbu.time x).toPlacedFrom
    · let x := announced (pLoop l) (occupied (pLoop l) time s)
      have hx : x = withLoop (pLoop l) { p with occStart := time, announced := true } s := announced_occupied _ _ _
      have hsame := lasArrive_same l time x
      have harr := lasArrive_arrives l time x
      rw [ht, presenceArrive_open (fun hc => hopen (hmode.symm.trans hc)), abandonLaneZero_eq]
      refine ⟨hsame.liu.trans (congrArg (fun u : State => u.liu) hx), ?_, harr.vehicle, harr.others⟩
      dsimp only
      rw [hsame.zsc]
      rfl
    · refine if_neg fun hc => ?_
      cases hw : s.las[l].openVeh with
      | none =>
        rw [hw] at hc
        cases hc
      | some w =>
        rw [hw, Option.any_some, huncovered w hw] at hc
        cases hc
    · have hany : s.las[l].openVeh.any (·.loopCovered) = true := by rw [hw, Option.any_some, hcov]
      have hseal : lasDepart l s = sealOpen l s := if_pos hany
      have hs := sealOpen_sealed hw
      rw [hseal]
      exact ⟨hs.openVeh, hs.fifo, sealOpen_discards hw, fun hno => hs.sealed.trans (if_neg hno)⟩
  · intro away win awaits candidate t
    have haway : ∀ c, away c = apart c.weighTime x.weighTime := fun c => (apart_comm _ _).symm
    have hcandidate : ∀ c, c ∈ straddleCandidates s x ↔ c ∈ s.rtb.pool ∧ candidate c := fun c => by
      rw [mem_straddleCandidates, ← haway]
    refine ⟨fun w hw haw => ?_, fun hnone => ?_⟩
    · obtain ⟨y, hy, hpick, hbest⟩ := nearest_of_list x.weighTime (List.ne_nil_of_mem ((mem_awaiting s id w).mpr haw))
      have hyaw := (mem_awaiting s id y).mp hy
      refine ⟨y, List.mem_of_find?_eq_some hyaw.1, hyaw, fun z hz hzaw => ?_, _, fun o => ?_, straddleCheck_awaited hx hpick⟩
      · rw [haway, haway]
        rcases hbest z ((mem_awaiting s id z).mpr hzaw) with hlt | ⟨heq, hlane | ⟨hlane, -⟩⟩
        · exact .inl hlt
        · exact .inr ⟨heq, hlane.le⟩
        · exact .inr ⟨heq, hlane.le⟩
      · simp only [List.mem_filter, List.mem_map, bne_iff_ne, mem_awaiting]
        constructor
        · rintro ⟨⟨z, hz, rfl⟩, hne⟩
          exact ⟨hne, z, List.mem_of_find?_eq_some hz.1, hz, rfl⟩
        · rintro ⟨hne, z, -, hz, rfl⟩
          exact ⟨⟨z, hz, rfl⟩, hne⟩
    · have hempty : awaiting s id = [] := List.eq_nil_iff_forall_not_mem.mpr fun y hy =>
        have hyaw := (mem_awaiting s id y).mp hy
        hnone y (List.mem_of_find?_eq_some hyaw.1) hyaw
      have hwin : win = 0 ↔ (s.settingsOf x.gen).asm.straddleWin = 0 := by omega
      refine ⟨fun halone => straddleCheck_decides hx hempty ?_, fun hsus hpos w hw hcand => ?_⟩
      · refine halone.imp_right (Or.imp hwin.mp fun hno => List.eq_nil_iff_forall_not_mem.mpr fun c hc => ?_)
        exact hno c ((hcandidate c).mp hc).1 ((hcandidate c).mp hc).2
      · obtain ⟨c, hc, hpick, hbest⟩ := nearest_of_list x.weighTime (List.ne_nil_of_mem ((hcandidate w).mpr ⟨hw, hcand⟩))
        obtain ⟨hcpool, hccand⟩ := (hcandidate c).mp hc
        refine ⟨c, hcpool, hccand, fun z hz hzcand => ?_, ?_⟩
        · rw [haway, haway]
          exact hbest z ((hcandidate z).mpr ⟨hz, hzcand⟩)
        · exact straddleCheck_waits hx hempty hsus (fun hc => hpos (hwin.mpr hc)) hpick
  · intro win passes weighed gross lead follow survivor other t
    have htest : mergeTest s y x = true ↔ passes := mergeTest_iff s y x
    refine ⟨fun hfails => if_neg fun hc => hfails (htest.mp hc), fun hpasses => ?_⟩
    obtain ⟨hsurvivor, hother, hne, hmerge⟩ := mergeRecords_partners hy hx hid
    have ht : t = mergedInto (bothWeighed y x s) (weighed survivor) (weighed other) := (if_pos (htest.mpr hpasses)).trans hmerge
    have hsize := (bothWeighed_decisionMoves y x s).size
    have htbu := (bothWeighed_decisionMoves y x s).tbu
    obtain ⟨hgone, hhistory⟩ := mergedInto_other (a := weighed survivor) (b := weighed other) hsurvivor hother hne
    have hpartners : MergedFrom (weighed survivor) (weighed lead) (weighed follow) (mergedRecord (weighed survivor) (weighed other)) := by
      by_cases hlead : gross x < gross y ∨ (gross x = gross y ∧ y.lane < x.lane)
      · have hl : lead = y := if_pos hlead
        have hf : follow = x := if_pos (congrArg VRecord.id hl)
        have hyx : Leads (weighed y) (weighed x) := hlead.imp_right fun ⟨heq, hlt⟩ => ⟨heq.symm, hlt⟩
        have hxy : ¬ Leads (weighed x) (weighed y) := leads_asymm hyx
        rw [hl, hf]
        rcases Nat.lt_or_ge y.id x.id with hlt | hge
        · rw [show survivor = y from if_pos hlt, show other = x from if_pos hlt]
          exact mergedRecord_leads hyx
        · rw [show survivor = x from if_neg (Nat.not_lt.mpr hge), show other = y from if_neg (Nat.not_lt.mpr hge)]
          exact mergedRecord_follows hxy
      · have hl : lead = x := if_neg hlead
        have hf : follow = y := if_neg fun hc => hid (hl ▸ hc).symm
        have hyx : ¬ Leads (weighed y) (weighed x) := fun hc => hlead (hc.imp_right fun ⟨heq, hlt⟩ => ⟨heq.symm, hlt⟩)
        have hxy : Leads (weighed x) (weighed y) := leads_total hlane hyx
        rw [hl, hf]
        rcases Nat.lt_or_ge y.id x.id with hlt | hge
        · rw [show survivor = y from if_pos hlt, show other = x from if_pos hlt]
          exact mergedRecord_follows hyx
        · rw [show survivor = x from if_neg (Nat.not_lt.mpr hge), show other = y from if_neg (Nat.not_lt.mpr hge)]
          exact mergedRecord_leads hxy
    rw [ht]
    refine ⟨hgone, fun r hr => ?_, fun hroom => ?_⟩
    · obtain ⟨hst, hmerged, hgen, hl, hw, hdec, hgross⟩ := mergedInto_survivor (a := weighed survivor) (b := weighed other) hsurvivor hne hpartners hr
      exact ⟨hst, hmerged, hgen, hl, hw, by rw [hdec, htbu], hgross⟩
    · obtain ⟨z, hz, hzid, hdisp, htime⟩ := hhistory (hsize.trans hroom)
      exact ⟨z, hz, hzid, hdisp, by rw [htime, htbu]⟩

end Sys2Proof.Proofs
end

section
/-! SUPPORT. Proofs about a lane's strips and zeroing when its mode leaves CLOSED (R33, R37, R163), and about the blind condition formed at a
change of a lane's mode (R142). -/

namespace Sys2Proof.Machine

open Sys2Proof.Safety

/-! ### Notices of a condition that is none of a loop's -/

theorem giveGraded_aside {ix : CondIx} (h : ¬ LoopIx ix) (b : Bool) (t : Time) (s : State) : Aside s (giveGraded ix b t s) :=
  .placed (giveGraded_places ix b t s) (aside_withEntry h _ s)

theorem giveCause_aside {ix : CondIx} (h : ¬ LoopIx ix) (t : Time) (s : State) : Aside s (giveCause ix t s) := giveGraded_aside h false t s

theorem giveFault_aside {ix : CondIx} (h : ¬ LoopIx ix) (t : Time) (s : State) : Aside s (giveFault ix t s) := giveGraded_aside h true t s

theorem giveClear_aside {ix : CondIx} (h : ¬ LoopIx ix) (s : State) : Aside s (giveClear ix s) :=
  .placed (giveClear_places ix s) (aside_withEntry h _ s)

/-! ### The zeroing of a lane (R37, R41) -/

/-- What the grading of a channel leaves: all but the grades of the Zero Scheduler, the ZERO_OVERDUE entries and the reports. -/
structure ZeroSide (s t : State) : Prop where
  aside : Aside s t
  scu   : t.scu = s.scu
  las   : t.las = s.las
  rtb   : t.rtb = s.rtb
  dkc   : t.dkc = s.dkc
  dcu   : t.dcu = s.dcu
  trs   : t.trs = s.trs
  meas  : t.zsc.meas = s.zsc.meas

theorem ZeroSide.trans {s t u : State} (h : ZeroSide s t) (k : ZeroSide t u) : ZeroSide s u :=
  ⟨h.aside.trans k.aside, k.scu.trans h.scu, k.las.trans h.las, k.rtb.trans h.rtb, k.dkc.trans h.dkc, k.dcu.trans h.dcu, k.trs.trans h.trs,
    k.meas.trans h.meas⟩

theorem ZeroSide.of_same {s t : State} (h : SameA s t) (k : Aside s t) : ZeroSide s t :=
  ⟨k, h.scu, h.las, h.rtb, h.dkc, h.dcu, h.trs, by rw [h.zsc]⟩

theorem changeZero_side (c : Chan) (f : ZeroChan → ZeroChan) (s : State) : ZeroSide s (changeZero c f s) :=
  ⟨⟨rfl, rfl, rfl, fun _ _ => rfl⟩, rfl, rfl, rfl, rfl, rfl, rfl, rfl⟩

theorem overdueIx_not_loopIx (c : Chan) : ¬ LoopIx (overdueIx c) := not_loopIx (by simp only [overdueIx]; omega)

theorem gradeNotices_aside (c : Chan) (old new : ZeroGrade) (s : State) : Aside s (gradeNotices c old new s) := by
  have hix := overdueIx_not_loopIx c
  unfold gradeNotices
  dsimp only
  split
  · exact giveCause_aside hix _ s
  · exact (giveCause_aside hix _ s).trans (giveFault_aside hix _ _)
  · exact giveFault_aside hix _ s
  · exact giveClear_aside hix s
  · exact giveClear_aside hix s
  · exact (giveClear_aside hix s).trans (giveCause_aside hix _ _)
  all_goals exact .refl s

theorem gradeChannel_side (c : Chan) (s : State) : ZeroSide s (gradeChannel c s) :=
  (changeZero_side c _ s).trans (.of_same (gradeNotices_same c _ _ _) (gradeNotices_aside c _ _ _))

theorem stopGrading_side (c : Chan) (s : State) : ZeroSide s (stopGrading c s) := by
  unfold stopGrading
  dsimp only
  split
  · exact (changeZero_side c _ s).trans (.of_same (giveClear_same _ _) (giveClear_aside (overdueIx_not_loopIx c) _))
  · exact changeZero_side c _ s

/-- The grading of both strips of a lane resumes. -/
theorem zeroLaneOpened_side (l : Lane) (s : State) : ZeroSide (abandonLaneZero l s) (zeroLaneOpened l s) :=
  (gradeChannel_side _ _).trans (gradeChannel_side _ _)

/-- The grading of both strips of a lane stops. -/
theorem zeroLaneClosed_side (l : Lane) (s : State) : ZeroSide (abandonLaneZero l s) (zeroLaneClosed l s) :=
  (stopGrading_side _ _).trans (stopGrading_side _ _)

/-! ### The detectors of a lane (R33) -/

theorem chanLane_iff (c : Chan) (l : Lane) : chanLane c = l ↔ c = s1Chan l ∨ c = s2Chan l := by
  revert c l
  decide

theorem s2Chan_ne_s1Chan (l : Lane) : s2Chan l ≠ s1Chan l := by
  revert l
  decide

theorem detectorOn_eq (c : Chan) (s : State) : detectorOn c s = { s with
    scu := if s.scu[c].det = .off then put s.scu c (enterIdle s.sst.live.det s.scu[c]) else s.scu } := by
  rw [detectorOn]
  by_cases h : s.scu[c].det = .off
  · rw [if_pos (beq_iff_eq.mpr h), if_pos h]
    rfl
  · rw [if_neg fun hc => h (beq_iff_eq.mp hc), if_neg h]

theorem detectorOn_scu (c d : Chan) (s : State) : (detectorOn c s).scu[d] =
    if d = c ∧ s.scu[d].det = .off then enterIdle s.sst.live.det s.scu[d] else s.scu[d] := by
  by_cases h : s.scu[c].det = .off
  · have hon : (detectorOn c s).scu = put s.scu c (enterIdle s.sst.live.det s.scu[c]) := by
      rw [detectorOn_eq]
      exact if_pos h
    rw [hon]
    by_cases hd : d = c
    · subst hd
      rw [put_getElem_self, if_pos ⟨rfl, h⟩]
    · rw [put_getElem_other _ _ _ _ hd, if_neg fun hc => hd hc.1]
  · have hon : (detectorOn c s).scu = s.scu := by
      rw [detectorOn_eq]
      exact if_neg h
    rw [hon, if_neg]
    rintro ⟨rfl, hc⟩
    exact h hc

/-- The state with the detectors of a lane taken from OFF to IDLE. -/
def detectorsOn (l : Lane) (s : State) : State := detectorOn (s2Chan l) (detectorOn (s1Chan l) s)

theorem detectorsOn_scu (l : Lane) (c : Chan) (s : State) : (detectorsOn l s).scu[c] =
    if chanLane c = l ∧ s.scu[c].det = .off then enterIdle s.sst.live.det s.scu[c] else s.scu[c] := by
  have hlive : (detectorOn (s1Chan l) s).sst = s.sst := (detectorOn_same _ s).sst
  rw [detectorsOn, detectorOn_scu, detectorOn_scu, hlive]
  by_cases h2 : c = s2Chan l
  · have hne : ¬ c = s1Chan l := fun h1 => s2Chan_ne_s1Chan l (h2.symm.trans h1)
    simp only [h2, s2Chan_ne_s1Chan, false_and, if_false, true_and, (chanLane_iff (s2Chan l) l).mpr (.inr rfl)]
  · by_cases h1 : c = s1Chan l
    · simp only [h1, (s2Chan_ne_s1Chan l).symm, false_and, if_false, true_and, (chanLane_iff (s1Chan l) l).mpr (.inl rfl)]
    · have hl : ¬ chanLane c = l := fun hc => ((chanLane_iff c l).mp hc).elim h1 h2
      simp only [h1, h2, hl, false_and, if_false]

/-! ### The blind condition formed afresh (R142) -/

theorem reviewBlind_blind (further : Bool) (s : State) : (reviewBlind further s).dkc.blind = blindNow s := by
  cases h : blindNow s with
  | true =>
    rw [reviewBlind_holds h]
    split
    · exact (blindBegins_flushedOut (s := withBlind true s) rfl).blind
    · split
      · exact (reviewFlushed_flushedOut (s := withBlind true s) rfl).blind
      · rfl
  | false =>
    rw [reviewBlind_ceased h]
    split
    · rw [enterResync_dkc]
      rfl
    · rfl

theorem blindNow_congr {s t : State} (hsst : t.sst.live = s.sst.live) (hliu : t.liu = s.liu) (hmarks : t.cmn.closedMark = s.cmn.closedMark) :
    blindNow t = blindNow s := by
  have hmode : ∀ l, (laneModeOf t l != .closed) = (laneModeOf s l != .closed) := fun l => by
    rw [bne, bne, laneModeOf_eq_closed, laneModeOf_eq_closed, hsst, hmarks]
  have hserve : ∀ l, inService t l = inService s l := fun l => by rw [inService, inService, hsst, hliu]
  simp only [blindNow, hmode, hserve]

/-! ### A lane opened (R163) -/

/-- The state with a lane's closed mark set or cleared, and the lane modes formed. -/
def withMark (l : Lane) (b : Bool) (s : State) : State := formModes { s with cmn.closedMark := put s.cmn.closedMark l b }

/-- What the opening of a lane leaves. -/
structure LaneOpened (l : Lane) (s t : State) : Prop where
  marks   : t.cmn.closedMark = put s.cmn.closedMark l false
  answers : answerPath t = answerPath s
  scu     : ∀ c : Chan, t.scu[c] = if chanLane c = l ∧ s.scu[c].det = .off then enterIdle s.sst.live.det s.scu[c] else s.scu[c]
  freed   : t.liu.loops[pLoop l].announced = false
  deb     : t.liu.deb = s.liu.deb
  blind   : t.dkc.blind = blindNow t
  same    : SameD (withLoop (pLoop l) { s.liu.loops[pLoop l] with announced := false } s) t

theorem detectorOn_aside (c : Chan) (s : State) : Aside s (detectorOn c s) := by
  unfold detectorOn
  split
  · exact ⟨rfl, rfl, rfl, fun _ _ => rfl⟩
  · exact .refl s

theorem abandonLaneZero_aside (l : Lane) (s : State) : Aside s (abandonLaneZero l s) := by
  rw [abandonLaneZero_eq]
  exact ⟨rfl, rfl, rfl, fun _ _ => rfl⟩

/-- The strips and the zeroing of a lane that has left CLOSED. -/
def revived (l : Lane) (s : State) : State := zeroLaneOpened l (detectorsOn l s)

theorem revived_aside (l : Lane) (s : State) : Aside s (revived l s) :=
  ((detectorOn_aside _ s).trans (detectorOn_aside _ _)).trans ((abandonLaneZero_aside l _).trans (zeroLaneOpened_side l _).aside)

theorem revived_same (l : Lane) (s : State) : SameD s (revived l s) :=
  ((detectorOn_same _ s).trans (detectorOn_same _ _)).trans (zeroLaneOpened_same l _)

theorem revived_scu (l : Lane) (s : State) : (revived l s).scu = (detectorsOn l s).scu := by
  have hside := (zeroLaneOpened_side l (detectorsOn l s)).scu
  rwa [abandonLaneZero_eq] at hside

theorem reviveLane_eq (l : Lane) (s : State) : reviveLane l s =
    withLoop (pLoop l) { s.liu.loops[pLoop l] with announced := false } (revived l s) := by
  rw [← (revived_same l s).liu]
  rfl

theorem openLane_opened (l : Lane) (s : State) : LaneOpened l s (openLane l s) := by
  let x := withMark l false s
  have haside := revived_aside l x
  have hsame := revived_same l x
  have hscu := revived_scu l x
  have hlane : openLane l s = reviewBlind false (withLoop (pLoop l) { s.liu.loops[pLoop l] with announced := false } (revived l x)) :=
    congrArg (reviewBlind false) (reviveLane_eq l x)
  rw [hlane]
  generalize revived l x = y at haside hsame hscu
  let z := withLoop (pLoop l) { s.liu.loops[pLoop l] with announced := false } y
  have hblind := reviewBlind_same false z
  have hmoves := reviewBlind_deckMoves false z
  have hliu : z.liu = (withLoop (pLoop l) { s.liu.loops[pLoop l] with announced := false } s).liu :=
    congrArg (fun u : LiuState => { u with loops := put u.loops (pLoop l) { s.liu.loops[pLoop l] with announced := false } }) hsame.liu
  have hstep : SameD (withLoop (pLoop l) { s.liu.loops[pLoop l] with announced := false } s) z :=
    ⟨hsame.tbu, hsame.csq, hliu, hsame.rtk, hsame.sst, hsame.freeIndex, hsame.pending⟩
  refine ⟨hmoves.aside.closed.trans haside.closed, hmoves.answers.trans haside.answers, fun c => ?_, ?_, ?_, ?_, ?_⟩
  · rw [hblind.scu, show z.scu = _ from hscu]
    exact detectorsOn_scu l c x
  · rw [hblind.liu]
    exact congrArg LoopState.announced (withLoop_loops _ _ y)
  · rw [hblind.liu]
    exact (congrArg LiuState.deb hliu :)
  · rw [reviewBlind_blind]
    exact (blindNow_congr (congrArg SstState.live hblind.sst) hblind.liu hmoves.aside.closed).symm
  · exact hstep.trans hblind.toC.toD

section Requests

variable {r : Request} {l : Lane} {s : State} (hl : l.val = byteAt r.payload 0)

include hl

theorem answerLaneOpen_absent (h : s.sst.live.site.laneCount ≤ l.val) : answerLaneOpen r s = refuse r .badValue s := by
  have hp : lanePresent s.sst.live l = false := decide_eq_false (not_lt.mpr h)
  rw [answerLaneOpen, laneAt_of_val hl]
  simp only [hp, Bool.not_false, if_true]

theorem answerLaneOpen_busy (h : l.val < s.sst.live.site.laneCount) (hb : s.sst.storeBusy = true) :
    answerLaneOpen r s = refuse r .busy s := by
  have hp : lanePresent s.sst.live l = true := decide_eq_true h
  rw [answerLaneOpen, laneAt_of_val hl]
  simp only [hp, hb, Bool.not_true, Bool.false_eq_true, if_false, if_true]

theorem answerLaneOpen_state (h : l.val < s.sst.live.site.laneCount) (hb : s.sst.storeBusy = false)
    (hm : s.cmn.closedMark[l] = false ∨ coversLane s.sst.live.conv.scanList l = false) : answerLaneOpen r s = refuse r .state s := by
  have hp : lanePresent s.sst.live l = true := decide_eq_true h
  rw [answerLaneOpen, laneAt_of_val hl]
  rcases hm with hm | hm <;> simp only [hp, hb, hm, Bool.not_true, Bool.not_false, Bool.false_eq_true, if_false, if_true, ite_self]

theorem answerLaneOpen_opens (h : l.val < s.sst.live.site.laneCount) (hb : s.sst.storeBusy = false) (hm : s.cmn.closedMark[l] = true)
    (hc : coversLane s.sst.live.conv.scanList l = true) : answerLaneOpen r s = accept r (openLane l s) := by
  have hp : lanePresent s.sst.live l = true := decide_eq_true h
  rw [answerLaneOpen, laneAt_of_val hl]
  simp only [hp, hb, hm, hc, Bool.not_true, Bool.false_eq_true, if_false]

end Requests

end Sys2Proof.Machine

namespace Sys2Proof.Proofs

open Sys2Proof.Machine
open Sys2Proof.Safety

/-- Settles O48: the refusals in their order, and the opening by its parts. -/
theorem laneOpens : Obligations.LaneOpens := by
  unfold Obligations.LaneOpens
  intro r s h hl hkey
  refine ⟨_, serve_keyed h (by simp [hl]) hkey, fun hlarge => ?_, fun l hlane => ⟨fun habsent => ?_, fun hpresent => ⟨fun hbusy => ?_,
    fun hidle => ⟨fun hshut => ?_, fun hmark hcover => ?_⟩⟩⟩⟩
  · rw [answerLaneOpen, laneAt_of_large hlarge]
    exact refuse_of_asks h .badValue
  · rw [answerLaneOpen_absent (s := dropRequest s) hlane habsent]
    exact refuse_of_asks h .badValue
  · rw [answerLaneOpen_busy (s := dropRequest s) hlane hpresent hbusy]
    exact refuse_of_asks h .busy
  · rw [answerLaneOpen_state (s := dropRequest s) hlane hpresent hidle hshut]
    exact refuse_of_asks h .state
  · rw [answerLaneOpen_opens (s := dropRequest s) hlane hpresent hidle hmark hcover]
    have hopened := openLane_opened l (dropRequest s)
    have hkeeps := openLane_keeps l (dropRequest s)
    have hreplied := reply_replied r .ok .empty fun hc => hkeeps.behind.trans (h.queues.held (hkeeps.held ▸ hc))
    generalize openLane l (dropRequest s) = u at hopened hkeeps hreplied
    rw [show settle (accept r u) = settle (reply r .ok .empty u) from rfl]
    generalize settle (reply r .ok .empty u) = t at hreplied
    have hsst : t.sst.live = s.sst.live := (hreplied.same (·.sst.live) fun _ => rfl).trans (congrArg SstState.live hopened.same.sst)
    have hscu : ∀ c : Chan, t.scu[c] = _ := fun c => (hreplied.same (fun u => u.scu[c]) fun _ => rfl).trans (hopened.scu c)
    have hmarks : t.cmn.closedMark = put s.cmn.closedMark l false := (hreplied.same (·.cmn.closedMark) fun _ => rfl).trans hopened.marks
    have hblind : t.dkc.blind = u.dkc.blind := (congrArg DkcState.blind hreplied.dkc :)
    refine ⟨hreplied.formed, hreplied.requests.trans hkeeps.requests, hreplied.answers.trans (congrArg (· ++ _) hopened.answers), hmarks, ?_,
      fun c hc => ⟨fun hoff => ?_, fun hon => ?_⟩, fun c hc => ?_, ?_, ?_, ?_, ?_, ?_, hsst, ?_⟩
    · rw [hreplied.formed.modes l, ne_eq, ← beq_iff_eq, laneModeOf_eq_closed, hsst, hmarks, put_getElem_self, Bool.or_false,
        (lanePresent_iff _ l).mpr hpresent]
      decide
    · rw [hscu, if_pos ⟨hc, hoff⟩]
      exact ⟨rfl, rfl⟩
    · exact (hscu c).trans (if_neg fun k => hon k.2)
    · exact (hscu c).trans (if_neg fun k => hc k.1)
    · exact (hreplied.same (fun u => u.liu.loops[pLoop l].announced) fun _ => rfl).trans hopened.freed
    · exact (hreplied.same (·.liu.deb) fun _ => rfl).trans hopened.deb
    · rw [hblind, hopened.blind]
      exact (blindNow_congr (hreplied.same (·.sst.live) fun _ => rfl) (hreplied.same State.liu fun _ => rfl)
        (hreplied.same (·.cmn.closedMark) fun _ => rfl)).symm
    · exact hreplied.tbu.trans hopened.same.tbu
    · exact (hreplied.same State.csq fun _ => rfl).trans hopened.same.csq
    · exact (hreplied.same State.rtk fun _ => rfl).trans hopened.same.rtk

end Sys2Proof.Proofs
end

section
/-! SUPPORT. Proofs about lanes whose modes become CLOSED: the records that their assemblers abandon, the straddle partners of these, and the
strips and zeroing that stop (R33, R37, R41, R73, R163). -/

namespace Sys2Proof.Machine

open Sys2Proof.Safety

/-! ### Records held by an assembler (R73) -/

/-- A record is held by an assembler: by its open vehicle, by a sealed one, or as PENDING. -/
def Held (a : LasState) (id : Nat) : Prop := (∃ v ∈ a.openVeh, v.owner = .recorded id) ∨ (∃ v ∈ a.sealed, v.owner = .recorded id) ∨
  ∃ p ∈ a.pendingList, p.id = id

/-- The record that an owner names. -/
def ownedIds : Owner → List Nat
  | .recorded id => [id]
  | .unrecorded | .noRecord => []

theorem mem_ownedIds (o : Owner) (id : Nat) : id ∈ ownedIds o ↔ o = .recorded id := by
  cases o with
  | recorded k =>
    rw [ownedIds, List.mem_singleton, Owner.recorded.injEq]
    exact eq_comm
  | unrecorded | noRecord => simp only [ownedIds, List.not_mem_nil, reduceCtorEq]

theorem heldIds_eq (a : LasState) : heldIds a = (a.openVeh.toList.flatMap fun v => ownedIds v.owner) ++
    (a.sealed.flatMap fun v => ownedIds v.owner) ++ a.pendingList.map (·.id) := by
  have hown : heldIds a = (match a.openVeh with | some v => ownedIds v.owner | none => []) ++
      a.sealed.flatMap (fun v => ownedIds v.owner) ++ a.pendingList.map (·.id) := rfl
  rw [hown]
  cases a.openVeh with
  | none => rfl
  | some v => rw [Option.toList_some, List.flatMap_singleton]

theorem mem_heldIds (a : LasState) (id : Nat) : id ∈ heldIds a ↔ Held a id := by
  rw [heldIds_eq, List.mem_append, List.mem_append, or_assoc, Held]
  simp only [List.mem_flatMap, mem_ownedIds, List.mem_map, Option.mem_toList, Option.mem_def]

theorem mem_heldIn (s : State) (lanes : List Lane) (id : Nat) : id ∈ heldIn s lanes ↔ ∃ l ∈ lanes, Held s.las[l] id := by
  simp only [heldIn, List.mem_flatMap, mem_heldIds]

theorem mem_awaitedIn (s : State) (lanes : List Lane) (id : Nat) : id ∈ awaitedIn s lanes ↔
    ∃ l ∈ lanes, ∃ p ∈ s.las[l].pendingList, p.awaits = id := by
  simp only [awaitedIn, List.mem_flatMap, List.mem_map]

/-! ### The steps of the abandoning -/

/-- A property that decisions keep, and that each step for `b` gives, holds after steps for a list with `b`. -/
theorem DecisionMoves.foldl_mem {β : Type} {f : State → β → State} (h : ∀ s b, DecisionMoves s (f s b)) {P : State → Prop}
    (hkeeps : ∀ s t, DecisionMoves s t → P s → P t) {b : β} (hb : ∀ s, P (f s b)) {bs : List β} (hmem : b ∈ bs) (s : State) :
    P (bs.foldl f s) := by
  obtain ⟨pre, post, rfl⟩ := List.append_of_mem hmem
  rw [List.foldl_append, List.foldl_cons]
  exact hkeeps _ _ (.foldl h post _) (hb _)

theorem closeRecord_decisionMoves (d : Disposition) (s : State) (id : Nat) : DecisionMoves s (closeRecord id d s) :=
  (closeRecord_deckMoves id d s).toDecision (closeRecord_flow id d s)

/-- The closes of the records given. -/
def closeAll (d : Disposition) (ids : List Nat) (s : State) : State := ids.foldl (fun s id => closeRecord id d s) s

theorem closeAll_decisionMoves (d : Disposition) (ids : List Nat) (s : State) : DecisionMoves s (closeAll d ids s) :=
  .foldl (closeRecord_decisionMoves d) ids s

theorem closeAll_gone (d : Disposition) {ids : List Nat} {id : Nat} (h : id ∈ ids) (s : State) : findRec (closeAll d ids s) id = none :=
  DecisionMoves.foldl_mem (P := fun u => findRec u id = none) (closeRecord_decisionMoves d) (fun _ _ k hu => k.gone id hu)
    (fun u => closeRecord_gone id d u) h s

theorem closeAll_history (d : Disposition) {ids : List Nat} {id : Nat} {r : VRecord} {s : State} (h : id ∈ ids) (hr : findRec s id = some r)
    (hs : s.rtb.pool.length + s.rtb.history.length ≤ 64) : summaryOf r d s.tbu.time ∈ (closeAll d ids s).rtb.history := by
  induction ids generalizing s with
  | nil => cases h
  | cons k ids ih =>
    have hmoves := closeRecord_decisionMoves d s k
    by_cases hk : id = k
    · subst hk
      exact (closeAll_decisionMoves d ids _).kept (hmoves.size.trans hs) _ (mem_closeRecord_history hr d hs)
    · have hthen := ih ((List.mem_cons.mp h).resolve_left hk) ((findRec_closeRecord k id d s).trans ((if_neg hk).trans hr)) (hmoves.size.trans hs)
      rwa [hmoves.tbu] at hthen

/-- A record PENDING stays so at closes, but where it is closed itself. -/
theorem closeAll_pending (d : Disposition) (ids : List Nat) (s : State) {l : Lane} {p : PendingRecord} (hp : p ∈ s.las[l].pendingList) :
    p ∈ (closeAll d ids s).las[l].pendingList ∨ findRec (closeAll d ids s) p.id = none := by
  induction ids generalizing s with
  | nil => exact .inl hp
  | cons k ids ih =>
    have hthen : ∀ u : State, findRec u p.id = none → findRec (closeAll d ids u) p.id = none := fun u => (closeAll_decisionMoves d ids u).gone p.id
    by_cases hk : p.id = k
    · exact .inr (hthen _ (hk ▸ closeRecord_gone k d s))
    · have hleft : (closeRecord k d s).las[l].pendingList = s.las[l].pendingList ∨
          (closeRecord k d s).las[l].pendingList = s.las[l].pendingList.filter (·.id != k) := by
        cases hr : findRec s k with
        | none =>
          rw [closeRecord_none hr]
          exact .inl rfl
        | some r =>
          rw [(closeRecord_places (d := d) hr).las]
          exact .inr (congrArg LasState.pendingList (mapVec_getElem _ _ _) :)
      refine ih _ ?_
      rcases hleft with h | h <;> rw [h]
      · exact hp
      · exact List.mem_filter.mpr ⟨hp, bne_iff_ne.mpr hk⟩

/-! ### The lanes whose assemblers abandon their records (R73) -/

/-- The state with the assemblers of the lanes given emptied. -/
def emptied (lanes : List Lane) (s : State) : State := lanes.foldl (fun s l => changeLas l emptyLas s) s

theorem emptyLas_emptyLas (a : LasState) : emptyLas (emptyLas a) = emptyLas a := rfl

theorem emptied_las (lanes : List Lane) (s : State) (k : Lane) :
    (emptied lanes s).las[k] = if k ∈ lanes then emptyLas s.las[k] else s.las[k] := by
  induction lanes generalizing s with
  | nil => rfl
  | cons l lanes ih =>
    have hone : (changeLas l emptyLas s).las[k] = if k = l then emptyLas s.las[k] else s.las[k] := by
      by_cases hk : k = l
      · subst hk
        rw [if_pos rfl]
        exact change_getElem_self _ _ _
      · rw [if_neg hk]
        exact change_getElem_other _ _ _ _ hk
    rw [emptied, List.foldl_cons, ← emptied, ih, hone]
    by_cases hk : k = l
    · subst hk
      rw [if_pos rfl, emptyLas_emptyLas, ite_self, if_pos List.mem_cons_self]
    · simp only [hk, List.mem_cons, false_or, if_false]

/-- The state with the assemblers of the lanes given emptied: pool, history, time and the rest as before. -/
theorem emptied_rest (lanes : List Lane) (s : State) : (emptied lanes s) = { s with las := (emptied lanes s).las } := by
  induction lanes generalizing s with
  | nil => rfl
  | cons l lanes ih => exact (ih (changeLas l emptyLas s)).trans rfl

/-- The records PENDING that await one of those given. -/
def leftAwaiting (ids : List Nat) (s : State) : List Nat :=
  s.las.toList.flatMap fun b => (b.pendingList.filter fun p => ids.contains p.awaits).map (·.id)

theorem mem_leftAwaiting (ids : List Nat) (s : State) (id : Nat) : id ∈ leftAwaiting ids s ↔
    ∃ l : Lane, ∃ p ∈ s.las[l].pendingList, p.awaits ∈ ids ∧ p.id = id := by
  simp only [leftAwaiting, List.mem_flatMap, List.mem_map, List.mem_filter, List.contains_iff_mem]
  constructor
  · rintro ⟨a, ha, p, ⟨hp, haw⟩, rfl⟩
    obtain ⟨k, hk, rfl⟩ := Vector.mem_iff_getElem.mp (Vector.mem_toList_iff.mp ha)
    exact ⟨⟨k, hk⟩, p, hp, haw, rfl⟩
  · rintro ⟨l, p, hp, haw, rfl⟩
    exact ⟨s.las[l], Vector.mem_toList_iff.mpr (Vector.getElem_mem l.isLt), p, ⟨hp, haw⟩, rfl⟩

theorem foldl_flagSuspect_las (ids : List Nat) (s : State) : (ids.foldl flagSuspect s).las = s.las := by
  induction ids generalizing s with
  | nil => rfl
  | cons id ids ih => exact (ih (flagSuspect s id)).trans rfl

/-- What the abandoning of the records of lanes leaves (R73). -/
structure Abandoned (lanes : List Lane) (s t : State) : Prop where
  emptied   : ∀ k ∈ lanes, t.las[k] = emptyLas s.las[k]
  others    : ∀ k ∉ lanes, ∃ ps, t.las[k] = { s.las[k] with pendingList := ps } ∧ ∀ p ∈ ps, p ∈ s.las[k].pendingList
  gone      : ∀ id ∈ heldIn s lanes, findRec t id = none
  absent    : ∀ id, findRec s id = none → findRec t id = none
  size      : t.rtb.pool.length + t.rtb.history.length ≤ s.rtb.pool.length + s.rtb.history.length
  history   : s.rtb.pool.length + s.rtb.history.length ≤ 64 → ∀ id ∈ heldIn s lanes, ∀ r, findRec s id = some r →
                summaryOf r .abandoned s.tbu.time ∈ t.rtb.history
  suspect   : ∀ id ∈ awaitedIn s lanes, ∀ x, findRec t id = some x → x.flags.straddleSuspect = true
  unawaited : ∀ k : Lane, ∀ p ∈ t.las[k].pendingList, p.awaits ∉ heldIn s lanes
  decided   : ∀ k : Lane, ∀ p ∈ s.las[k].pendingList, p.awaits ∈ heldIn s lanes → ∀ x, findRec t p.id = some x →
                x.st = .decided ∧ x.flags.straddleSuspect = true ∧ x.decTime = some s.tbu.time
  flow      : DeckFlow s t
  aside     : Aside s t
  same      : SameC s t

theorem abandonLanes_abandoned (lanes : List Lane) (s : State) : Abandoned lanes s (abandonLanes lanes s) := by
  let ids := heldIn s lanes
  let x := emptied lanes s
  let y := closeAll .abandoned ids x
  let z := (awaitedIn s lanes).foldl flagSuspect y
  let t := abandonLanes lanes s
  have hx : x = { s with las := x.las } := emptied_rest lanes s
  have hrtb : x.rtb = s.rtb := by rw [hx]
  have htbu : x.tbu = s.tbu := by rw [hx]
  have hxy : DecisionMoves x y := closeAll_decisionMoves _ _ x
  have hyz : DecisionMoves y z := .foldl flagSuspect_decisionMoves _ y
  have hzt : DecisionMoves z t := .foldl (fun s id => decideSuspect_decisionMoves id s) (leftAwaiting ids z) z
  have hxt : DecisionMoves x t := (hxy.trans hyz).trans hzt
  have hfind : ∀ id, findRec x id = findRec s id := fun id => by rw [findRec, hrtb, ← findRec]
  refine ⟨fun k hk => ?_, fun k hk => ?_, fun id hid => ?_, fun id hid => ?_, ?_, fun hs id hid r hr => ?_, fun id hid v hv => ?_,
    fun k p hp hheld => ?_, fun k p hp hheld v hv => ?_, ?_, ?_, abandonLanes_same lanes s⟩
  · obtain ⟨ps, ht, hps⟩ := hxt.las k
    rw [emptied_las, if_pos hk] at ht hps
    have hnil : ps = [] := List.eq_nil_iff_forall_not_mem.mpr fun p hp => List.not_mem_nil (hps p hp)
    rw [ht, hnil]
    rfl
  · obtain ⟨ps, ht, hps⟩ := hxt.las k
    rw [emptied_las, if_neg hk] at ht hps
    exact ⟨ps, ht, hps⟩
  · exact (hyz.trans hzt).gone id (closeAll_gone _ hid x)
  · exact hxt.gone id ((hfind id).trans hid)
  · have hsize := hxt.size
    rwa [hrtb] at hsize
  · have hroom : x.rtb.pool.length + x.rtb.history.length ≤ 64 := by rwa [hrtb]
    have hin := closeAll_history .abandoned hid ((hfind id).trans hr) hroom
    rw [htbu] at hin
    exact (hyz.trans hzt).kept (hxy.size.trans hroom) _ hin
  · refine hzt.suspect (id := id) (fun r hr => ?_) hv
    exact DecisionMoves.foldl_mem (P := fun u => ∀ r, findRec u id = some r → r.flags.straddleSuspect = true) flagSuspect_decisionMoves
      (fun _ _ k hu _ hr => k.suspect hu hr) (fun _ _ hr => flagSuspect_suspect hr) hid y r hr
  · have hleft : ∀ q : PendingRecord, q ∈ z.las[k].pendingList → q.awaits ∈ ids → pendingEntry t q.id = none := fun q hq haw =>
      DecisionMoves.foldl_mem (P := fun u => pendingEntry u q.id = none) (fun s id => decideSuspect_decisionMoves id s)
        (fun _ _ h hu => h.pendingEntry hu) (fun u => decideSuspect_pendingEntry q.id u) ((mem_leftAwaiting ids z q.id).mpr ⟨k, q, hq, haw, rfl⟩) z
    obtain ⟨ps, ht, hps⟩ := hzt.las k
    have hpz : p ∈ z.las[k].pendingList := hps p (by rw [show t.las[k] = _ from ht] at hp; exact hp)
    exact (pendingEntry_none_iff t p.id).mp (hleft p hpz hheld) k p hp rfl
  · have hstays : findRec y p.id ≠ none := fun hy => by
      rw [(hyz.trans hzt).gone _ hy] at hv
      cases hv
    have hk : k ∉ lanes := fun hk => hstays (closeAll_gone _ ((mem_heldIn s lanes p.id).mpr ⟨k, hk, .inr (.inr ⟨p, hp, rfl⟩)⟩) x)
    have hpx : p ∈ x.las[k].pendingList := by
      rw [emptied_las, if_neg hk]
      exact hp
    have hpz : p ∈ z.las[k].pendingList := by
      rw [show z.las = y.las from foldl_flagSuspect_las _ y]
      exact (closeAll_pending .abandoned ids x hpx).resolve_right hstays
    have hdecided : ∀ v, findRec t p.id = some v → v.st = .decided ∧ v.decTime = some t.tbu.time ∧ v.flags.straddleSuspect = true :=
      DecisionMoves.foldl_mem (P := fun u => ∀ v, findRec u p.id = some v → v.st = .decided ∧ v.decTime = some u.tbu.time ∧
          v.flags.straddleSuspect = true) (fun s id => decideSuspect_decisionMoves id s)
        (fun u w h hu v hv => by
          obtain ⟨r, hr, hsus, hdec⟩ := h.marks _ v hv
          obtain ⟨hst, htime, hflag⟩ := hu r hr
          obtain ⟨hst', htime'⟩ := hdec ⟨hst, htime⟩
          exact ⟨hst', htime'.trans (congrArg (fun k : TbuState => some k.time) h.tbu.symm), hsus hflag⟩)
        (fun u v hv => by
          obtain ⟨hst, htime, -, hflag⟩ := decideSuspect_decided hv
          exact ⟨hst, htime.trans (congrArg (fun k : TbuState => some k.time) (decideSuspect_decisionMoves p.id u).tbu.symm), hflag⟩)
        ((mem_leftAwaiting ids z p.id).mpr ⟨k, p, hpz, hheld, rfl⟩) z
    obtain ⟨hst, htime, hflag⟩ := hdecided v hv
    rw [hxt.tbu, htbu] at htime
    exact ⟨hst, hflag, htime⟩
  · have hflow : DeckFlow s x := by
      rw [hx]
      exact .of_dkc (fun _ h => h) rfl rfl
    exact hflow.trans hxt.flow
  · have haside : Aside s x := by
      rw [hx]
      exact ⟨rfl, rfl, rfl, fun _ _ => rfl⟩
    exact haside.trans hxt.aside

/-! ### A lane shut (R33, R37, R41) -/

/-- A detector that has gone OFF. -/
def offScu (u : ScuState) : ScuState := { clearPulse u with det := .off, cur := none, prev := none, stuckRun := 0 }

theorem storePulse_trs (c : Chan) (t : Time) (b : Bool) (span : List Sample) (s : State) :
    ∃ trs, storePulse c t b span s = { s with trs := trs } := by
  unfold storePulse
  dsimp only
  split
  · exact ⟨s.trs, rfl⟩
  · exact ⟨_, rfl⟩

theorem pulseOver_empty {c : Chan} {l : Lane} {s : State} (hc : chanLane c = l) (h : s.las[l].fifo = []) : pulseOver c s = s := by
  subst hc
  rw [pulseOver, s2DetectorLeft, h]
  exact ite_self _

/-- A detector goes OFF while no hit waits for it: an aborted pulse goes to the Trace Store, and nothing else is changed. -/
theorem detectorOff_empty {c : Chan} {l : Lane} {s : State} (hc : chanLane c = l) (h : s.las[l].fifo = []) :
    ∃ trs, detectorOff c s = { s with scu := put s.scu c (offScu s.scu[c]), trs := trs } := by
  let x : State := { s with scu := put s.scu c (offScu s.scu[c]) }
  obtain ⟨trs, htrs⟩ := storePulse_trs c s.scu[c].start true s.scu[c].span x
  have hover : pulseOver c { x with trs := trs } = { x with trs := trs } := pulseOver_empty hc h
  have hoff : detectorOff c s = match s.scu[c].det with
      | .pulse | .tail => pulseOver c (storePulse c s.scu[c].start true s.scu[c].span x)
      | .off | .idle | .stuck => x := rfl
  rw [hoff, htrs, hover]
  split
  iterate 2 exact ⟨trs, rfl⟩
  all_goals exact ⟨s.trs, rfl⟩

/-- What the shutting of a lane leaves. -/
structure LaneShut (l : Lane) (s t : State) : Prop where
  scu   : ∀ c : Chan, t.scu[c] = if chanLane c = l then offScu s.scu[c] else s.scu[c]
  las   : t.las = s.las
  rtb   : t.rtb = s.rtb
  dkc   : t.dkc = s.dkc
  dcu   : t.dcu = s.dcu
  meas  : ∀ m, t.zsc.meas = some m → s.zsc.meas = some m ∧ chanLane m.chan ≠ l
  aside : Aside s t

theorem abandonLaneZero_meas (l : Lane) (s : State) {m : Measurement} (h : (abandonLaneZero l s).zsc.meas = some m) :
    s.zsc.meas = some m ∧ chanLane m.chan ≠ l := by
  rw [abandonLaneZero_eq] at h
  dsimp only at h
  cases hs : s.zsc.meas with
  | none =>
    rw [hs] at h
    dsimp only at h
    rw [hs] at h
    cases h
  | some n =>
    rw [hs] at h
    dsimp only at h
    split at h
    · cases h
    next hn =>
      rw [hs] at h
      cases h
      exact ⟨rfl, hn⟩

theorem shutLane_shut {l : Lane} {s : State} (h : s.las[l].fifo = []) : LaneShut l s (shutLane l s) := by
  have h1 : chanLane (s1Chan l) = l := (chanLane_iff _ l).mpr (.inl rfl)
  have h2 : chanLane (s2Chan l) = l := (chanLane_iff _ l).mpr (.inr rfl)
  obtain ⟨trs1, ht1⟩ := detectorOff_empty (c := s1Chan l) (s := s) h1 h
  let x : State := { s with scu := put s.scu (s1Chan l) (offScu s.scu[s1Chan l]), trs := trs1 }
  obtain ⟨trs2, ht2⟩ := detectorOff_empty (c := s2Chan l) (s := x) h2 h
  have hx2 : x.scu[s2Chan l] = s.scu[s2Chan l] := put_getElem_other _ _ _ _ (s2Chan_ne_s1Chan l)
  let y : State := { s with scu := put (put s.scu (s1Chan l) (offScu s.scu[s1Chan l])) (s2Chan l) (offScu s.scu[s2Chan l]), trs := trs2 }
  have hy : shutLane l s = zeroLaneClosed l y := by
    rw [shutLane, ht1, ht2, hx2]
  have hside := zeroLaneClosed_side l y
  have hmeas := fun m (hm : (zeroLaneClosed l y).zsc.meas = some m) => abandonLaneZero_meas l y (hside.meas.symm.trans hm)
  have habandon := abandonLaneZero_eq l y
  generalize abandonLaneZero l y = z at hside habandon hmeas
  rw [hy]
  refine ⟨fun c => ?_, ?_, ?_, ?_, ?_, hmeas, ?_⟩
  · rw [hside.scu, show z.scu = y.scu by rw [habandon]]
    by_cases hc2 : c = s2Chan l
    · subst hc2
      rw [if_pos h2]
      exact put_getElem_self _ _ _
    · rw [show y.scu[c] = _ from put_getElem_other _ _ _ _ hc2]
      by_cases hc1 : c = s1Chan l
      · subst hc1
        rw [if_pos h1]
        exact put_getElem_self _ _ _
      · rw [if_neg fun hc => ((chanLane_iff c l).mp hc).elim hc1 hc2]
        exact put_getElem_other _ _ _ _ hc1
  · rw [hside.las, habandon]
  · rw [hside.rtb, habandon]
  · rw [hside.dkc, habandon]
  · rw [hside.dcu, habandon]
  · refine Aside.trans ?_ hside.aside
    rw [habandon]
    exact ⟨rfl, rfl, rfl, fun _ _ => rfl⟩

/-! ### LANE_CLOSE (R163) -/

/-- What the closing of a lane leaves. -/
structure LaneClosed (l : Lane) (s t : State) : Prop where
  marks     : t.cmn.closedMark = put s.cmn.closedMark l true
  answers   : answerPath t = answerPath s
  emptied   : t.las[l] = emptyLas s.las[l]
  gone      : ∀ id, Held s.las[l] id → findRec t id = none
  history   : s.rtb.pool.length + s.rtb.history.length ≤ 64 → ∀ id, Held s.las[l] id → ∀ r, findRec s id = some r →
                summaryOf r .abandoned s.tbu.time ∈ t.rtb.history
  suspect   : ∀ p ∈ s.las[l].pendingList, ∀ x, findRec t p.awaits = some x → x.flags.straddleSuspect = true
  unawaited : ∀ k : Lane, ∀ p ∈ t.las[k].pendingList, ¬ Held s.las[l] p.awaits
  decided   : ∀ k : Lane, ∀ p ∈ s.las[k].pendingList, Held s.las[l] p.awaits → ∀ x, findRec t p.id = some x →
                x.st = .decided ∧ x.flags.straddleSuspect = true ∧ x.decTime = some s.tbu.time
  scu       : ∀ c : Chan, t.scu[c] = if chanLane c = l then offScu s.scu[c] else s.scu[c]
  meas      : ∀ m, t.zsc.meas = some m → chanLane m.chan ≠ l
  blind     : t.dkc.blind = blindNow t
  same      : SameD s t

theorem closeLane_closed (l : Lane) (s : State) : LaneClosed l s (closeLane l s) := by
  let x := withMark l true s
  have hab := abandonLanes_abandoned [l] x
  have ht : closeLane l s = reviewBlind false (shutLane l (abandonLanes [l] x)) := rfl
  have hheld : ∀ id, id ∈ heldIn x [l] ↔ Held s.las[l] id := fun id => by
    rw [mem_heldIn]
    simp only [List.mem_singleton, exists_eq_left]
    exact Iff.rfl
  have hawaited : ∀ p ∈ s.las[l].pendingList, p.awaits ∈ awaitedIn x [l] := fun p hp =>
    (mem_awaitedIn x [l] p.awaits).mpr ⟨l, List.mem_singleton_self l, p, hp, rfl⟩
  rw [ht]
  generalize abandonLanes [l] x = y at hab
  have hempty : y.las[l] = emptyLas s.las[l] := hab.emptied l (List.mem_singleton_self l)
  have hshut := shutLane_shut (l := l) (s := y) (by rw [hempty]; rfl)
  have hsame := shutLane_same l y
  generalize shutLane l y = z at hshut hsame
  have hblind := reviewBlind_same false z
  have hmoves := reviewBlind_deckMoves false z
  have hfind : ∀ id, findRec z id = findRec y id := fun id => by rw [findRec, hshut.rtb, ← findRec]
  have hback : ∀ id v, findRec (reviewBlind false z) id = some v → ∃ r a, findRec y id = some r ∧ v = { r with admission := a } := fun id v hv => by
    obtain ⟨r, a, hr, rfl⟩ := hmoves.records id v hv
    exact ⟨r, a, (hfind id).symm.trans hr, rfl⟩
  have hlas : ∀ k : Lane, ∃ ps, (reviewBlind false z).las[k] = { y.las[k] with pendingList := ps } ∧ ∀ p ∈ ps, p ∈ y.las[k].pendingList := fun k => by
    have h := hmoves.las k
    rwa [hshut.las] at h
  refine ⟨?_, ?_, ?_, fun id hid => ?_, fun hs id hid r hr => ?_, fun p hp v hv => ?_, fun k p hp hid => ?_, fun k p hp hid v hv => ?_, fun c => ?_,
    fun m hm => ?_, ?_, ?_⟩
  · exact hmoves.aside.closed.trans (hshut.aside.closed.trans hab.aside.closed)
  · exact hmoves.answers.trans (hshut.aside.answers.trans hab.aside.answers)
  · obtain ⟨ps, hk, hps⟩ := hlas l
    rw [hempty] at hk hps
    have hnil : ps = [] := List.eq_nil_iff_forall_not_mem.mpr fun p hp => List.not_mem_nil (hps p hp)
    rw [hk, hnil]
    rfl
  · exact hmoves.gone id ((hfind id).trans (hab.gone id ((hheld id).mpr hid)))
  · have hin := hab.history hs id ((hheld id).mpr hid) r hr
    rw [← hshut.rtb] at hin
    refine hmoves.kept ?_ _ hin
    rw [hshut.rtb]
    exact hab.size.trans hs
  · obtain ⟨r, a, hr, rfl⟩ := hback _ _ hv
    exact hab.suspect _ (hawaited p hp) r hr
  · obtain ⟨ps, hk, hps⟩ := hlas k
    rw [hk] at hp
    exact hab.unawaited k p (hps p hp) ((hheld _).mpr hid)
  · obtain ⟨r, a, hr, rfl⟩ := hback _ _ hv
    exact hab.decided k p hp ((hheld _).mpr hid) r hr
  · rw [hblind.scu, hshut.scu, hab.same.scu]
    rfl
  · rw [hblind.zsc] at hm
    exact (hshut.meas m hm).2
  · rw [reviewBlind_blind]
    exact (blindNow_congr (congrArg SstState.live hblind.sst) hblind.liu hmoves.aside.closed).symm
  · have hx : SameD s x := ⟨rfl, rfl, rfl, rfl, rfl, rfl, rfl⟩
    exact hx.trans (hab.same.toD.trans (hsame.trans hblind.toC.toD))

section Requests

variable {r : Request} {l : Lane} {s : State} (hl : l.val = byteAt r.payload 0)

include hl

theorem answerLaneClose_unchanged (h : s.sst.live.site.laneCount ≤ l.val ∨ s.cmn.closedMark[l] = true) : answerLaneClose r s = accept r s := by
  have hshut : (!lanePresent s.sst.live l || s.cmn.closedMark[l]) = true := by
    rw [Bool.or_eq_true]
    exact h.imp_left fun hc => by rw [lanePresent, decide_eq_false (not_lt.mpr hc)]; rfl
  rw [answerLaneClose, laneAt_of_val hl]
  simp only [hshut, if_true]

theorem answerLaneClose_closes (h : l.val < s.sst.live.site.laneCount) (hm : s.cmn.closedMark[l] = false) :
    answerLaneClose r s = accept r (closeLane l s) := by
  have hp : lanePresent s.sst.live l = true := decide_eq_true h
  rw [answerLaneClose, laneAt_of_val hl]
  simp only [hp, hm, Bool.not_true, Bool.or_false, Bool.false_eq_true, if_false]

end Requests

end Sys2Proof.Machine

namespace Sys2Proof.Proofs

open Sys2Proof.Machine
open Sys2Proof.Safety

/-- Settles O49: the answer where nothing changes, and the closing by its parts. -/
theorem laneCloses : Obligations.LaneCloses := by
  unfold Obligations.LaneCloses
  intro r s h hl
  refine ⟨_, serve_open h (by simp [hl]), fun hlarge => ?_, fun l hlane => ⟨fun hshut => ?_, fun hpresent hmark => ?_⟩⟩
  · rw [answerLaneClose, laneAt_of_large hlarge]
    exact refuse_of_asks h .badValue
  · rw [answerLaneClose_unchanged (s := dropRequest s) hlane hshut]
    exact reply_of_asks h rfl .ok .empty
  · intro held
    rw [answerLaneClose_closes (s := dropRequest s) hlane hpresent hmark]
    have hclosed := closeLane_closed l (dropRequest s)
    have hkeeps := closeLane_keeps l (dropRequest s)
    have hreplied := reply_replied r .ok .empty fun hc => hkeeps.behind.trans (h.queues.held (hkeeps.held ▸ hc))
    generalize closeLane l (dropRequest s) = u at hclosed hkeeps hreplied
    rw [show settle (accept r u) = settle (reply r .ok .empty u) from rfl]
    generalize settle (reply r .ok .empty u) = t at hreplied
    have hsst : t.sst.live = s.sst.live := (hreplied.same (·.sst.live) fun _ => rfl).trans (congrArg SstState.live hclosed.same.sst)
    have hscu : ∀ c : Chan, t.scu[c] = _ := fun c => (hreplied.same (fun u => u.scu[c]) fun _ => rfl).trans (hclosed.scu c)
    have hmarks : t.cmn.closedMark = put s.cmn.closedMark l true := (hreplied.same (·.cmn.closedMark) fun _ => rfl).trans hclosed.marks
    have hblind : t.dkc.blind = u.dkc.blind := (congrArg DkcState.blind hreplied.dkc :)
    have hlas : t.las = u.las := hreplied.same State.las fun _ => rfl
    have hrtb : t.rtb = u.rtb := hreplied.rtb
    have hzsc : t.zsc = u.zsc := hreplied.same State.zsc fun _ => rfl
    have hempty : t.las[l] = emptyLas s.las[l] := (congrArg (fun v : Vector LasState 3 => v[l]) hlas).trans hclosed.emptied
    have hfind : ∀ id, findRec t id = findRec u id := fun id => by rw [findRec, hrtb, ← findRec]
    refine ⟨hreplied.formed, hreplied.requests.trans hkeeps.requests, hreplied.answers.trans (congrArg (· ++ _) hclosed.answers), hmarks, ?_,
      by rw [hempty]; rfl, by rw [hempty]; rfl, by rw [hempty]; rfl, by rw [hempty]; rfl, by rw [hempty]; rfl, by rw [hempty]; rfl,
      by rw [hempty]; rfl, fun id hid => ⟨?_, fun hs hin => ?_⟩, fun p hp x hx => ?_, fun k p hp => ?_, fun k p hp hid x hx => ?_, fun c hc => ?_,
      fun c hc => ?_, fun m hm => ?_, ?_, ?_, ?_, hsst, ?_⟩
    · rw [hreplied.formed.modes l]
      refine laneModeOf_closed (.inr ?_)
      rw [hmarks, put_getElem_self]
    · exact (hfind id).trans (hclosed.gone id hid)
    · obtain ⟨v, hv⟩ := Option.ne_none_iff_exists'.mp hin
      exact ⟨_, hrtb ▸ hclosed.history hs id hid v hv, findRec_id hv, rfl, rfl⟩
    · exact hclosed.suspect p hp x ((hfind _).symm.trans hx)
    · rw [hlas] at hp
      exact hclosed.unawaited k p hp
    · exact hclosed.decided k p hp hid x ((hfind _).symm.trans hx)
    · rw [hscu, if_pos hc]
      exact ⟨rfl, rfl, rfl⟩
    · rw [hscu, if_neg hc]
      rfl
    · rw [hzsc] at hm
      exact hclosed.meas m hm
    · rw [hblind, hclosed.blind]
      exact (blindNow_congr (hreplied.same (·.sst.live) fun _ => rfl) (hreplied.same State.liu fun _ => rfl)
        (hreplied.same (·.cmn.closedMark) fun _ => rfl)).symm
    · exact hreplied.tbu.trans hclosed.same.tbu
    · exact (hreplied.same State.csq fun _ => rfl).trans hclosed.same.csq
    · exact (hreplied.same State.rtk fun _ => rfl).trans hclosed.same.rtk

end Sys2Proof.Proofs
end

section
/-! SUPPORT. Proofs about the starts: what every block takes at a cold and at a warm start, and the reports that follow (R166, R181, R182). -/

namespace Sys2Proof.Machine

open Sys2Proof.Safety

/-! ### The reports of a start -/

/-- The START report, and in SAFE mode the DECK report of START_SAFE. -/
def startedReports (warm : Bool) (s : State) : List Report :=
  .start warm s.cmn.safeFlag s.sst.liveGen s.tbu.time :: if s.cmn.safeFlag = true then [deckReport none .startSafe s] else []

theorem startReports_places (warm : Bool) (s : State) : Places (startedReports warm s) s (startReports warm s) := by
  have hstart := placeReport_places (.start warm s.cmn.safeFlag s.sst.liveGen s.tbu.time) s
  have hflag : (placeReport (.start warm s.cmn.safeFlag s.sst.liveGen s.tbu.time) s).cmn.safeFlag = s.cmn.safeFlag :=
    hstart.same (·.cmn.safeFlag) fun _ => rfl
  have hreport : deckReport none .startSafe (placeReport (.start warm s.cmn.safeFlag s.sst.liveGen s.tbu.time) s) = deckReport none .startSafe s :=
    hstart.same (deckReport none .startSafe) fun _ => rfl
  have hcases : startReports warm s = if (placeReport (.start warm s.cmn.safeFlag s.sst.liveGen s.tbu.time) s).cmn.safeFlag then
      placeReport (deckReport none .startSafe (placeReport (.start warm s.cmn.safeFlag s.sst.liveGen s.tbu.time) s))
        (placeReport (.start warm s.cmn.safeFlag s.sst.liveGen s.tbu.time) s)
      else placeReport (.start warm s.cmn.safeFlag s.sst.liveGen s.tbu.time) s := rfl
  rw [hcases, hflag, hreport, startedReports]
  by_cases hsafe : s.cmn.safeFlag = true
  · rw [if_pos hsafe, if_pos hsafe]
    exact hstart.trans (placeReport_places _ _)
  · rw [if_neg hsafe, if_neg hsafe]
    exact hstart

/-! ### COLD_START (R181) -/

/-- A cold start on the image that the store holds. -/
def startCold (s : State) : State :=
  let s1 := startReports false (startBlind (coldBlocks s))
  if s1.cmn.safeFlag then giveFault storeFaultIx 0 s1 else s1

theorem cutWrite_idle {s : State} (h : s.sst.storeBusy = false) : cutWrite s = s := if_neg (by rw [h]; decide)

/-- The state of a cold start before its reports, the blind condition formed. -/
def coldState (s : State) : State := startBlind (coldBlocks s)

/-- STORE_FAULT's entry after a cold start. -/
def coldEntry (s : State) : CondEntry :=
  if s.sst.imageGood = true then CondEntry.initial else ⟨.fault, 1, some 0, some 0, true, none, false⟩

/-- The reports of a cold start. -/
def coldReports (s : State) : List Report :=
  if s.sst.imageGood = true then [.start false false 1 0]
  else [.start false true 0 0, .deck ⟨.closed, none, .startSafe, .allStop, 0, 0, 0, 0⟩,
    .condition ⟨storeFaultIx, .fault, .clear, 1, some 0, some 0, 0⟩]

theorem put_replicate {α : Type} {n : Nat} (i : Fin n) (x : α) : put (Vector.replicate n x) i x = Vector.replicate n x := by
  have h := put_self (Vector.replicate n x) i
  rwa [show (Vector.replicate n x)[i] = x from Vector.getElem_replicate i.isLt] at h

theorem coldState_conds (s : State) (ix : CondIx) : (coldState s).cmn.conds[ix] = CondEntry.initial := Vector.getElem_replicate ix.isLt

theorem coldState_flag (s : State) : (coldState s).cmn.safeFlag = !s.sst.imageGood := rfl

theorem coldState_gen (s : State) : (coldState s).sst.liveGen = if !s.sst.imageGood then 0 else 1 := rfl

theorem coldState_deck (s : State) : (coldState s).dkc.st = if !s.sst.imageGood then .closed else .resync := rfl

theorem startCold_places (s : State) : Places (coldReports s) (withEntry storeFaultIx (coldEntry s) (coldState s)) (startCold s) := by
  have hplaces := startReports_places false (coldState s)
  have hflag : (startReports false (coldState s)).cmn.safeFlag = !s.sst.imageGood := hplaces.same (·.cmn.safeFlag) fun _ => rfl
  have hcold : startCold s = if (startReports false (coldState s)).cmn.safeFlag then giveFault storeFaultIx 0 (startReports false (coldState s))
      else startReports false (coldState s) := rfl
  rw [hcold, hflag]
  by_cases hgood : s.sst.imageGood = true
  · have hself : withEntry storeFaultIx CondEntry.initial (coldState s) = coldState s := by
      rw [← coldState_conds s storeFaultIx]
      exact withEntry_self _ _
    have hreports : startedReports false (coldState s) = [.start false false 1 0] := by
      rw [startedReports, coldState_flag, coldState_gen, hgood]
      rfl
    rw [coldReports, coldEntry, if_pos hgood, if_pos hgood, hself, if_neg (by rw [hgood]; decide), ← hreports]
    exact hplaces
  · have hbad : s.sst.imageGood = false := Bool.eq_false_iff.mpr hgood
    have hdeck : (coldState s).dkc.st = .closed := by
      rw [coldState_deck, hbad]
      rfl
    have hreports : startedReports false (coldState s) = [.start false true 0 0, .deck ⟨.closed, none, .startSafe, .allStop, 0, 0, 0, 0⟩] := by
      have hsignal : signalOf (coldState s) = .allStop := signalOf_allStop (.inr (.inr (.inr (.inl hdeck))))
      rw [startedReports, coldState_flag, coldState_gen, hbad, deckReport, hdeck, hsignal]
      rfl
    have hfault := hplaces.caused storeFaultIx true 0
    have hchange : changeReports storeFaultIx (causedEntry true 0 CondEntry.initial) (coldState s) =
        [.condition ⟨storeFaultIx, .fault, .clear, 1, some 0, some 0, 0⟩] := by
      rw [changeReports, coldState_conds]
      rfl
    rw [coldState_conds, hreports] at hfault
    rw [coldReports, coldEntry, if_neg hgood, if_neg hgood, if_pos (by rw [hbad]; rfl)]
    exact hchange ▸ hfault

/-- What a start that cuts a store write short leaves of the image: a bad one, the new one, or the old one with its checksum (log entry 9). -/
theorem cutWrite_image {s : State} {w : Settings} (hbusy : s.sst.storeBusy = true) (hw : s.sst.working = some w) :
    (cutWrite s).sst.imageGood = false ∨ ((cutWrite s).sst.image = w ∧ (cutWrite s).sst.imageGood = true) ∨
    ((cutWrite s).sst.image = s.sst.image ∧ (cutWrite s).sst.imageGood = s.sst.imageGood ∧ (cutWrite s).sst.checksum = s.sst.checksum) := by
  rw [cutWrite, if_pos hbusy, hw]
  dsimp only
  split
  · exact .inl rfl
  · exact .inr (.inr ⟨rfl, rfl, rfl⟩)
  · exact .inr (.inl ⟨rfl, rfl⟩)

/-- A start that cuts a store write short changes the image, and takes a free value. -/
theorem cutWrite_rest (s : State) : ∃ image good checksum free, cutWrite s = { s with
    sst := { s.sst with image := image, imageGood := good, checksum := checksum }, freeIndex := free } := by
  rw [cutWrite]
  split
  · dsimp only
    split
    all_goals exact ⟨_, _, _, _, rfl⟩
  · exact ⟨_, _, _, _, rfl⟩

theorem exec_coldStart (s : State) : exec .coldStart s = .next (settle (startCold (cutWrite s))) := rfl

end Sys2Proof.Machine

namespace Sys2Proof.Proofs

open Sys2Proof.Machine
open Sys2Proof.Safety

/-- Settles O59: the state that every block takes, and for a write cut short the three images that the free value may leave. -/
theorem coldStart : Obligations.ColdStart := by
  unfold Obligations.ColdStart
  refine ⟨fun s hidle => ?_, fun w s hbusy hw => ?_⟩
  · have hrep : ReportedFrom _ _ (settle (startCold s)) := placed_settled (startCold_places s).toPlacedFrom
    have hexec := exec_coldStart s
    rw [cutWrite_idle hidle] at hexec
    generalize settle (startCold s) = t at hrep hexec
    have hsame : ∀ {α : Type} (f : State → α), (∀ u, f (sansLink (sansOutputs u)) = f u) →
        f t = f (withEntry storeFaultIx (coldEntry s) (coldState s)) := reported_same hrep
    have hconds : t.cmn.conds = put (Vector.replicate 65 CondEntry.initial) storeFaultIx (coldEntry s) := hsame (·.cmn.conds) fun _ => rfl
    have hlive : t.sst.live = coldSettings s := hsame (·.sst.live) fun _ => rfl
    have hmode : t.cmn.mode = if !s.sst.imageGood then .safe else .normal := hsame (·.cmn.mode) fun _ => rfl
    have hgen : t.sst.liveGen = if !s.sst.imageGood then 0 else 1 := hsame (·.sst.liveGen) fun _ => rfl
    have hflag : t.cmn.safeFlag = !s.sst.imageGood := hsame (·.cmn.safeFlag) fun _ => rfl
    have hdeck : t.dkc.st = if !s.sst.imageGood then .closed else .resync := hsame (·.dkc.st) fun _ => rfl
    have htimer : t.dkc.timer = if !s.sst.imageGood then none else some (after 0 (secs (coldSettings s).deck.resyncTime)) :=
      hsame (·.dkc.timer) fun _ => rfl
    have hreports : reportPath t = coldReports s := by
      have hroom : (coldReports s).length ≤ 32 := by
        rw [coldReports]
        split <;> decide
      exact (hrep.reports (by rw [show (withEntry storeFaultIx (coldEntry s) (coldState s)).lki.reports = [] from rfl]; simpa using hroom)).1
    refine ⟨t, hexec, hrep.formed, hsame State.tbu fun _ => rfl, hsame State.rtb fun _ => rfl, hrep.requests, hrep.answers,
      hsame (·.lki.heldCommit) fun _ => rfl, hsame (·.lki.coldInd) fun _ => rfl, hsame (·.lki.lastWarm) fun _ => rfl,
      hsame (·.dkc.queue) fun _ => rfl, hsame (·.dkc.grants) fun _ => rfl, hsame (·.dkc.grantTimes) fun _ => rfl,
      hsame (·.dkc.onDeck) fun _ => rfl, hsame (·.dkc.committed) fun _ => rfl, fun l => ?_, hsame (·.liu.pins) fun _ => rfl,
      hsame (·.sst.image) fun _ => rfl, hsame (·.sst.working) fun _ => rfl, hsame State.pending fun _ => rfl, fun hgood => ?_, fun hbad => ?_⟩
    · have hlas : t.las[l] = startLas := (hsame (fun u => u.las[l]) fun _ => rfl).trans (Vector.getElem_replicate l.isLt)
      have hlist : t.dkc.lists[l] = [] := (hsame (fun u => u.dkc.lists[l]) fun _ => rfl).trans (Vector.getElem_replicate l.isLt)
      rw [hlas]
      exact ⟨rfl, rfl, hlist⟩
    · have hsettings : coldSettings s = s.sst.image := if_pos hgood
      rw [coldEntry, if_pos hgood] at hconds
      rw [coldReports, if_pos hgood] at hreports
      rw [hgood] at hmode hgen hflag hdeck htimer
      rw [hsettings] at hlive htimer
      refine ⟨hlive, hgen, hmode, hflag, hdeck, htimer.trans (congrArg some (BitVec.zero_add _)), hconds.trans ?_, hreports, fun c => ?_⟩
      · exact put_replicate storeFaultIx CondEntry.initial
      · have hchan : t.zsc.chans[c] = (startZsc (coldSettings s)).chans[c] := hsame (fun u => u.zsc.chans[c]) fun _ => rfl
        rw [hchan, hsettings]
        exact congrArg ZeroChan.baseline (Vector.getElem_ofFn c.isLt)
    · have hnot : ¬ s.sst.imageGood = true := by rw [hbad]; decide
      have hsettings : coldSettings s = blankSettings := if_neg hnot
      rw [coldEntry, if_neg hnot] at hconds
      rw [coldReports, if_neg hnot] at hreports
      rw [hbad] at hmode hgen hflag hdeck htimer
      exact ⟨hlive.trans hsettings, hgen, hmode, hflag, hdeck, htimer, hconds, hreports⟩
  · have hrep : ReportedFrom _ _ (settle (startCold (cutWrite s))) := placed_settled (startCold_places (cutWrite s)).toPlacedFrom
    have hexec := exec_coldStart s
    have himage := cutWrite_image hbusy hw
    generalize cutWrite s = u at hrep hexec himage
    generalize settle (startCold u) = t at hrep hexec
    have hsame : ∀ {α : Type} (f : State → α), (∀ u, f (sansLink (sansOutputs u)) = f u) →
        f t = f (withEntry storeFaultIx (coldEntry u) (coldState u)) := reported_same hrep
    have hlive : t.sst.live = coldSettings u := hsame (·.sst.live) fun _ => rfl
    have hmode : t.cmn.mode = if !u.sst.imageGood then .safe else .normal := hsame (·.cmn.mode) fun _ => rfl
    have hgen : t.sst.liveGen = if !u.sst.imageGood then 0 else 1 := hsame (·.sst.liveGen) fun _ => rfl
    have hflag : t.cmn.safeFlag = !u.sst.imageGood := hsame (·.cmn.safeFlag) fun _ => rfl
    have hdeck : t.dkc.st = if !u.sst.imageGood then .closed else .resync := hsame (·.dkc.st) fun _ => rfl
    refine ⟨t, hexec, hrep.formed, hsame (·.sst.storeBusy) fun _ => rfl, hsame State.tbu fun _ => rfl, ?_⟩
    by_cases hgood : u.sst.imageGood = true
    · rw [coldSettings, if_pos hgood] at hlive
      rw [hgood] at hmode hgen hflag hdeck himage
      refine .inr ⟨hflag, hmode, hgen, hdeck, ?_⟩
      rcases himage with hbad | ⟨hnew, -⟩ | ⟨hold, holdGood, -⟩
      · cases hbad
      · exact .inr (hlive.trans hnew)
      · exact .inl ⟨hlive.trans hold, holdGood.symm⟩
    · rw [coldSettings, if_neg hgood] at hlive
      rw [Bool.eq_false_iff.mpr hgood] at hmode hflag hdeck
      exact .inl ⟨hflag, hmode, hlive, hdeck⟩

end Sys2Proof.Proofs
end

section
/-! SUPPORT. Proofs about the warm start: its reports behind START, the entries that it renews, and the settling of what is kept (R166, R182). -/

namespace Sys2Proof.Machine

open Sys2Proof.Safety

/-- While a report is in transmission further ones wait behind it. -/
theorem placeReport_sending {s : State} {x : TxFrame} (h : s.lki.tx = some x) (r : Report) : (placeReport r s).lki.tx = some x := by
  have htx : (enqueueReport r s).lki.tx = some x := by
    rw [enqueueReport]
    split
    · exact h
    · exact h
  rw [placeReport, kick, if_pos (by rw [htx]; rfl)]
  exact htx

/-- On an idle link a report is sent at once. -/
theorem placeReport_idle {s : State} (htx : s.lki.tx = none) (hdue : s.lki.warmDue = false) (hready : s.lki.ready = []) (hreports : s.lki.reports = [])
    (r : Report) : (placeReport r s).lki.tx = some (.report r) := by
  have hqueued : enqueueReport r s = { s with lki.reports := [r] } := by
    rw [enqueueReport, hreports]
    rfl
  rw [placeReport, hqueued, kick]
  simp only [htx, hdue, hready, Option.isSome_none, Bool.or_false, Bool.false_eq_true, if_false]

/-- Reports placed behind one in transmission, however many. -/
structure Behind (s t : State) : Prop where
  placed  : ∃ rs, Places rs s t
  sending : ∀ x, s.lki.tx = some x → t.lki.tx = some x

theorem Behind.refl (s : State) : Behind s s := ⟨⟨[], .refl s⟩, fun _ h => h⟩

theorem Behind.trans {s t u : State} (h : Behind s t) (k : Behind t u) : Behind s u := by
  obtain ⟨rs, hrs⟩ := h.placed
  obtain ⟨qs, hqs⟩ := k.placed
  exact ⟨⟨rs ++ qs, hrs.trans hqs⟩, fun x hx => k.sending x (h.sending x hx)⟩

theorem placeReport_behind (r : Report) (s : State) : Behind s (placeReport r s) :=
  ⟨⟨[r], placeReport_places r s⟩, fun _ hx => placeReport_sending hx r⟩

theorem warmCondReports_behind (old : Vector CondEntry 65) (ixs : List CondIx) (s : State) : Behind s (ixs.foldl (warmCondReport old) s) := by
  induction ixs generalizing s with
  | nil => exact .refl s
  | cons ix ixs ih =>
    refine Behind.trans ?_ (ih _)
    rw [warmCondReport]
    split
    · exact placeReport_behind _ s
    · exact .refl s

/-- The state of a warm start before its reports, the blind condition formed. -/
def warmState (s : State) : State := startBlind (warmBlocks s)

theorem startCmn_safeFlag (st : Settings) (safe : Bool) (conds : Vector CondEntry 65) (mask : Vector MaskValue 17) :
    (startCmn st safe conds mask).safeFlag = safe := rfl

theorem startCmn_mask (st : Settings) (safe : Bool) (conds : Vector CondEntry 65) (mask : Vector MaskValue 17) :
    (startCmn st safe conds mask).mask = mask := rfl

/-- A warm start keeps safe flag and masks, and renews the entries. -/
theorem warmState_cmn (s : State) : (warmState s).cmn =
    startCmn s.sst.live s.cmn.safeFlag (Vector.ofFn fun i => warmCond i s.cmn.conds[i]) s.cmn.mask := rfl

theorem startReports_behind (s : State) : Behind (placeReport (.start true s.cmn.safeFlag s.sst.liveGen s.tbu.time) s) (startReports true s) := by
  unfold startReports
  dsimp only
  split
  · exact placeReport_behind _ _
  · exact .refl _

/-- A warm start on the image that the store holds: START is sent, and all other reports wait behind it. -/
theorem warmStart_behind (s : State) : Behind (placeReport (.start true (warmState (cutWrite s)).cmn.safeFlag (warmState (cutWrite s)).sst.liveGen 0)
    (warmState (cutWrite s))) (warmStart s) :=
  (startReports_behind (warmState (cutWrite s))).trans (warmCondReports_behind _ _ _)

end Sys2Proof.Machine

namespace Sys2Proof.Proofs

open Sys2Proof.Machine
open Sys2Proof.Safety

/-- Settles O60: the state that every block takes, with START sent before the other reports. -/
theorem warmStartKeeps : Obligations.WarmStartKeeps := by
  unfold Obligations.WarmStartKeeps
  intro s hdue htx
  obtain ⟨image, good, checksum, free, hcut⟩ := cutWrite_rest s
  have hbehind := warmStart_behind s
  have hexec : exec .warmStart s = .next (settle (warmStart s)) := when'_due (by rw [warmStartDue, hdue, htx]; rfl) s _
  have himage := fun w (hbusy : s.sst.storeBusy = true) (hw : s.sst.working = some w) => cutWrite_image hbusy hw
  have hidle : s.sst.storeBusy = false → cutWrite s = s := cutWrite_idle
  have hsent := placeReport_idle (s := warmState (cutWrite s)) rfl rfl rfl rfl (.start true (warmState (cutWrite s)).cmn.safeFlag (warmState (cutWrite s)).sst.liveGen 0)
  have htx := hbehind.sending _ hsent
  obtain ⟨rs, hrs⟩ := hbehind.placed
  have hplaced := (placeReport_places _ _).trans hrs
  generalize warmStart s = z at hexec hplaced htx
  generalize cutWrite s = u at hplaced hidle himage htx hcut
  have hrep := placed_settled hplaced.toPlacedFrom
  have hpath : reportPath (settle z) = reportPath z := settled_same z reportPath fun _ => rfl
  generalize settle z = t at hrep hpath hexec
  have hsame : ∀ {α : Type} (f : State → α), (∀ u, f (sansLink (sansOutputs u)) = f u) → f t = f (warmState u) := reported_same hrep
  have hgen : u.sst.liveGen = s.sst.liveGen := by rw [hcut]
  have hrtb : u.rtb = s.rtb := by rw [hcut]
  have hcmn : u.cmn = s.cmn := by rw [hcut]
  have hlive : t.sst.live = u.sst.live := hsame (·.sst.live) fun _ => rfl
  have hlivegen : t.sst.liveGen = u.sst.liveGen := hsame (·.sst.liveGen) fun _ => rfl
  have hcold : t.lki.coldInd = u.lki.coldInd := hsame (·.lki.coldInd) fun _ => rfl
  have hpins : t.liu.pins = u.liu.pins := hsame (·.liu.pins) fun _ => rfl
  have hmode : t.cmn.mode = if u.cmn.safeFlag then .safe else .normal := hsame (·.cmn.mode) fun _ => rfl
  have hdeck : t.dkc.st = if u.cmn.safeFlag then .closed else .resync := hsame (·.dkc.st) fun _ => rfl
  have htable : t.rtb = ⟨[], Vector.replicate 3 [], u.rtb.history, u.rtb.nextId⟩ := hsame State.rtb fun _ => rfl
  have hcmns : t.cmn.safeFlag = (warmState u).cmn.safeFlag ∧ t.cmn.mask = (warmState u).cmn.mask :=
    ⟨hsame (·.cmn.safeFlag) fun _ => rfl, hsame (·.cmn.mask) fun _ => rfl⟩
  rw [warmState_cmn, startCmn_safeFlag, startCmn_mask] at hcmns
  obtain ⟨hflag, hmask⟩ := hcmns
  have hcond : ∀ ix : CondIx, t.cmn.conds[ix] = warmCond ix u.cmn.conds[ix] := fun ix =>
    (hsame (fun v => v.cmn.conds[ix]) fun _ => rfl).trans (Vector.getElem_ofFn ix.isLt)
  rw [hcmn] at hmode hdeck hflag hmask hcond
  rw [hrtb] at htable
  refine ⟨t, hexec, hrep.formed, hsame State.tbu fun _ => rfl, hlive.trans (by rw [hcut]), hlivegen.trans hgen,
    hrep.retained, hsame (·.sst.working) fun _ => rfl,
    hsame (·.sst.storeBusy) fun _ => rfl, hsame (·.lki.heldCommit) fun _ => rfl, fun h => ?_, fun w hbusy hw => ?_, htable,
    hflag, hmode, hmask, hdeck, hsame (·.dkc.queue) fun _ => rfl,
    hsame (·.dkc.grants) fun _ => rfl, fun ix => ?_, ?_, hrep.requests, hrep.answers, hcold.trans (by rw [hcut]),
    hsame (·.lki.lastWarm) fun _ => rfl, hsame (·.lki.warmDue) fun _ => rfl, hpins.trans (by rw [hcut]),
    fun l => ⟨?_, ?_⟩⟩
  · rw [hsame (·.sst.image) fun _ => rfl, hsame (·.sst.imageGood) fun _ => rfl, hsame (·.sst.checksum) fun _ => rfl, hidle h]
    exact ⟨rfl, rfl, rfl⟩
  · have himages := himage w hbusy hw
    rw [hsame (·.sst.image) fun _ => rfl, hsame (·.sst.imageGood) fun _ => rfl, hsame (·.sst.checksum) fun _ => rfl]
    exact himages
  · rw [hcond, warmCond]
    simp only [Bool.and_eq_true, Bool.or_eq_true, beq_iff_eq]
    rfl
  · have hstart : (reportPath t).head? = some (.start true u.cmn.safeFlag u.sst.liveGen 0) := by
      rw [hpath, reportPath, htx, warmState_cmn, startCmn_safeFlag]
      rfl
    rw [hstart, hcmn, hgen]
  · rw [hsame (fun u => u.las[l]) fun _ => rfl]
    exact congrArg LasState.fifo (Vector.getElem_replicate l.isLt)
  · rw [hsame (fun u => u.dkc.lists[l]) fun _ => rfl]
    exact Vector.getElem_replicate l.isLt

end Sys2Proof.Proofs
end

section
/-! SUPPORT. Proofs about the strip detectors and the Trace Store: what a sample does in each detector state, the records that a stored pulse
pushes out, and the joining of vehicle ids (R27 to R32, R60, R167 to R169). -/

namespace Sys2Proof.Machine

open Sys2Proof.Safety

/-! ### The detectors (R27 to R32) -/

/-- The state with the Strip Channel Unit of channel c given. -/
def withScu (c : Chan) (v : ScuState) (s : State) : State := { s with scu := put s.scu c v }

theorem changeScu_eq (c : Chan) (f : ScuState → ScuState) (s : State) : changeScu c f s = withScu c (f s.scu[c]) s := rfl

theorem withScu_scu (c : Chan) (v : ScuState) (s : State) : (withScu c v s).scu[c] = v := put_getElem_self _ _ _

theorem withScu_withScu (c : Chan) (v w : ScuState) (s : State) : withScu c w (withScu c v s) = withScu c w s := by
  rw [withScu, withScu, withScu, put_put]

theorem changeScu_withScu (c : Chan) (f : ScuState → ScuState) (v : ScuState) (s : State) :
    changeScu c f (withScu c v s) = withScu c (f v) s := by
  rw [changeScu_eq, withScu_scu, withScu_withScu]

theorem pulseOver_eq (c : Chan) (s : State) : pulseOver c s = if c.val % 2 = 1 then s2DetectorLeft (chanLane c) s else s := by
  simp only [pulseOver, isS2, beq_iff_eq]

theorem handHit_eq (c : Chan) (h : Hit) (s : State) :
    handHit c h s = if c.val % 2 = 1 then takeS2 (chanLane c) h s else takeS1 (chanLane c) h s := by
  simp only [handHit, isS2, beq_iff_eq]

/-- A unit whose pulse is stuck. -/
def stuckScu (v : ScuState) : ScuState := { v with det := .stuck, stuckRun := min (v.stuckRun + 1) 255 }

/-- A pulse becomes stuck: the run's cause is placed behind the ABORTED record, and then what waited is let go. -/
theorem stickPulse_places (c : Chan) (v : ScuState) (s : State) :
    let e := causedEntry (decide (3 ≤ min (v.stuckRun + 1) 255)) s.tbu.time s.cmn.conds[stuckIx c]
    ∃ y, PlacedFrom (changeReports (stuckIx c) e s)
        (withEntry (stuckIx c) e (storePulse c v.start true (v.span.take v.cfg.pulseMax) (withScu c (stuckScu v) s))) y ∧
      stickPulse c (withScu c v s) = pulseOver c y := by
  intro e
  obtain ⟨trs, htrs⟩ := storePulse_trs c v.start true (v.span.take v.cfg.pulseMax) (withScu c (stuckScu v) s)
  let x : State := { withScu c (stuckScu v) s with trs := trs }
  rw [htrs]
  refine ⟨giveGraded (stuckIx c) (3 ≤ min (v.stuckRun + 1) 255) s.tbu.time x, (giveGraded_places (stuckIx c) _ s.tbu.time x).toPlacedFrom, ?_⟩
  have hstick : stickPulse c (withScu c v s) = pulseOver c (giveGraded (stuckIx c) (3 ≤ min (v.stuckRun + 1) 255)
      (storePulse c v.start true (v.span.take v.cfg.pulseMax) (withScu c (stuckScu v) s)).tbu.time
      (storePulse c v.start true (v.span.take v.cfg.pulseMax) (withScu c (stuckScu v) s))) := by
    rw [stickPulse, withScu_scu, changeScu_withScu]
    rfl
  rw [hstick, htrs]
  rfl

theorem judgeCount_withScu (c : Chan) (v : ScuState) (s : State) :
    judgeCount c (withScu c v s) = if v.cfg.pulseMax ≤ v.count then stickPulse c (withScu c v s) else withScu c v s := by
  rw [judgeCount, withScu_scu]

theorem judgeTail_withScu (c : Chan) (t : Time) (v : ScuState) (s : State) :
    judgeTail c t (withScu c v s) = if v.cfg.pulseRejoin + 1 ≤ v.tailSamples then endTail c t (withScu c v s) else withScu c v s := by
  rw [judgeTail, withScu_scu]

theorem endTail_withScu (c : Chan) (t : Time) (v : ScuState) (s : State) : endTail c t (withScu c v s) =
    if v.count < v.cfg.pulseMin then pulseOver c (withScu c (enterIdle s.sst.live.det v) s)
    else pulseOver c (handHit c ⟨v.start, v.area, v.cur, t⟩ (storePulse c v.start false v.span
      (withScu c { enterIdle s.sst.live.det v with prev := v.cur, cur := some v.start, stuckRun := 0 } s))) := by
  rw [endTail, reportHit]
  dsimp only
  rw [withScu_scu, changeScu_withScu, changeScu_withScu]
  rfl

/-! ### The Trace Store (R167, R168) -/

/-- The oldest records go, whole, until the room is there, and no more of them. -/
theorem makeRoom_drop (need : Nat) (rs : List TraceRecord) : ∃ n ≤ rs.length, makeRoom need rs = rs.drop n ∧
    (rs.drop n = [] ∨ ringWords (rs.drop n) + need ≤ 16384) ∧ ∀ m < n, 16384 < ringWords (rs.drop m) + need := by
  induction rs with
  | nil => exact ⟨0, le_rfl, rfl, .inl rfl, fun m hm => absurd hm (Nat.not_lt_zero m)⟩
  | cons r rs ih =>
    rw [makeRoom]
    by_cases hfit : ringWords (r :: rs) + need ≤ Config.traceWords
    · rw [if_pos hfit]
      exact ⟨0, Nat.zero_le _, rfl, .inr hfit, fun m hm => absurd hm (Nat.not_lt_zero m)⟩
    · rw [if_neg hfit]
      obtain ⟨n, hn, hroom, hkept, hleast⟩ := ih
      refine ⟨n + 1, Nat.succ_le_succ hn, hroom, hkept, fun m hm => ?_⟩
      cases m with
      | zero => exact Nat.not_le.mp hfit
      | succ m => exact hleast m (Nat.lt_of_succ_lt_succ hm)

theorem noticeFor_eq (s : State) (c : Chan) (start : Time) :
    noticeFor s c start = s.trs.notice[c].bind fun n => if n.1 = start then some n.2 else none := by
  rw [noticeFor]
  cases s.trs.notice[c] with
  | none => rfl
  | some n => simp only [beq_iff_eq, Option.bind_some]

section Join

variable {c : Chan} {start : Time} {id : Nat}

/-- Newest first: the records before the channel's newest are passed over. -/
theorem joinNewest_append {newer rs : List TraceRecord} (h : ∀ y ∈ newer, y.chan ≠ c) :
    joinNewest c start id (newer ++ rs) = (joinNewest c start id rs).map (newer ++ ·) := by
  induction newer with
  | nil => simp only [List.nil_append, Option.map_id']
  | cons y ys ih =>
    have hy : ¬ (y.chan == c) = true := fun hc => h y List.mem_cons_self (beq_iff_eq.mp hc)
    rw [List.cons_append, joinNewest, if_neg hy, ih fun z hz => h z (List.mem_cons_of_mem _ hz), Option.map_map]
    rfl

theorem joinNewest_fits {r : TraceRecord} {older : List TraceRecord} (hc : r.chan = c) (hfit : r.start = start ∧ r.vehicle = 0) :
    joinNewest c start id (r :: older) = some ({ r with vehicle := id } :: older) := by
  rw [joinNewest, if_pos (beq_iff_eq.mpr hc), if_pos (by rw [hfit.1, hfit.2, beq_self_eq_true]; rfl)]

/-- No record is joined where the channel's newest does not fit, or the channel has none. -/
theorem joinNewest_none {rs : List TraceRecord} (h : ∀ r, rs.find? (·.chan == c) = some r → ¬ (r.start = start ∧ r.vehicle = 0)) :
    joinNewest c start id rs = none := by
  induction rs with
  | nil => rfl
  | cons r rs ih =>
    rw [joinNewest]
    by_cases hc : (r.chan == c) = true
    · have hno := h r (List.find?_cons_of_pos hc)
      rw [if_pos hc, if_neg]
      rw [Bool.and_eq_true, beq_iff_eq, beq_iff_eq]
      exact hno
    · rw [if_neg hc, ih fun x hx => h x ((List.find?_cons_of_neg (p := fun x : TraceRecord => x.chan == c) hc).trans hx)]
      rfl

end Join

end Sys2Proof.Machine

namespace Sys2Proof.Proofs

open Sys2Proof.Machine
open Sys2Proof.Safety

/-- Settles O15: the sample by the detector's states and bounds, the stored pulse by the records it pushes out, and the notices by the newest
record of their channel. -/
theorem detectorTakesSample : Obligations.DetectorTakesSample := by
  unfold Obligations.DetectorTakesSample
  refine ⟨fun c time norm missing s => ?_, fun c start aborted span s => ?_, fun c start id s => ?_, fun id s => ?_⟩
  · intro u e on off capped miss t withUnit held more rejoined rested released stuck
    have hstuck : ∀ v : ScuState, v.start = u.start → v.cfg = u.cfg → v.stuckRun = u.stuckRun → t = stickPulse c (withScu c v s) → stuck v := by
      intro v hstart hcfg hrun ht
      obtain ⟨y, hplaced, hy⟩ := stickPulse_places c v s
      rw [hstart, hcfg, stuckScu, hrun] at hplaced
      exact ⟨y, hplaced, ht.trans (hy.trans (pulseOver_eq c y))⟩
    have hcounts : ∀ v : ScuState, v.start = u.start → v.cfg = u.cfg → v.stuckRun = u.stuckRun → t = judgeCount c (withScu c v s) →
        if v.count < u.cfg.pulseMax then t = withUnit v else stuck v := by
      intro v hstart hcfg hrun ht
      rw [judgeCount_withScu, hcfg] at ht
      split
      next hlt => exact ht.trans (if_neg (Nat.not_le.mpr hlt))
      next hge => exact hstuck v hstart hcfg hrun (ht.trans (if_pos (Nat.not_lt.mp hge)))
    refine ⟨fun hdet => ?_, fun hdet hlow => ?_, fun hdet hhigh => ?_, fun hdet hhigh => ?_, fun hdet hhigh => ?_, fun hlow => ?_,
      fun hdet hhigh => ?_, fun hdet hlow => ?_⟩
    · show detectorSample c time norm missing s = s
      rw [detectorSample, show s.scu[c].det = _ from hdet]
    · show detectorSample c time norm missing s = s
      rw [detectorSample, show s.scu[c].det = _ from hdet]
      exact if_neg (not_le.mpr hlow)
    · show detectorSample c time norm missing s = _
      rw [detectorSample, show s.scu[c].det = _ from hdet]
      exact (if_pos hhigh).trans (abandonLaneZero_eq (chanLane c) _)
    · refine hcounts more rfl rfl rfl ?_
      show detectorSample c time norm missing s = _
      rw [detectorSample, show s.scu[c].det = _ from hdet]
      exact if_pos hhigh
    · refine hcounts rejoined rfl rfl rfl ?_
      show detectorSample c time norm missing s = _
      rw [detectorSample, show s.scu[c].det = _ from hdet]
      exact if_pos hhigh
    · have htail : t = judgeTail c time (withScu c held s) := by
        show detectorSample c time norm missing s = _
        rcases hlow with ⟨hdet, hlow⟩ | ⟨hdet, hlow⟩
        · rw [detectorSample, show s.scu[c].det = _ from hdet]
          exact if_neg (not_le.mpr hlow)
        · rw [detectorSample, show s.scu[c].det = _ from hdet]
          exact if_neg (not_le.mpr hlow)
      rw [judgeTail_withScu] at htail
      refine ⟨fun hlt => htail.trans (if_neg (Nat.not_le.mpr (Nat.succ_lt_succ hlt))), fun hge => ?_⟩
      rw [if_pos (show held.cfg.pulseRejoin + 1 ≤ held.tailSamples from Nat.succ_le_succ hge), endTail_withScu] at htail
      refine ⟨fun hnoise => ?_, fun hhit => ?_⟩
      · exact htail.trans ((if_pos hnoise).trans (pulseOver_eq c _))
      · refine htail.trans ((if_neg (Nat.not_lt.mpr hhit)).trans ?_)
        rw [pulseOver_eq, handHit_eq]
        rfl
    · show detectorSample c time norm missing s = s
      rw [detectorSample, show s.scu[c].det = _ from hdet]
      exact if_pos hhigh
    · show detectorSample c time norm missing s = _
      rw [detectorSample, show s.scu[c].det = _ from hdet]
      exact if_neg (not_le.mpr hlow)
  · intro link words joined r t
    have hjoined : noticeFor s c start = joined := noticeFor_eq s c start
    refine ⟨fun h => ?_, fun hmode hheld hchan => ?_⟩
    · refine if_pos ?_
      rw [Bool.or_eq_true, Bool.or_eq_true, beq_iff_eq, Bool.not_eq_true', Option.isSome_iff_ne_none, or_assoc]
      exact h
    · obtain ⟨n, hn, hroom, hkept, hleast⟩ := makeRoom_drop (recordWords r) s.trs.ring
      have hnot : ¬ (link.traceMode == .off || s.trs.held.isSome || !link.traceCh[c]) = true := by
        rw [hheld, hchan, Option.isSome_none, Bool.or_false, Bool.not_true, Bool.or_false, beq_iff_eq]
        exact hmode
      refine ⟨⟨n, Nat.lt_succ_of_le hn⟩, ?_, hkept, fun m hm => hleast m hm⟩
      show storePulse c start aborted span s = _
      rw [storePulse]
      dsimp only
      rw [if_neg hnot, hjoined, show makeRoom (recordWords r) s.trs.ring = _ from hroom]
      rfl
  · intro fits
    refine ⟨fun older r newer hring hc hnewer hfit => ?_, fun hno => ?_⟩
    · have hrev : s.trs.ring.reverse = newer.reverse ++ r :: older.reverse := by
        rw [hring, List.reverse_append, List.reverse_cons, List.append_assoc]
        rfl
      rw [idNotice, hrev, joinNewest_append fun y hy => hnewer y (List.mem_reverse.mp hy), joinNewest_fits hc hfit]
      dsimp only [Option.map_some]
      rw [List.reverse_append, List.reverse_reverse, List.reverse_cons, List.reverse_reverse, List.append_assoc]
      rfl
    · rw [idNotice, joinNewest_none hno]
  · have hplaces := divertNotice_places id s
    split
    next h =>
      simp only [if_pos h] at hplaces
      exact hplaces.toPlacedFrom
    next h =>
      refine if_neg fun hc => h ?_
      rw [Bool.and_eq_true, beq_iff_eq, Option.isNone_iff_eq_none] at hc
      exact hc

end Sys2Proof.Proofs
end

section
/-! SUPPORT. The match of a threshold arrival (R121), and what an entry leaves of the deck, its account and its records (R122, R136). -/

namespace Sys2Proof.Machine

open Sys2Proof.Safety

/-! ### The match (R121) -/

/-- The record that comes first of a list is the one that a search finds. -/
theorem oldestRecord_eq {s : State} {rs : List VRecord} {r : VRecord} (hr : r ∈ rs) (hfound : ∀ x ∈ rs, findRec s x.id = some x)
    (h : ∀ x ∈ rs, recordAge s x < recordAge s r ∨
      (recordAge s x = recordAge s r ∧ (r.lane < x.lane ∨ (r.lane = x.lane ∧ r.id ≤ x.id)))) : oldestRecord s rs = some r := by
  obtain ⟨y, hy⟩ := oldestRecord_some (s := s) (List.ne_nil_of_mem hr)
  have hfirst := oldestRecord_first hy
  have hn := hfirst.first r hr
  rw [← Bool.not_eq_true, olderThan_iff] at hn
  have hahead := h y hfirst.mem
  rw [Fin.lt_def, Fin.ext_iff] at hahead
  have hid : r.id = y.id := by omega
  have hsame : some r = some y := by rw [← hfound r hr, ← hfound y hfirst.mem, hid]
  exact hy.trans hsame.symm

/-- The records of a lane's approach list whose threshold window holds the time. -/
def waitingIn (s : State) (t : Time) (l : Lane) : List VRecord := (approachRecords s l).filter (thresholdHolds t)

/-- The same of the lanes adjacent to it. -/
def waitingBeside (s : State) (t : Time) (l : Lane) : List VRecord :=
  ((allLanes.filter (adjacent s.sst.live l)).flatMap (approachRecords s)).filter (thresholdHolds t)

theorem mem_waitingIn (s : State) (t : Time) (l : Lane) (r : VRecord) : r ∈ waitingIn s t l ↔
    (∃ id ∈ s.rtb.approach[l], findRec s id = some r) ∧
      ∃ w, r.windows = some w ∧ (t - w.threshFrom).toNat ≤ (w.threshTo - w.threshFrom).toNat := by
  rw [waitingIn, List.mem_filter, mem_approachRecords, thresholdHolds, holds_iff r t (·.threshFrom) (·.threshTo)]

theorem adjacent_iff (st : Settings) (l k : Lane) : adjacent st l k = true ↔
    (k.val + 1 = l.val ∨ l.val + 1 = k.val) ∧ k.val < st.site.laneCount ∧ l.val < st.site.laneCount := by
  simp only [adjacent, Bool.and_eq_true, Bool.or_eq_true, lanePresent_iff, beq_iff_eq]
  omega

theorem mem_waitingBeside (s : State) (t : Time) (l : Lane) (r : VRecord) : r ∈ waitingBeside s t l ↔
    ∃ k : Lane, (k.val + 1 = l.val ∨ l.val + 1 = k.val) ∧ k.val < s.sst.live.site.laneCount ∧ l.val < s.sst.live.site.laneCount ∧
      r ∈ waitingIn s t k := by
  simp only [waitingBeside, waitingIn, List.mem_filter, List.mem_flatMap, mem_allLanes, true_and, adjacent_iff]
  exact ⟨fun ⟨⟨k, ⟨hb, hk, hl⟩, hr⟩, ht⟩ => ⟨k, hb, hk, hl, hr, ht⟩, fun ⟨k, hb, hk, hl, hr, ht⟩ => ⟨⟨k, ⟨hb, hk, hl⟩, hr⟩, ht⟩⟩

theorem waitingIn_found {s : State} {t : Time} {l : Lane} {r : VRecord} (h : r ∈ waitingIn s t l) : findRec s r.id = some r := by
  obtain ⟨⟨id, -, hid⟩, -⟩ := (mem_waitingIn s t l r).mp h
  rwa [findRec_id hid]

theorem thresholdTaken_eq (s : State) (l : Lane) (t : Time) : thresholdTaken s l t =
    (oldestRecord s (waitingIn s t l)).or (oldestRecord s (waitingBeside s t l)) := by
  have hin : oldestRecord s (waitingIn s t l) = oldestRecord s ((approachRecords s l).filter (thresholdHolds t)) := rfl
  rw [hin, thresholdTaken]
  cases oldestRecord s ((approachRecords s l).filter (thresholdHolds t)) <;> rfl

/-- The record matched stands in the pool. -/
theorem thresholdTaken_found {s : State} {l : Lane} {t : Time} {r : VRecord} (h : thresholdTaken s l t = some r) :
    findRec s r.id = some r := by
  rw [thresholdTaken_eq] at h
  rcases Option.or_eq_some_iff.mp h with h | ⟨-, h⟩
  · exact waitingIn_found (oldestRecord_first h).mem
  · obtain ⟨k, -, -, -, hk⟩ := (mem_waitingBeside s t l r).mp (oldestRecord_first h).mem
    exact waitingIn_found hk

/-! ### An entry of the deck (R131, R140) -/

/-- An entry of lane l's list that carries this time is at once a head older than DECK_OVERSTAY, whose cause is not given yet. -/
abbrev Late (l : Lane) (t : Time) (s : State) : Prop :=
  s.dkc.lists[l] = [] ∧ s.dkc.overstayGiven[l] = false ∧ s.sst.live.deck.overstay * 100000 ≤ (s.tbu.time - t).toNat

/-- The lane's DECK_OVERSTAY entry after an entry of the deck. -/
def overstayAfter (l : Lane) (t : Time) (s : State) : CondEntry :=
  if Late l t s then causedEntry false s.tbu.time s.cmn.conds[overstayIx l] else s.cmn.conds[overstayIx l]

/-- The state with an entry at the tail of lane l's list, its load added and its overstay taken as given where it is late. -/
def withTail (l : Lane) (e : DeckEntry) (s : State) : State := { s with
  dkc := { s.dkc with
    lists := put s.dkc.lists l (s.dkc.lists[l] ++ [e])
    onDeck := s.dkc.onDeck + heavyLoad e
    overstayGiven := if Late l e.entryTime s then put s.dkc.overstayGiven l true else s.dkc.overstayGiven } }

theorem withTail_late {l : Lane} {e : DeckEntry} {s : State} (h : Late l e.entryTime s) : withTail l e s =
    { appendEntry l e s with dkc := { (appendEntry l e s).dkc with overstayGiven := put s.dkc.overstayGiven l true } } := by
  unfold withTail
  rw [if_pos h]
  rfl

theorem withTail_timely {l : Lane} {e : DeckEntry} {s : State} (h : ¬ Late l e.entryTime s) : withTail l e s = appendEntry l e s := by
  unfold withTail
  rw [if_neg h]
  rfl

theorem enterDeck_late {l : Lane} {e : DeckEntry} {s : State} (he : e.aged = false) (h : Late l e.entryTime s) :
    enterDeck l e s = giveCause (overstayIx l) s.tbu.time (withTail l e s) := by
  obtain ⟨hempty, hgiven, hlong⟩ := h
  have hlist : (appendEntry l e s).dkc.lists[l] = [e] := by
    refine (put_getElem_self _ _ _).trans ?_
    rw [hempty]
    rfl
  have hold : overstays (appendEntry l e s) e = true := by
    rw [overstays, he]
    exact decide_eq_true hlong
  have hcond : (!(appendEntry l e s).dkc.overstayGiven[l] && (appendEntry l e s).dkc.lists[l].head?.any (overstays (appendEntry l e s))) = true := by
    have hg : (appendEntry l e s).dkc.overstayGiven[l] = false := hgiven
    rw [hlist, hg]
    simpa using hold
  rw [enterDeck, hempty, withTail_late ⟨hempty, hgiven, hlong⟩]
  rw [List.isEmpty_nil, if_pos rfl, watchHead, if_pos hcond]
  rfl

theorem enterDeck_timely {l : Lane} {e : DeckEntry} {s : State} (he : e.aged = false) (h : ¬ Late l e.entryTime s) :
    enterDeck l e s = withTail l e s := by
  rw [withTail_timely h, enterDeck]
  split
  next hempty =>
    have hnil : s.dkc.lists[l] = [] := List.isEmpty_iff.mp hempty
    have hlist : (appendEntry l e s).dkc.lists[l] = [e] := by
      refine (put_getElem_self _ _ _).trans ?_
      rw [hnil]
      rfl
    refine if_neg fun hc => h ⟨hnil, ?_⟩
    rw [hlist, Bool.and_eq_true, Bool.not_eq_true'] at hc
    obtain ⟨hg, hold⟩ := hc
    have hold : (e.aged || decide (s.sst.live.deck.overstay * 100000 ≤ (s.tbu.time - e.entryTime).toNat)) = true := hold
    rw [he, Bool.false_or, decide_eq_true_iff] at hold
    exact ⟨hg, hold⟩
  next => rfl

/-- What an entry of the deck does: the list, the load, and the cause of a head that is late. -/
theorem enterDeck_places {l : Lane} {e : DeckEntry} (he : e.aged = false) (s : State) :
    let o := overstayAfter l e.entryTime s
    Places (changeReports (overstayIx l) o s) (withEntry (overstayIx l) o (withTail l e s)) (enterDeck l e s) := by
  intro o
  by_cases h : Late l e.entryTime s
  · have ho : o = causedEntry false s.tbu.time s.cmn.conds[overstayIx l] := if_pos h
    rw [ho, enterDeck_late he h]
    exact giveCause_places (overstayIx l) s.tbu.time (withTail l e s)
  · have ho : o = s.cmn.conds[overstayIx l] := if_neg h
    rw [ho, enterDeck_timely he h]
    exact unchanged_places (overstayIx l) (withTail l e s)

theorem enterDeck_deckMoves {l : Lane} {e : DeckEntry} (he : e.aged = false) (s : State) : DeckMoves s (enterDeck l e s) :=
  .placed (enterDeck_places he s)
    ((withEntry_deckMoves ⟨l, .inr (.inr rfl)⟩ _ (withTail l e s)).after rfl rfl rfl rfl)

theorem enterDeck_rtb {l : Lane} {e : DeckEntry} (he : e.aged = false) (s : State) : (enterDeck l e s).rtb = s.rtb :=
  (enterDeck_places he s).rtb

/-- A step before an entry that touches records, queue and grants alone. -/
def RecordsOnly (s t : State) : Prop := t = { s with
  rtb := t.rtb
  dkc := { s.dkc with grants := t.dkc.grants, queue := t.dkc.queue, committed := t.dkc.committed } }

theorem RecordsOnly.refl (s : State) : RecordsOnly s s := rfl

theorem RecordsOnly.trans {s t u : State} (h : RecordsOnly s t) (k : RecordsOnly t u) : RecordsOnly s u := by
  unfold RecordsOnly at h k ⊢
  rw [k, h]

theorem endGrant_recordsOnly (id : Nat) (s : State) : RecordsOnly s (endGrant id s) := by
  unfold endGrant
  split <;> rfl

/-- The deck after an entry at the tail of lane l's list, the account of the grants being free. -/
structure Entered (l : Lane) (e : DeckEntry) (s x : State) : Prop where
  lists  : x.dkc.lists = put s.dkc.lists l (s.dkc.lists[l] ++ [e])
  onDeck : x.dkc.onDeck = s.dkc.onDeck + if e.kind = .heavy then e.load else 0
  given  : x.dkc.overstayGiven = if Late l e.entryTime s then put s.dkc.overstayGiven l true else s.dkc.overstayGiven
  conds  : x.cmn.conds = put s.cmn.conds (overstayIx l) (overstayAfter l e.entryTime s)
  st     : x.dkc.st = s.dkc.st
  full   : x.dkc.listFull = s.dkc.listFull
  blind  : x.dkc.blind = s.dkc.blind
  owed   : x.dkc.resyncOwed = s.dkc.resyncOwed
  tbu    : x.tbu = s.tbu
  sst    : x.sst = s.sst
  liu    : x.liu = s.liu

theorem enterDeck_entered {l : Lane} {e : DeckEntry} {s s0 : State} (he : e.aged = false) (h : RecordsOnly s s0) :
    Entered l e s (enterDeck l e s0) := by
  have hp := enterDeck_places (l := l) he s0
  have hsst := (enterDeck_same l e s0).sst
  generalize enterDeck l e s0 = x at hp hsst
  have hlate : Late l e.entryTime s0 = Late l e.entryTime s := by
    rw [h]
  have hafter : overstayAfter l e.entryTime s0 = overstayAfter l e.entryTime s := by
    rw [h]
    rfl
  have htail : withTail l e s0 = { s0 with dkc := { s0.dkc with
      lists := (withTail l e s).dkc.lists, onDeck := (withTail l e s).dkc.onDeck, overstayGiven := (withTail l e s).dkc.overstayGiven } } := by
    rw [h]
    rfl
  rw [hafter, htail] at hp
  unfold RecordsOnly at h
  refine ⟨hp.same (·.dkc.lists) fun _ => rfl, ?_, hp.same (·.dkc.overstayGiven) fun _ => rfl, ?_, ?_, ?_, ?_, ?_, ?_, ?_, ?_⟩
  · rw [← heavyLoad_eq]
    exact hp.same (·.dkc.onDeck) fun _ => rfl
  · rw [hp.conds, h]
    rfl
  · exact (hp.same (·.dkc.st) fun _ => rfl).trans (by rw [h]; rfl)
  · exact (hp.same (·.dkc.listFull) fun _ => rfl).trans (by rw [h]; rfl)
  · exact (hp.same (·.dkc.blind) fun _ => rfl).trans (by rw [h]; rfl)
  · exact (hp.same (·.dkc.resyncOwed) fun _ => rfl).trans (by rw [h]; rfl)
  · exact (hp.same (·.tbu) fun _ => rfl).trans (by rw [h]; rfl)
  · exact hsst.trans (by rw [h])
  · exact (hp.same (·.liu) fun _ => rfl).trans (by rw [h]; rfl)

namespace Entered

variable {l : Lane} {e : DeckEntry} {s x : State} (h : Entered l e s x)

include h

theorem isolated (hi : s.dkc.st = .isolated) : IsolatedAfter s (put s.dkc.lists l (s.dkc.lists[l] ++ [e]))
    (s.dkc.onDeck + if e.kind = .heavy then e.load else 0) (DeckReported · · (deckReview x)) (deckReview x) := by
  have hafter := isolatedAfter_review (h.st.trans hi)
  rw [h.lists, h.onDeck] at hafter
  exact isolatedAfter_mono hafter h.tbu h.sst h.liu h.full h.blind h.owed rfl fun _ _ hr => hr

/-- A noncompliant entry on the deck before is there still. -/
theorem noncompliant (hw : ∃ k : Lane, ∃ z ∈ s.dkc.lists[k], z.noncompliant = true) : noncompliantOnDeck x = true := by
  obtain ⟨k, z, hz, hn⟩ := hw
  refine (noncompliantOnDeck_iff x).mpr ⟨k, z, ?_, hn⟩
  rw [h.lists]
  by_cases hk : k = l
  · subst hk
    rw [put_getElem_self]
    exact List.mem_append_left _ hz
  · rw [put_getElem_other _ _ _ _ hk]
    exact hz

theorem reviewed (hw : s.dkc.st = .isolated → ∃ k : Lane, ∃ z ∈ s.dkc.lists[k], z.noncompliant = true) : Reviewed x (deckReview x) :=
  deckReview_reviewed fun hi => h.noncompliant (hw (h.st.symm.trans hi))

/-- What a review leaves of a deck that is not ISOLATED after an entry. -/
theorem served (hn : s.dkc.st ≠ .isolated) : (deckReview x).dkc.lists = put s.dkc.lists l (s.dkc.lists[l] ++ [e]) ∧
    (deckReview x).dkc.onDeck = s.dkc.onDeck + (if e.kind = .heavy then e.load else 0) ∧
    (deckReview x).cmn.conds[overstayIx l] = overstayAfter l e.entryTime s ∧
    (deckReview x).dkc.overstayGiven = if Late l e.entryTime s then put s.dkc.overstayGiven l true else s.dkc.overstayGiven := by
  have hr := h.reviewed fun hi => absurd hi hn
  refine ⟨hr.lists.trans h.lists, hr.onDeck.trans h.onDeck, ?_, hr.given.trans h.given⟩
  rw [hr.conds, h.conds]
  exact put_getElem_self _ _ _

theorem moved (hn : s.dkc.st ≠ .isolated) (hst : (deckReview x).dkc.st ≠ s.dkc.st) :
    (s.dkc.st = .openDeck ∧ (deckReview x).dkc.st = .overloaded ∧ DeckReported .openDeck .overload (deckReview x)) ∨
    (s.dkc.st = .overloaded ∧ (deckReview x).dkc.st = .openDeck ∧ DeckReported .overloaded .overloadEnd (deckReview x)) := by
  have hr := (h.reviewed fun hi => absurd hi hn).moved
  rw [h.st] at hr
  exact hr hst

end Entered

/-! ### A record that boards (R122, R136) -/

theorem leaveApproach_left (id : Nat) (s : State) (k : Lane) : id ∉ (leaveApproach id s).rtb.approach[k] := by
  intro hin
  have happroach : (leaveApproach id s).rtb.approach[k] = s.rtb.approach[k].filter (· != id) := by
    simp [leaveApproach, mapVec]
  rw [happroach, List.mem_filter] at hin
  simp at hin

/-- The state in which a record matched has left its approach list and is ON_DECK, before its entry. -/
def aboard (l : Lane) (r : VRecord) (adm : Admission) (s : State) : State :=
  changeRec r.id (boardRecord l adm) (leaveApproach r.id s)

theorem aboard_recordsOnly (l : Lane) (r : VRecord) (adm : Admission) (s : State) : RecordsOnly s (aboard l r adm s) := rfl

/-- The state in which a record matched has its deck lane. -/
def onLane (l : Lane) (id : Nat) (s : State) : State := changeRec id (fun x => { x with deckLane := some l }) s

theorem onLane_recordsOnly (l : Lane) (id : Nat) (s : State) : RecordsOnly s (onLane l id s) := rfl

theorem findRec_onLane {l : Lane} {r : VRecord} {s : State} (h : findRec s r.id = some r) :
    findRec (onLane l r.id s) r.id = some { r with deckLane := some l } := by
  rw [onLane, findRec_changeRec_self (f := fun x => { x with deckLane := some l }) (fun _ => rfl), h]
  rfl

theorem findRec_aboard {l : Lane} {r : VRecord} {adm : Admission} {s : State} (h : findRec s r.id = some { r with deckLane := some l }) :
    findRec (aboard l r adm s) r.id = some (boardRecord l adm r) := by
  have hleft : findRec (leaveApproach r.id s) r.id = findRec s r.id := rfl
  rw [aboard, findRec_changeRec_self (f := boardRecord l adm) (fun _ => rfl), hleft, h]
  rfl

/-- The state after an entry of a record that boards, its admission given. -/
theorem boarded_after {l : Lane} {e : DeckEntry} {r : VRecord} {adm : Admission} {s x : State} (he : e.aged = false)
    (hr : findRec s r.id = some { r with deckLane := some l }) (hx : x.rtb = (enterDeck l e (aboard l r adm s)).rtb)
    (hg : Granted x (deckReview x)) :
    (∀ k : Lane, r.id ∉ (deckReview x).rtb.approach[k]) ∧
    (r.id ∉ (deckReview x).dkc.grants.map (·.id) → findRec (deckReview x) r.id = some (boardRecord l adm r)) := by
  rw [enterDeck_rtb he] at hx
  refine ⟨fun k hk => ?_, fun hn => ?_⟩
  · have hin := (deckReview_deckMoves x).away k _ hk
    rw [hx] at hin
    exact leaveApproach_left r.id s k hin
  · have hfound : findRec x r.id = some (boardRecord l adm r) := by
      rw [findRec, hx]
      exact findRec_aboard hr
    obtain ⟨a, ha, hsame⟩ := hg.stands r.id _ hfound
    rw [ha, hsame hn]

/-- The account of the grants that a review gives, in the terms of the claims. -/
theorem Granted.counted {x t : State} (h : Granted x t) {grants : List Grant} {queue : List Nat} {committed : Nat}
    (hg : x.dkc.grants = grants) (hq : x.dkc.queue = queue) (hc : x.dkc.committed = committed) :
    ∃ n ≤ queue.length, (t.dkc.grants.drop grants.length).map (·.id) = queue.take n ∧ t.dkc.grants.take grants.length = grants ∧
      t.dkc.queue = queue.drop n ∧ t.dkc.committed = committed + ((t.dkc.grants.drop grants.length).map (·.load)).sum := by
  obtain ⟨n, new, hn, hgrants, hids, hqueue, hcommitted⟩ := h.account
  subst hg hq hc
  refine ⟨n, hn, ?_, ?_, hqueue, ?_⟩
  · rw [hgrants, List.drop_left, hids]
  · rw [hgrants, List.take_left]
  · rw [hgrants, List.drop_left, hcommitted]

theorem enterDeck_account {l : Lane} {e : DeckEntry} (he : e.aged = false) (s : State) : (enterDeck l e s).dkc.grants = s.dkc.grants ∧
    (enterDeck l e s).dkc.queue = s.dkc.queue ∧ (enterDeck l e s).dkc.committed = s.dkc.committed := by
  have hp := enterDeck_places (l := l) he s
  exact ⟨hp.same (·.dkc.grants) fun _ => rfl, hp.same (·.dkc.queue) fun _ => rfl, hp.same (·.dkc.committed) fun _ => rfl⟩

theorem Entered.of_eq {l : Lane} {e : DeckEntry} {s x y : State} (h : Entered l e s x) (hd : y.dkc = x.dkc)
    (hc : y.cmn.conds = x.cmn.conds) (ht : y.tbu = x.tbu) (hs : y.sst = x.sst) (hl : y.liu = x.liu) : Entered l e s y where
  lists := hd ▸ h.lists
  onDeck := hd ▸ h.onDeck
  given := hd ▸ h.given
  conds := hc ▸ h.conds
  st := hd ▸ h.st
  full := hd ▸ h.full
  blind := hd ▸ h.blind
  owed := hd ▸ h.owed
  tbu := ht ▸ h.tbu
  sst := hs ▸ h.sst
  liu := hl ▸ h.liu

/-! ### The arrival by its match (R121 to R123) -/

section Arrival

variable {l : Lane} {t : Time} {s : State} {r : VRecord}

theorem listIsFull_iff (s : State) (l : Lane) : listIsFull s l = true ↔ 32 ≤ s.dkc.lists[l].length := decide_eq_true_iff

/-- The state after an unmatched entry, before the review. -/
def ghosted (l : Lane) (t : Time) (s : State) : State :=
  let x := enterDeck l (ghostEntry t) s
  { x with rtk.ghost := put x.rtk.ghost l true, cmn.ghosts := x.cmn.ghosts + 1 }

theorem thresholdArrive_ghost (h : thresholdTaken s l t = none) (hroom : s.dkc.lists[l].length < 32) :
    thresholdArrive l t s = deckReview (ghosted l t s) := by
  have hnot : ¬ listIsFull s l = true := fun hf => absurd ((listIsFull_iff s l).mp hf) (by omega)
  rw [thresholdArrive, h]
  exact if_neg hnot

theorem thresholdArrive_matched (h : thresholdTaken s l t = some r) : thresholdArrive l t s = matchedArrival l t r s := by
  rw [thresholdArrive, h]

theorem matchedArrival_refused (hfull : 32 ≤ s.dkc.lists[l].length) : matchedArrival l t r s = refuseArrival l r s :=
  if_pos ((listIsFull_iff s l).mpr hfull)

theorem matchedArrival_light (hroom : s.dkc.lists[l].length < 32) (hd : r.decision = some .passLight) :
    matchedArrival l t r s = closeRecord r.id .entered (deckReview (enterDeck l (lightEntry t) (onLane l r.id s))) := by
  have hnot : ¬ listIsFull s l = true := fun hf => absurd ((listIsFull_iff s l).mp hf) (by omega)
  rw [matchedArrival, if_neg hnot, hd]
  rfl

theorem matchedArrival_heavy (hroom : s.dkc.lists[l].length < 32) (hd : r.decision = some .passHeavy) :
    matchedArrival l t r s = enterHeavy l t r (onLane l r.id s) := by
  have hnot : ¬ listIsFull s l = true := fun hf => absurd ((listIsFull_iff s l).mp hf) (by omega)
  rw [matchedArrival, if_neg hnot, hd]
  rfl

theorem matchedArrival_divert (hroom : s.dkc.lists[l].length < 32) (hd : r.decision = some .divert) :
    matchedArrival l t r s = enterDivert l t r (onLane l r.id s) := by
  have hnot : ¬ listIsFull s l = true := fun hf => absurd ((listIsFull_iff s l).mp hf) (by omega)
  rw [matchedArrival, if_neg hnot, hd]
  rfl

theorem enterHeavy_granted (ha : r.admission = .granted) : enterHeavy l t r s =
    deckReview (enterDeck l (heavyEntry r.id t (reservedLoad s r) true false) (aboard l r .used (endGrant r.id s))) := by
  rw [enterHeavy, ha]
  rfl

theorem enterHeavy_unadmitted (ha : r.admission ≠ .granted) : enterHeavy l t r s = deckReview (countUnadmitted
    (enterDeck l (heavyEntry r.id t (r.upper.getD 0) false false) (aboard l r .unadmitted (leaveQueue r.id s)))) := by
  unfold enterHeavy
  cases h : r.admission with
  | granted => exact absurd h ha
  | none | queued | expired | unadmitted | used => rfl

end Arrival

end Sys2Proof.Machine
end

section
/-! SUPPORT. The settling of the threshold arrival: light, heavy, noncompliant and ghost entries, and the overflow of a list (R121 to R123,
R136 to R138). -/

namespace Sys2Proof.Machine

open Sys2Proof.Safety

/-! ### A report that stands near the end of its path -/

/-- The report r is on the report path, with at most k others behind it. -/
def Recent (k : Nat) (r : Report) (s : State) : Prop := ∃ post, post.length ≤ k ∧ r :: post <:+ reportPath s

theorem Recent.mem {k : Nat} {r : Report} {s : State} (h : Recent k r s) : r ∈ reportPath s := by
  obtain ⟨post, -, hs⟩ := h
  exact hs.subset List.mem_cons_self

theorem recent_of_getLast? {r : Report} {s : State} (h : (reportPath s).getLast? = some r) : Recent 0 r s := by
  obtain ⟨ys, hys⟩ := List.getLast?_eq_some_iff.mp h
  exact ⟨[], le_rfl, ys, hys.symm⟩

theorem Recent.mono {k m : Nat} {r : Report} {s : State} (h : Recent k r s) (hm : k ≤ m) : Recent m r s := by
  obtain ⟨post, hp, hs⟩ := h
  exact ⟨post, hp.trans hm, hs⟩

theorem Recent.of_link {k : Nat} {r : Report} {s t : State} (h : Recent k r s) (hl : t.lki = s.lki) : Recent k r t := by
  have hp : reportPath t = reportPath s := by simp only [reportPath, hl]
  rw [Recent, hp]
  exact h

theorem reportPath_eq (s : State) : ∃ sent : List Report, ∀ reports : List Report, ∀ loss : Bool,
    reportPath { s with lki := { s.lki with reports := reports, noticeLoss := loss } } = sent ++ reports :=
  ⟨reportPath { s with lki := { s.lki with reports := [] } }, fun _ _ => by simp [reportPath]⟩

/-- A report placed pushes none of the last 31 out (R175). -/
theorem Recent.placed {k : Nat} {r : Report} {s : State} (h : Recent k r s) (hk : k < 31) (x : Report) :
    Recent (k + 1) r (placeReport x s) := by
  obtain ⟨post, hpost, hs⟩ := h
  obtain ⟨sent, hpath⟩ := reportPath_eq s
  have hself : reportPath s = sent ++ s.lki.reports := hpath s.lki.reports s.lki.noticeLoss
  have hkick : reportPath (placeReport x s) = reportPath (enqueueReport x s) := (kick_spec _).2.1
  rw [hself] at hs
  refine ⟨post ++ [x], by simpa using hpost, ?_⟩
  rw [hkick]
  unfold enqueueReport
  by_cases hfull : Config.reportCap ≤ s.lki.reports.length
  · have h32 : 32 ≤ s.lki.reports.length := hfull
    rw [if_pos hfull, hpath]
    have htail : r :: post <:+ s.lki.reports.tail :=
      List.suffix_of_suffix_length_le hs ((List.tail_suffix _).trans (List.suffix_append _ _))
        (by simp only [List.length_cons, List.length_tail]; omega)
    obtain ⟨pre, hpre⟩ := htail
    exact ⟨sent ++ pre, by rw [← hpre]; simp⟩
  · rw [if_neg hfull, hpath]
    obtain ⟨pre, hpre⟩ := hs
    exact ⟨pre, by rw [← List.append_assoc, ← hpre]; simp⟩

theorem setCond_recent {k : Nat} {r : Report} {s : State} (h : Recent k r s) (hk : k < 31) (ix : CondIx) (new : CondState) :
    Recent (k + 1) r (setCond ix new s) := by
  have hmoved : Recent k r (markedCond ix new s) := h.of_link (formModes_lki _)
  rw [setCond_eq]
  generalize markedCond ix new s = u at hmoved
  split
  · exact h.mono (Nat.le_succ k)
  · split
    · exact hmoved.placed hk _
    · exact hmoved.mono (Nat.le_succ k)

theorem freeLane_recent {k : Nat} {r : Report} {s u : State} (h : Recent k r u) (hk : k < 31) (l : Lane) :
    Recent (k + 1) r (freeLane s u l) := by
  have hstill := h.mono (Nat.le_succ k)
  unfold freeLane
  split
  · split
    · unfold giveClear
      split
      · exact setCond_recent h hk _ _
      · exact setCond_recent h hk _ _
      · exact hstill
      · exact hstill
    · exact hstill
  · exact hstill

/-- The close of a record pushes no report out that was placed just before it. -/
theorem Recent.closed {r : Report} {s : State} (h : Recent 0 r s) (id : Nat) (d : Disposition) : Recent 4 r (closeRecord id d s) := by
  cases hr : findRec s id with
  | none =>
    rw [closeRecord_none hr]
    exact h.mono (by decide)
  | some v =>
    rw [closeRecord_eq hr, freeNotice_eq]
    have hfreed : ∀ x, Recent 1 r (freeSlot id (placeReport x (withSummary id (summaryOf v d s.tbu.time) s))) := fun x =>
      (Recent.placed (s := withSummary id (summaryOf v d s.tbu.time) s) (h.of_link rfl) (by decide) x).of_link rfl
    exact freeLane_recent (freeLane_recent (freeLane_recent (hfreed _) (by decide) 0) (by decide) 1) (by decide) 2

/-! ### The entry of a PASS_LIGHT record -/

/-- A DECK report placed before the close of a record stands on the report path after it. -/
theorem deckReported_closed {prev : DeckSt} {cause : DeckCause} {u : State} (h : DeckReported prev cause u) (id : Nat) (d : Disposition) :
    .deck ⟨(closeRecord id d u).dkc.st, some prev, cause, signalOf (closeRecord id d u), (closeRecord id d u).dkc.onDeck,
      (closeRecord id d u).dkc.committed, (closeRecord id d u).dkc.queue.length, u.tbu.time⟩ ∈ reportPath (closeRecord id d u) := by
  have hsignal : signalOf (closeRecord id d u) = signalOf u := signalOf_congr (closeRecord_dkc id d u)
  rw [hsignal, closeRecord_dkc]
  exact ((recent_of_getLast? h).closed id d).mem

/-! ### The entry of a DIVERT record (R136, R145) -/

/-- The state after a noncompliant entry, before the deck is isolated. -/
def divertEntered (l : Lane) (t : Time) (r : VRecord) (s : State) : State :=
  countLane r.lane (fun c => { c with noncompliant := c.noncompliant + 1 }) (noncomplianceCause l r.id
    (countUnadmitted (enterDeck l (heavyEntry r.id t (divertLoad s r) false true) (aboard l r .unadmitted s))))

theorem enterDivert_eq (l : Lane) (t : Time) (r : VRecord) (s : State) :
    enterDivert l t r s = deckReview (isolate (divertEntered l t r s)) := rfl

/-- The NONCOMPLIANCE ids of lane l with that of a record, and the deck's unadmitted counter raised. -/
def cited (l : Lane) (id : Nat) (s : State) : State := { s with
  cmn.unadmitted := s.cmn.unadmitted + 1
  cmn.nonIds := change s.cmn.nonIds l fun ids => if ids.contains id then ids else ids ++ [id] }

/-- The counter of noncompliant vehicles of a lane raised. -/
def countedOn (l : Lane) (s : State) : State := countLane l (fun c => { c with noncompliant := c.noncompliant + 1 }) s

theorem Places.noncompliant {rs : List Report} {x t : State} (h : Places rs x t) (l k : Lane) (id : Nat) :
    let e := causedEntry false x.tbu.time x.cmn.conds[noncomplianceIx l]
    Places (rs ++ changeReports (noncomplianceIx l) e x) (countedOn k (withEntry (noncomplianceIx l) e (cited l id x)))
      (countedOn k (noncomplianceCause l id (countUnadmitted t))) := by
  intro e
  have hcited : Places rs (cited l id x) (cited l id t) := h.map (cited l id) (fun _ => rfl) (fun _ => rfl) fun _ => rfl
  have hcaused := hcited.caused (noncomplianceIx l) false x.tbu.time
  have hcause : noncomplianceCause l id (countUnadmitted t) = giveGraded (noncomplianceIx l) false x.tbu.time (cited l id t) := by
    rw [← h.tbu]
    rfl
  rw [hcause]
  exact hcaused.map (countedOn k) (fun _ => rfl) (fun _ => rfl) fun _ => rfl

theorem divertEntered_places (l : Lane) (t : Time) (r : VRecord) (s : State) :
    let o := overstayAfter l t s
    let e := causedEntry false s.tbu.time s.cmn.conds[noncomplianceIx l]
    let y := withEntry (overstayIx l) o (withTail l (heavyEntry r.id t (divertLoad s r) false true) (aboard l r .unadmitted s))
    Places (changeReports (overstayIx l) o s ++ changeReports (noncomplianceIx l) e s)
      (countedOn r.lane (withEntry (noncomplianceIx l) e (cited l r.id y))) (divertEntered l t r s) := by
  intro o e y
  have hne : noncomplianceIx l ≠ overstayIx l := fun h => (overstayIx_ne l l).2 h.symm
  have henter : Places (changeReports (overstayIx l) o s) y _ :=
    enterDeck_places (l := l) (e := heavyEntry r.id t (divertLoad s r) false true) rfl (aboard l r .unadmitted s)
  have hcond : y.cmn.conds[noncomplianceIx l] = s.cmn.conds[noncomplianceIx l] := withEntry_conds_other hne _ _
  have hcaused := henter.noncompliant l r.lane r.id
  have hreports : changeReports (noncomplianceIx l) e y = changeReports (noncomplianceIx l) e s := by
    rw [changeReports, hcond]
    rfl
  rw [hcond] at hcaused
  rw [← hreports]
  exact hcaused

/-- The deck isolated by a noncompliant entry, as the state was before it. -/
theorem isolate_places (s : State) : ∃ rs d, Places rs { s with dkc := d } (isolate s) ∧
    d = { s.dkc with st := d.st, timer := d.timer, resyncOwed := d.resyncOwed } := by
  have hchange : ∀ (d : DkcState), Places [deckReport (some d.st) .noncompliantEntry { s with dkc := { d with st := .isolated } }]
      { s with dkc := { d with st := .isolated } } (changeDeck .isolated .noncompliantEntry { s with dkc := d }) := fun d => by
    have hp := changeDeck_places .isolated .noncompliantEntry { s with dkc := d }
    rwa [deckAs_eq (by decide) (by decide)] at hp
  unfold isolate
  split
  · exact ⟨_, _, hchange { s.dkc with timer := none }, rfl⟩
  · exact ⟨_, _, hchange { s.dkc with timer := none }, rfl⟩
  · exact ⟨_, _, hchange { s.dkc with timer := none }, rfl⟩
  · exact ⟨_, _, hchange { s.dkc with resyncOwed := true }, rfl⟩
  · exact ⟨[], s.dkc, .refl s, rfl⟩
  · exact ⟨[], s.dkc, .refl s, rfl⟩
  · exact ⟨[], s.dkc, .refl s, rfl⟩

theorem isolate_stays {s : State} (h : s.dkc.st = .resync ∨ s.dkc.st = .closed ∨ s.dkc.st = .isolated) : isolate s = s := by
  rw [isolate]
  rcases h with h | h | h <;> rw [h]

theorem isolate_isolates {s : State} (hr : s.dkc.st ≠ .resync) (hc : s.dkc.st ≠ .closed) (hi : s.dkc.st ≠ .isolated) :
    (isolate s).dkc.st = .isolated ∧ (s.dkc.st = .blind → (isolate s).dkc.resyncOwed = true) ∧
      DeckReported s.dkc.st .noncompliantEntry (isolate s) := by
  unfold isolate
  cases h : s.dkc.st with
  | resync => exact absurd h hr
  | closed => exact absurd h hc
  | isolated => exact absurd h hi
  | openDeck | overloaded | resting =>
    refine ⟨changeDeck_st _ _ _, fun hb => DeckSt.noConfusion hb, ?_⟩
    have hrep := changeDeck_reported .isolated .noncompliantEntry { s with dkc := { s.dkc with timer := none } }
    exact deckReported_prev h hrep
  | blind =>
    refine ⟨changeDeck_st _ _ _, fun _ => ?_, ?_⟩
    · exact changeDeck_resyncOwed .isolated .noncompliantEntry { s with dkc := { s.dkc with resyncOwed := true } }
    · have hrep := changeDeck_reported .isolated .noncompliantEntry { s with dkc := { s.dkc with resyncOwed := true } }
      exact deckReported_prev h hrep

/-- A deck with a noncompliant entry on it is left as it is by the review, but for the overload condition. -/
theorem deckReview_isolate {s : State} (h : noncompliantOnDeck s = true) : deckReview (isolate s) = formOverload (isolate s) := by
  obtain ⟨rs, d, hp, hd⟩ := isolate_places s
  have hlists : (isolate s).dkc.lists = s.dkc.lists := by
    have hl := hp.same (·.dkc.lists) fun _ => rfl
    rw [hl]
    exact (congrArg (·.lists) hd :)
  have hn : noncompliantOnDeck (isolate s) = true := by rw [noncompliantOnDeck, hlists]; exact h
  by_cases hst : s.dkc.st = .resync ∨ s.dkc.st = .closed
  · have hstays : isolate s = s := isolate_stays (hst.imp_right .inl)
    rw [hstays]
    exact deckReview_stays (hst.imp_right .inr)
  · have hi : (isolate s).dkc.st = .isolated := by
      by_cases hi : s.dkc.st = .isolated
      · rw [isolate_stays (.inr (.inr hi))]
        exact hi
      · exact (isolate_isolates (fun hc => hst (.inl hc)) (fun hc => hst (.inr hc)) hi).1
    rw [deckReview_isolated hi, if_pos hn]

/-- What the isolation leaves: lists, loads, grants, records and conditions. -/
structure IsolatedOf (s u : State) : Prop where
  lists     : u.dkc.lists = s.dkc.lists
  onDeck    : u.dkc.onDeck = s.dkc.onDeck
  given     : u.dkc.overstayGiven = s.dkc.overstayGiven
  grants    : u.dkc.grants = s.dkc.grants
  queue     : u.dkc.queue = s.dkc.queue
  committed : u.dkc.committed = s.dkc.committed
  rtb       : u.rtb = s.rtb
  conds     : u.cmn.conds = s.cmn.conds
  counters  : u.cmn.unadmitted = s.cmn.unadmitted ∧ u.cmn.lanes = s.cmn.lanes
  stays     : s.dkc.st = .resync ∨ s.dkc.st = .closed ∨ s.dkc.st = .isolated → u = formOverload s
  isolates  : s.dkc.st ≠ .resync → s.dkc.st ≠ .closed → s.dkc.st ≠ .isolated → u.dkc.st = .isolated ∧
                (s.dkc.st = .blind → u.dkc.resyncOwed = true) ∧ DeckReported s.dkc.st .noncompliantEntry u

theorem isolate_leaves {s : State} (h : noncompliantOnDeck s = true) : IsolatedOf s (deckReview (isolate s)) := by
  obtain ⟨rs, d, hp, hd⟩ := isolate_places s
  rw [deckReview_isolate h]
  have hdkc : (isolate s).dkc = { d with signal := (isolate s).dkc.signal } :=
    (congrArg (fun e : DkcState => ({ e with signal := (isolate s).dkc.signal } : DkcState)) (hp.same (fun u => sansSignal u.dkc) fun _ => rfl) :)
  refine ⟨?_, ?_, ?_, ?_, ?_, ?_, hp.rtb, hp.conds,
    ⟨hp.same (·.cmn.unadmitted) fun _ => rfl, hp.same (·.cmn.lanes) fun _ => rfl⟩, fun hs => congrArg formOverload (isolate_stays hs), fun hr hc hi => ?_⟩
  · exact (congrArg (·.lists) hdkc :).trans (congrArg (·.lists) hd :)
  · exact (congrArg (·.onDeck) hdkc :).trans (congrArg (·.onDeck) hd :)
  · exact (congrArg (·.overstayGiven) hdkc :).trans (congrArg (·.overstayGiven) hd :)
  · exact (congrArg (·.grants) hdkc :).trans (congrArg (·.grants) hd :)
  · exact (congrArg (·.queue) hdkc :).trans (congrArg (·.queue) hd :)
  · exact (congrArg (·.committed) hdkc :).trans (congrArg (·.committed) hd :)
  · obtain ⟨hst, howed, hrep⟩ := isolate_isolates hr hc hi
    refine ⟨hst, howed, ?_⟩
    have hsignal : signalOf (formOverload (isolate s)) = signalOf (isolate s) := by
      rw [signalOf_allStop (.inr (.inl hst)), signalOf_allStop (s := formOverload (isolate s)) (.inr (.inl hst))]
    rw [DeckReported, hsignal]
    exact hrep

/-- The load of a noncompliant entry in the terms of the claims. -/
theorem divertLoad_eq (s : State) (r : VRecord) : divertLoad s r =
    if r.quality = some .a ∨ r.quality = some .b then r.upper.getD 0 else s.sst.live.deck.unknownLoad := by
  simp only [divertLoad, Bool.or_eq_true, beq_iff_eq]

/-- What a noncompliant entry gives before the deck is isolated. -/
structure DivertStands (l : Lane) (t : Time) (r : VRecord) (s y : State) : Prop where
  lists     : y.dkc.lists = put s.dkc.lists l (s.dkc.lists[l] ++ [heavyEntry r.id t (divertLoad s r) false true])
  onDeck    : y.dkc.onDeck = s.dkc.onDeck + divertLoad s r
  given     : y.dkc.overstayGiven = if Late l t s then put s.dkc.overstayGiven l true else s.dkc.overstayGiven
  conds     : y.cmn.conds = put (put s.cmn.conds (overstayIx l) (overstayAfter l t s)) (noncomplianceIx l)
                (causedEntry false s.tbu.time s.cmn.conds[noncomplianceIx l])
  account   : y.dkc.grants = s.dkc.grants ∧ y.dkc.queue = s.dkc.queue ∧ y.dkc.committed = s.dkc.committed
  st        : y.dkc.st = s.dkc.st
  rtb       : y.rtb = (aboard l r .unadmitted s).rtb
  counted   : y.cmn.unadmitted = s.cmn.unadmitted + 1
  noticed   : y.cmn.lanes[r.lane].noncompliant = s.cmn.lanes[r.lane].noncompliant + 1
  reported  : Reported (changeReports (overstayIx l) (overstayAfter l t s) s ++
                changeReports (noncomplianceIx l) (causedEntry false s.tbu.time s.cmn.conds[noncomplianceIx l]) s) s y

/-- The state with the conditions, ids and counters that a noncompliant entry moves. -/
def divertNoted (l : Lane) (r : VRecord) (o e : CondEntry) (x : State) : State :=
  countedOn r.lane (withEntry (noncomplianceIx l) e (cited l r.id (withEntry (overstayIx l) o x)))

section Noted

variable (l : Lane) (r : VRecord) (o e : CondEntry) (x : State)

theorem divertNoted_lki : (divertNoted l r o e x).lki = x.lki := rfl

theorem divertNoted_unadmitted : (divertNoted l r o e x).cmn.unadmitted = x.cmn.unadmitted + 1 := rfl

theorem divertNoted_conds : (divertNoted l r o e x).cmn.conds = put (put x.cmn.conds (overstayIx l) o) (noncomplianceIx l) e := rfl

theorem divertNoted_lanes : (divertNoted l r o e x).cmn.lanes[r.lane].noncompliant = x.cmn.lanes[r.lane].noncompliant + 1 :=
  congrArg (·.noncompliant) (change_getElem_self x.cmn.lanes r.lane fun c => { c with noncompliant := c.noncompliant + 1 })

end Noted

theorem divertEntered_dkc (l : Lane) (t : Time) (r : VRecord) (s : State) : (divertEntered l t r s).dkc =
    (enterDeck l (heavyEntry r.id t (divertLoad s r) false true) (aboard l r .unadmitted s)).dkc := (noncomplianceCause_same _ _ _).dkc

theorem divertEntered_stands (l : Lane) (t : Time) (r : VRecord) (s : State) : DivertStands l t r s (divertEntered l t r s) := by
  have hent : Entered l (heavyEntry r.id t (divertLoad s r) false true) s _ := enterDeck_entered rfl (aboard_recordsOnly l r .unadmitted s)
  have haccount := enterDeck_account (l := l) (e := heavyEntry r.id t (divertLoad s r) false true) rfl (aboard l r .unadmitted s)
  have hdkc := divertEntered_dkc l t r s
  have hp := divertEntered_places l t r s
  dsimp only at hp
  rw [← divertNoted] at hp
  generalize hx : withTail l (heavyEntry r.id t (divertLoad s r) false true) (aboard l r .unadmitted s) = x at hp
  have hlki : x.lki = s.lki := by rw [← hx]; rfl
  have hcmn : x.cmn = s.cmn := by rw [← hx]; rfl
  have hrtb : x.rtb = (aboard l r .unadmitted s).rtb := by rw [← hx]; rfl
  rw [← hdkc] at haccount
  refine ⟨hdkc ▸ hent.lists, hdkc ▸ hent.onDeck, hdkc ▸ hent.given, ?_, haccount, hdkc ▸ hent.st, hp.rtb.trans hrtb, ?_, ?_, ?_⟩
  · rw [hp.conds, divertNoted_conds, hcmn]
  · rw [hp.same (·.cmn.unadmitted) fun _ => rfl, divertNoted_unadmitted, hcmn]
  · rw [hp.same (·.cmn.lanes) fun _ => rfl, divertNoted_lanes, hcmn]
  · have hr := hp.reports
    simp only [Reported, reportPath, divertNoted_lki, hlki] at hr ⊢
    exact hr

theorem DivertStands.noncompliant {l : Lane} {t : Time} {r : VRecord} {s y : State} (h : DivertStands l t r s y) :
    noncompliantOnDeck y = true := by
  refine (noncompliantOnDeck_iff y).mpr ⟨l, heavyEntry r.id t (divertLoad s r) false true, ?_, rfl⟩
  rw [h.lists, put_getElem_self]
  exact List.mem_append_right _ (List.mem_singleton_self _)

/-! ### The overflow of a list (R138) -/

/-- What the overflow of a list gives, the record refused having been closed. -/
structure Overflowed (s t : State) : Prop where
  fault   : t.cmn.conds[desyncIx] = causedEntry true s.tbu.time s.cmn.conds[desyncIx]
  rtk     : t.rtk = s.rtk
  counts  : t.cmn.ghosts = s.cmn.ghosts ∧ t.cmn.unadmitted = s.cmn.unadmitted ∧ t.cmn.lanes = s.cmn.lanes
  closed  : s.dkc.st = .closed → sansSignal t.dkc = sansSignal s.dkc
  resync  : s.dkc.st ≠ .closed → t.dkc = resyncDkc s ∧ DeckReported s.dkc.st .listOverflow t
  gone    : ∀ id, findRec s id = none → findRec t id = none
  away    : ∀ (k : Lane) (id : Nat), id ∈ t.rtb.approach[k] → id ∈ s.rtb.approach[k]
  history : s.rtb.pool.length + s.rtb.history.length ≤ 64 → ∀ z ∈ s.rtb.history, z ∈ t.rtb.history

theorem listOverflow_overflowed (s : State) : Overflowed s (listOverflow s) := by
  have hp := giveFault_places desyncIx s.tbu.time s
  have hsame := giveFault_same desyncIx s.tbu.time s
  have hfault : (giveFault desyncIx s.tbu.time s).cmn.conds[desyncIx] = causedEntry true s.tbu.time s.cmn.conds[desyncIx] := by
    rw [hp.conds, withEntry_conds_self]
  have hcounts : (giveFault desyncIx s.tbu.time s).cmn.ghosts = s.cmn.ghosts ∧
      (giveFault desyncIx s.tbu.time s).cmn.unadmitted = s.cmn.unadmitted ∧ (giveFault desyncIx s.tbu.time s).cmn.lanes = s.cmn.lanes :=
    ⟨hp.same (·.cmn.ghosts) fun _ => rfl, hp.same (·.cmn.unadmitted) fun _ => rfl, hp.same (·.cmn.lanes) fun _ => rfl⟩
  have hover : listOverflow s = if (giveFault desyncIx s.tbu.time s).dkc.st == .closed then giveFault desyncIx s.tbu.time s
      else enterResync .listOverflow (giveFault desyncIx s.tbu.time s) := rfl
  rw [hover]
  generalize giveFault desyncIx s.tbu.time s = u at hsame hfault hcounts
  have hfind : ∀ id, findRec u id = findRec s id := fun id => by rw [findRec, hsame.rtb, findRec]
  by_cases hc : s.dkc.st = .closed
  · rw [if_pos (by rw [hsame.dkc, hc]; rfl)]
    exact ⟨hfault, hsame.rtk, hcounts, fun _ => by rw [hsame.dkc], fun hn => absurd hc hn, fun id h => (hfind id).trans h,
      fun k id h => hsame.rtb ▸ h, fun _ z h => hsame.rtb ▸ h⟩
  · have hmoves := enterResync_deckMoves .listOverflow u
    have hreported := enterResync_reported .listOverflow u
    have hdkc : resyncDkc u = resyncDkc s := by rw [resyncDkc, hsame.dkc, hsame.tbu, hsame.sst, resyncDkc]
    rw [if_neg fun hb => hc (by rw [hsame.dkc] at hb; exact beq_iff_eq.mp hb)]
    refine ⟨(hmoves.conds _ desyncIx_not_deckIx).trans hfault, (enterResync_same _ u).rtk.trans hsame.rtk,
      ⟨hmoves.ghosts.trans hcounts.1, hmoves.unadmitted.trans hcounts.2.1, hmoves.lanes.trans hcounts.2.2⟩, fun h => absurd h hc,
      fun _ => ⟨(enterResync_dkc _ u).trans hdkc, ?_⟩, fun id h => hmoves.gone id ((hfind id).trans h),
      fun k id h => hsame.rtb ▸ hmoves.away k id h, fun hs z h => hmoves.kept (by rw [hsame.rtb]; exact hs) z (by rw [hsame.rtb]; exact h)⟩
    rw [hsame.dkc] at hreported
    exact hreported

/-- The disposition of a record refused (R122, R138). -/
def refusedAs (r : VRecord) : Disposition := if r.decision = some .passLight then .entered else .flushed

/-- The state in which a record refused has its deck lane, and its grant or its place in the queue is gone. -/
def refused (l : Lane) (r : VRecord) (s : State) : State :=
  onLane l r.id (if r.admission = .granted then endGrant r.id s else if r.admission = .queued then leaveQueue r.id s else s)

theorem refuseArrival_eq (l : Lane) (r : VRecord) (s : State) :
    refuseArrival l r s = listOverflow (closeRecord r.id (refusedAs r) (refused l r s)) := by
  have hd : (if r.decision == some .passLight then Disposition.entered else .flushed) = refusedAs r := by
    simp only [refusedAs, beq_iff_eq]
  rw [refuseArrival, hd]
  cases h : r.admission with
  | granted | queued | none | expired | unadmitted | used => simp [refused, h, onLane]

theorem refused_recordsOnly (l : Lane) (r : VRecord) (s : State) : RecordsOnly s (refused l r s) := by
  have hleft : RecordsOnly s (if r.admission = .granted then endGrant r.id s else if r.admission = .queued then leaveQueue r.id s else s) := by
    split
    · exact endGrant_recordsOnly _ _
    · split <;> rfl
  exact hleft.trans (onLane_recordsOnly _ _ _)

theorem endGrant_grants (id : Nat) (s : State) : (endGrant id s).dkc.grants = s.dkc.grants.eraseP (·.id == id) ∧
    (endGrant id s).dkc.queue = s.dkc.queue := by
  cases h : s.dkc.grants.find? (·.id == id) with
  | none =>
    have hself : endGrant id s = s := by rw [endGrant, h]
    rw [hself]
    exact ⟨(List.eraseP_of_forall_not (List.find?_eq_none.mp h)).symm, rfl⟩
  | some g =>
    rw [endGrant_some h]
    exact ⟨rfl, rfl⟩

theorem refused_account (l : Lane) (r : VRecord) (s : State) :
    (refused l r s).dkc.grants = (if r.admission = .granted then s.dkc.grants.eraseP (·.id == r.id) else s.dkc.grants) ∧
    (refused l r s).dkc.queue = if r.admission = .queued then s.dkc.queue.filter (· != r.id) else s.dkc.queue := by
  obtain ⟨hg, hq⟩ := endGrant_grants r.id s
  cases h : r.admission with
  | granted => exact ⟨by simp only [refused, h, if_true]; exact hg, by simp only [refused, h, if_true]; exact hq⟩
  | queued | none | expired | unadmitted | used => exact ⟨by simp only [refused, h]; rfl, by simp only [refused, h]; rfl⟩

theorem refused_committed {l : Lane} {r : VRecord} {s : State} {g : Grant} (h : r.admission = .granted)
    (hg : s.dkc.grants.find? (·.id == r.id) = some g) : (refused l r s).dkc.committed = s.dkc.committed - g.load := by
  have hended : (endGrant r.id s).dkc.committed = s.dkc.committed - g.load := by rw [endGrant_some hg]
  rw [refused, if_pos h]
  exact hended

theorem findRec_refused {l : Lane} {r : VRecord} {s : State} (h : findRec s r.id = some r) :
    findRec (refused l r s) r.id = some { r with deckLane := some l } := by
  refine findRec_onLane ?_
  split
  · unfold endGrant
    split <;> exact h
  · split <;> exact h

theorem refused_size (l : Lane) (r : VRecord) (s : State) :
    (refused l r s).rtb.pool.length = s.rtb.pool.length ∧ (refused l r s).rtb.history = s.rtb.history := by
  have hended : (endGrant r.id s).rtb = s.rtb := by
    unfold endGrant
    split <;> rfl
  have hleft : (if r.admission = .granted then endGrant r.id s else if r.admission = .queued then leaveQueue r.id s else s).rtb = s.rtb := by
    split
    · exact hended
    · split <;> rfl
  have hpool : (refused l r s).rtb.pool.length =
      (if r.admission = .granted then endGrant r.id s else if r.admission = .queued then leaveQueue r.id s else s).rtb.pool.length :=
    List.length_map _
  refine ⟨hpool.trans (by rw [hleft]), ?_⟩
  exact (congrArg (·.history) hleft :)

/-- What the refusal of an arrival leaves before the overflow, the account of the grants being free. -/
structure AfterRefusal (s v : State) : Prop where
  desync : v.cmn.conds[desyncIx] = s.cmn.conds[desyncIx]
  rtk    : v.rtk = s.rtk
  counts : v.cmn.ghosts = s.cmn.ghosts ∧ v.cmn.unadmitted = s.cmn.unadmitted ∧ v.cmn.lanes = s.cmn.lanes
  dkc    : v.dkc = { s.dkc with grants := v.dkc.grants, queue := v.dkc.queue, committed := v.dkc.committed }
  time   : v.tbu = s.tbu

theorem AfterRefusal.refl (s : State) : AfterRefusal s s := ⟨rfl, rfl, ⟨rfl, rfl, rfl⟩, rfl, rfl⟩

theorem afterRefusal_closed (l : Lane) (r : VRecord) (d : Disposition) (s : State) : AfterRefusal s (closeRecord r.id d (refused l r s)) := by
  have honly := refused_recordsOnly l r s
  generalize refused l r s = u at honly
  unfold RecordsOnly at honly
  have hmoves := closeRecord_deckMoves r.id d u
  have hsame := closeRecord_same r.id d u
  have hcmn : u.cmn = s.cmn := by rw [honly]
  have hdkc : u.dkc = { s.dkc with grants := u.dkc.grants, queue := u.dkc.queue, committed := u.dkc.committed } := congrArg State.dkc honly
  refine ⟨(hmoves.conds _ desyncIx_not_deckIx).trans (by rw [hcmn]), hsame.rtk.trans (by rw [honly]),
    ⟨hmoves.ghosts.trans (by rw [hcmn]), hmoves.unadmitted.trans (by rw [hcmn]), hmoves.lanes.trans (by rw [hcmn])⟩, ?_,
    hsame.tbu.trans (by rw [honly])⟩
  rw [closeRecord_dkc]
  exact hdkc

/-- The arrival at a full list is refused and the list overflows. -/
theorem thresholdArrive_full {l : Lane} {t : Time} {s : State} (hfull : 32 ≤ s.dkc.lists[l].length) :
    ∃ v, thresholdArrive l t s = listOverflow v ∧ AfterRefusal s v := by
  cases h : thresholdTaken s l t with
  | none =>
    refine ⟨s, ?_, .refl s⟩
    rw [thresholdArrive, h]
    exact if_pos ((listIsFull_iff s l).mpr hfull)
  | some r =>
    refine ⟨_, ?_, afterRefusal_closed l r (refusedAs r) s⟩
    rw [thresholdArrive_matched h, matchedArrival_refused hfull, refuseArrival_eq]

end Sys2Proof.Machine

namespace Sys2Proof.Proofs

open Sys2Proof.Machine
open Sys2Proof.Safety

/-- Settles O31: the match by the search, each entry by its own operation before the review, and the overflow of a full list. -/
theorem thresholdArrivalEnters : Obligations.ThresholdArrivalEnters := by
  unfold Obligations.ThresholdArrivalEnters
  refine ⟨fun l time s => ?_, fun l time s hroom => ?_, fun l time s hfull => ?_⟩
  · intro age waits beside ahead
    have hin : ∀ k r, r ∈ waitingIn s time k ↔ waits k r := mem_waitingIn s time
    have hbeside : ∀ r, r ∈ waitingBeside s time l ↔ beside r := fun r => by
      rw [mem_waitingBeside]
      simp only [hin]
      exact Iff.rfl
    refine ⟨fun h => ?_, fun r hr hfirst => ?_, fun r hnone hr hfirst => ?_⟩
    · have he : waitingIn s time l = [] := List.eq_nil_iff_forall_not_mem.mpr fun r hr => (h r).1 ((hin l r).mp hr)
      have hb : waitingBeside s time l = [] := List.eq_nil_iff_forall_not_mem.mpr fun r hr => (h r).2 ((hbeside r).mp hr)
      rw [thresholdTaken_eq, he, hb]
      rfl
    · rw [thresholdTaken_eq, oldestRecord_eq ((hin l r).mpr hr) (fun x hx => waitingIn_found hx) fun x hx => hfirst x ((hin l x).mp hx)]
      rfl
    · have he : waitingIn s time l = [] := List.eq_nil_iff_forall_not_mem.mpr fun r hr => hnone r ((hin l r).mp hr)
      have hf : ∀ x ∈ waitingBeside s time l, findRec s x.id = some x := fun x hx => by
        obtain ⟨k, -, -, -, hk⟩ := (mem_waitingBeside s time l x).mp hx
        exact waitingIn_found hk
      rw [thresholdTaken_eq, he, oldestRecord_eq ((hbeside r).mpr hr) hf fun x hx => hfirst x ((hbeside x).mp hx)]
      rfl
  · intro t placed late o entered tail moved whole boarded account
    have htail : ∀ (e : DeckEntry) (x : State), e.entryTime = time → Entered l e s x → t = deckReview x → tail e := fun e x he hx ht => by
      subst he
      clear_value t
      subst ht
      exact ⟨hx.served, hx.isolated⟩
    have hmoved : ∀ (e : DeckEntry) (x : State), Entered l e s x → t = deckReview x → moved := fun e x hx ht => by
      clear_value t
      subst ht
      exact hx.moved
    refine ⟨fun hnone => ?_, fun r htaken => ?_⟩
    · have ht : t = deckReview (ghosted l time s) := thresholdArrive_ghost hnone hroom
      have hent : Entered l (ghostEntry time) s (ghosted l time s) :=
        (enterDeck_entered (s := s) (e := ghostEntry time) rfl (RecordsOnly.refl s)).of_eq rfl rfl rfl rfl rfl
      refine ⟨htail _ _ rfl hent ht, ?_, ?_, hmoved _ _ hent ht⟩
      · rw [ht, (deckReview_same _).rtk]
        have hr := (enterDeck_same l (ghostEntry time) s).rtk
        rw [← hr]
        rfl
      · rw [ht, (deckReview_deckMoves _).ghosts]
        exact congrArg (· + 1) (enterDeck_deckMoves (e := ghostEntry time) rfl s).ghosts
    · have hfound := thresholdTaken_found htaken
      have hmatched : t = matchedArrival l time r s := thresholdArrive_matched htaken
      have honLane : findRec (onLane l r.id s) r.id = some { r with deckLane := some l } := findRec_onLane hfound
      have hlane := onLane_recordsOnly l r.id s
      refine ⟨fun hd => ?_, fun g hd ha hg => ?_, fun hd ha => ?_, fun hd => ?_⟩
      · let x := enterDeck l (lightEntry time) (onLane l r.id s)
        have ht : t = closeRecord r.id .entered (deckReview x) := hmatched.trans (matchedArrival_light hroom hd)
        have hent : Entered l (lightEntry time) s x := enterDeck_entered rfl hlane
        have hmoves : DeckMoves (onLane l r.id s) (deckReview x) := (enterDeck_deckMoves rfl _).trans (deckReview_deckMoves x)
        have htime : (deckReview x).tbu = s.tbu := (deckReview_same x).tbu.trans hent.tbu
        have hdkc : t.dkc = (deckReview x).dkc := by rw [ht, closeRecord_dkc]
        have hplaced : ∀ prev cause, DeckReported prev cause (deckReview x) → placed prev cause := fun prev cause h => by
          have hin := deckReported_closed h r.id .entered
          rw [← ht, htime] at hin
          exact hin
        refine ⟨⟨fun hn => ?_, fun hi => ?_⟩, ?_, fun k => ?_, fun hs hw => ?_, fun hn hst => ?_⟩
        · obtain ⟨hlists, honDeck, hcond, hgiven⟩ := hent.served hn
          rw [hdkc]
          refine ⟨hlists, honDeck, ?_, hgiven⟩
          rw [ht, closeRecord_conds_other fun k => (overstayIx_ne l k).1]
          exact hcond
        · exact isolatedAfter_mono (hent.isolated hi) rfl rfl rfl rfl rfl rfl (congrArg sansSignal hdkc) hplaced
        · rw [ht]
          exact closeRecord_gone _ _ _
        · rw [ht]
          exact closed_left honLane hmoves .entered k
        · have hrev := hent.reviewed hw
          have hx : findRec x r.id = some { r with deckLane := some l } := by
            rw [findRec, enterDeck_rtb rfl]
            exact honLane
          obtain ⟨a, ha, -⟩ := hrev.granted.stands r.id _ hx
          have hsize : (onLane l r.id s).rtb.pool.length + (onLane l r.id s).rtb.history.length ≤ 64 := by
            simpa [onLane, changeRec] using hs
          refine ⟨summaryOf { r with deckLane := some l, admission := a } .entered (deckReview x).tbu.time, ?_, rfl, rfl, rfl,
            congrArg (·.time) htime⟩
          rw [ht]
          exact mem_closeRecord_history ha .entered (hmoves.size.trans hsize)
        · rw [hdkc] at hst ⊢
          rcases hent.moved hn hst with ⟨hprev, hnew, hrep⟩ | ⟨hprev, hnew, hrep⟩
          · rw [hprev, hnew]
            exact hplaced _ _ hrep
          · rw [hprev, hnew]
            exact hplaced _ _ hrep
      · let x := enterDeck l (heavyEntry r.id time g.load true false) (aboard l r .used (endGrant r.id (onLane l r.id s)))
        have hgrant : (onLane l r.id s).dkc.grants.find? (·.id == r.id) = some g := hg
        have hload : reservedLoad (onLane l r.id s) r = g.load := by
          rw [reservedLoad, hgrant]
          rfl
        have ht : t = deckReview x := by
          rw [hmatched, matchedArrival_heavy hroom hd, enterHeavy_granted ha, hload]
        have hent : Entered l (heavyEntry r.id time g.load true false) s x := enterDeck_entered rfl
          ((hlane.trans (endGrant_recordsOnly _ _)).trans (aboard_recordsOnly _ _ _ _))
        have hmoves : DeckMoves (aboard l r .used (endGrant r.id (onLane l r.id s))) t := by
          rw [ht]
          exact (enterDeck_deckMoves rfl _).trans (deckReview_deckMoves x)
        have hended := endGrant_some hgrant
        refine ⟨htail _ _ rfl hent ht, ?_, hmoved _ _ hent ht, fun hw => ?_⟩
        · rw [hmoves.unadmitted, hended]
          rfl
        · have hrev := hent.reviewed hw
          obtain ⟨hgrants, hqueue, hcommitted⟩ := enterDeck_account (l := l) (e := heavyEntry r.id time g.load true false) rfl
            (aboard l r .used (endGrant r.id (onLane l r.id s)))
          have hkept : (endGrant r.id (onLane l r.id s)).dkc.queue = s.dkc.queue := by
            rw [hended]
            rfl
          have herased : (endGrant r.id (onLane l r.id s)).dkc.grants = s.dkc.grants.eraseP (·.id == r.id) := by
            rw [hended]
            rfl
          have hreleased : (endGrant r.id (onLane l r.id s)).dkc.committed = s.dkc.committed - g.load := by
            rw [hended]
            rfl
          have hfoundEnded : findRec (endGrant r.id (onLane l r.id s)) r.id = some { r with deckLane := some l } := by
            rw [hended]
            exact honLane
          have hboards := boarded_after (x := x) (e := heavyEntry r.id time g.load true false) rfl hfoundEnded rfl hrev.granted
          have hcounts := hrev.granted.counted (hgrants.trans herased) (hqueue.trans hkept) (hcommitted.trans hreleased)
          clear_value t
          subst ht
          exact ⟨hboards, hcounts⟩
      · let x := countUnadmitted
          (enterDeck l (heavyEntry r.id time (r.upper.getD 0) false false) (aboard l r .unadmitted (leaveQueue r.id (onLane l r.id s))))
        have ht : t = deckReview x := by
          rw [hmatched, matchedArrival_heavy hroom hd, enterHeavy_unadmitted ha]
        have hent : Entered l (heavyEntry r.id time (r.upper.getD 0) false false) s x :=
          (enterDeck_entered rfl (RecordsOnly.trans (s := s) (t := leaveQueue r.id (onLane l r.id s)) rfl
            (aboard_recordsOnly _ _ _ _))).of_eq rfl rfl rfl rfl rfl
        refine ⟨htail _ _ rfl hent ht, ?_, hmoved _ _ hent ht, fun hw => ?_⟩
        · rw [ht, (deckReview_deckMoves x).unadmitted]
          exact congrArg (· + 1) (enterDeck_deckMoves (l := l) (e := heavyEntry r.id time (r.upper.getD 0) false false) rfl _).unadmitted
        · have hrev := hent.reviewed hw
          obtain ⟨hgrants, hqueue, hcommitted⟩ := enterDeck_account (l := l) (e := heavyEntry r.id time (r.upper.getD 0) false false) rfl
            (aboard l r .unadmitted (leaveQueue r.id (onLane l r.id s)))
          have hboards := boarded_after (x := x) (e := heavyEntry r.id time (r.upper.getD 0) false false)
            (s := leaveQueue r.id (onLane l r.id s)) rfl honLane rfl hrev.granted
          have hcounts := hrev.granted.counted hgrants hqueue hcommitted
          clear_value t
          subst ht
          exact ⟨hboards, hcounts⟩
      · intro load e
        have hload : divertLoad (onLane l r.id s) r = load := divertLoad_eq _ r
        have hstands := divertEntered_stands l time r (onLane l r.id s)
        have ht : t = deckReview (isolate (divertEntered l time r (onLane l r.id s))) := by
          rw [hmatched, matchedArrival_divert hroom hd, enterDivert_eq]
        have hleaves := isolate_leaves hstands.noncompliant
        rw [← ht] at hleaves
        generalize divertEntered l time r (onLane l r.id s) = y at hstands hleaves
        have hlists : t.dkc.lists = put s.dkc.lists l (s.dkc.lists[l] ++ [⟨.heavy, some r.id, time, load, false, false, true, false, false⟩]) := by
          rw [hleaves.lists, hstands.lists, hload]
          rfl
        have honDeck : t.dkc.onDeck = s.dkc.onDeck + load := by
          rw [hleaves.onDeck, hstands.onDeck, hload]
          rfl
        obtain ⟨hgrants, hqueue, hcommitted⟩ := hstands.account
        refine ⟨⟨fun hn => ⟨hlists, honDeck, ?_, hleaves.given.trans hstands.given⟩, fun hi => ?_⟩, ⟨fun k => ?_, fun _ => ?_⟩,
          hleaves.grants.trans hgrants, hleaves.queue.trans hqueue, hleaves.committed.trans hcommitted,
          hleaves.counters.1.trans hstands.counted, ?_, hleaves.conds.trans hstands.conds, fun hst => ?_, fun hr hc hi => ?_⟩
        · have hput : t.cmn.conds[overstayIx l] = (put s.cmn.conds (overstayIx l) o)[overstayIx l] := by
            rw [hleaves.conds, hstands.conds]
            exact put_getElem_other _ _ _ _ (overstayIx_ne l l).2
          exact hput.trans (put_getElem_self _ _ _)
        · have hst : t.dkc.st = .isolated := by
            rw [hleaves.stays (.inr (.inr (hstands.st.trans hi)))]
            exact hstands.st.trans hi
          exact (if_pos ⟨l, _, by rw [put_getElem_self]; exact List.mem_append_right _ (List.mem_singleton_self _), rfl⟩).mpr ⟨hst, hlists, honDeck⟩
        · rw [hleaves.rtb, hstands.rtb]
          exact leaveApproach_left r.id (onLane l r.id s) k
        · rw [findRec, hleaves.rtb, hstands.rtb]
          exact findRec_aboard honLane
        · rw [hleaves.counters.2]
          exact hstands.noticed
        · have ht := hleaves.stays (by rw [hstands.st]; exact hst)
          rw [ht]
          exact ⟨hstands.st, hstands.reported⟩
        · have hfrom := hleaves.isolates
          rw [hstands.st] at hfrom
          exact hfrom hr hc hi
  · intro t
    obtain ⟨v, ht, hafter⟩ := thresholdArrive_full (t := time) hfull
    have hover := listOverflow_overflowed v
    rw [← ht] at hover
    have hst : v.dkc.st = s.dkc.st := by rw [hafter.dkc]
    have hclosed : s.dkc.st = .closed → sansSignal t.dkc = sansSignal v.dkc := fun hc => hover.closed (hst.trans hc)
    have hresync : s.dkc.st ≠ .closed → t.dkc = resyncDkc v ∧ DeckReported v.dkc.st .listOverflow t := fun hc =>
      hover.resync fun hv => hc (hst.symm.trans hv)
    refine ⟨?_, hover.rtk.trans hafter.rtk, hover.counts.1.trans hafter.counts.1, hover.counts.2.1.trans hafter.counts.2.1,
      hover.counts.2.2.trans hafter.counts.2.2, fun hc => ?_, fun hc => ?_, fun hnone => ?_, fun r htaken => ?_⟩
    · rw [hover.fault, hafter.time, hafter.desync]
    · refine ⟨(congrArg (·.st) (hclosed hc) :).trans (hst.trans hc), (congrArg (·.lists) (hclosed hc) :).trans ?_,
        (congrArg (·.onDeck) (hclosed hc) :).trans ?_⟩
      · exact congrArg (·.lists) hafter.dkc
      · exact congrArg (·.onDeck) hafter.dkc
    · obtain ⟨hdkc, hrep⟩ := hresync hc
      rw [hst] at hrep
      rw [hdkc]
      exact ⟨rfl, rfl, rfl, rfl, rfl, hrep⟩
    · have hself : t = listOverflow s := by
        have hn : thresholdArrive l time s = unmatchedArrival l time s := by rw [thresholdArrive, hnone]
        exact hn.trans (if_pos ((listIsFull_iff s l).mpr hfull))
      have hown := listOverflow_overflowed s
      rw [← hself] at hown
      refine ⟨fun hc => ?_, fun hc => ?_⟩
      · have hfault : t = giveFault desyncIx s.tbu.time s := by
          have hstill : ((giveFault desyncIx s.tbu.time s).dkc.st == .closed) = true := by
            rw [(giveFault_same _ _ _).dkc, hc]
            rfl
          exact hself.trans (if_pos hstill)
        rw [hfault]
        exact (giveFault_places desyncIx s.tbu.time s).toPlacedFrom
      · rw [(hown.resync hc).1]
        rfl
    · have hfound := thresholdTaken_found htaken
      have hself : t = listOverflow (closeRecord r.id (refusedAs r) (refused l r s)) := by
        rw [← refuseArrival_eq, ← matchedArrival_refused (t := time) hfull, ← thresholdArrive_matched htaken]
      have hown := listOverflow_overflowed (closeRecord r.id (refusedAs r) (refused l r s))
      rw [← hself] at hown
      have hrefused := findRec_refused (l := l) hfound
      have htime : (refused l r s).tbu.time = s.tbu.time := by rw [refused_recordsOnly l r s]
      obtain ⟨hpool, hhistory⟩ := refused_size l r s
      obtain ⟨hgrants, hqueue⟩ := refused_account l r s
      have hdkc := closeRecord_dkc r.id (refusedAs r) (refused l r s)
      have hkept : s.dkc.st = .closed → sansSignal t.dkc = sansSignal (refused l r s).dkc := fun hc => by
        rw [hown.closed (by rw [hdkc, refused_recordsOnly l r s]; exact hc), hdkc]
      refine ⟨hown.gone _ (closeRecord_gone _ _ _), fun k hk => ?_, fun hs => ?_, ⟨fun hc => ⟨?_, ?_⟩, fun hc => ?_⟩, fun g hc ha hg => ?_⟩
      · exact closed_left hrefused (.refl _) (refusedAs r) k (hown.away k _ hk)
      · have hsize : (refused l r s).rtb.pool.length + (refused l r s).rtb.history.length ≤ 64 := by rw [hpool, hhistory]; exact hs
        have hin := mem_closeRecord_history hrefused (refusedAs r) hsize
        exact ⟨_, hown.history ((closeRecord_deckMoves _ _ _).size.trans hsize) _ hin, rfl, rfl, htime, rfl⟩
      · exact (congrArg (·.grants) (hkept hc) :).trans hgrants
      · exact (congrArg (·.queue) (hkept hc) :).trans hqueue
      · have hne : (closeRecord r.id (refusedAs r) (refused l r s)).dkc.st ≠ .closed := by
          rw [hdkc, refused_recordsOnly l r s]
          exact hc
        rw [(hown.resync hne).1, resyncDkc, hdkc, hgrants, hqueue]
      · exact (congrArg (·.committed) (hkept hc) :).trans (refused_committed ha hg)

end Sys2Proof.Proofs
end

section
/-! SUPPORT. What the blocks do at a commit: lanes made absent or present, loops that go out of use, come into use or are read again, and the deck
(R54, R142, R151, R163). -/

namespace Sys2Proof.Machine

open Sys2Proof.Safety

/-! ### The frame of a commit -/

/-- The channel's detector is OFF with nothing held. -/
def IsOff (u : ScuState) : Prop := u.det = .off ∧ u.cur = none ∧ u.stuckRun = 0

/-- What the steps of a commit leave between s and t: the deck gains no entry and every new grant has the present time, an emptied assembler
stays empty, records PENDING only go, camera pulses and a zero measurement only end, a detector that is OFF stays so, and settings, converter,
device mode, answers and STORE_FAULT are as before. -/
structure Commits (s t : State) : Prop where
  flow    : DeckFlow s t
  las     : ∀ l : Lane, s.las[l] = emptyLas s.las[l] → t.las[l] = s.las[l]
  pending : ∀ l : Lane, ∀ p ∈ t.las[l].pendingList, p ∈ s.las[l].pendingList
  camera  : ∀ l : Lane, s.dcu.camera[l] = none → t.dcu.camera[l] = none
  off     : ∀ c : Chan, IsOff s.scu[c] → IsOff t.scu[c]
  meas    : ∀ m, t.zsc.meas = some m → s.zsc.meas = some m
  sst     : t.sst = s.sst
  csq     : t.csq = s.csq
  mode    : t.cmn.mode = s.cmn.mode
  answers : answerPath t = answerPath s
  store   : t.cmn.conds[storeFaultIx] = s.cmn.conds[storeFaultIx]

theorem Commits.refl (s : State) : Commits s s :=
  ⟨.refl s, fun _ _ => rfl, fun _ _ h => h, fun _ h => h, fun _ h => h, fun _ h => h, rfl, rfl, rfl, rfl, rfl⟩

theorem Commits.trans {s t u : State} (h : Commits s t) (k : Commits t u) : Commits s u where
  flow := h.flow.trans k.flow
  las l hl := by
    have ht := h.las l hl
    exact (k.las l (by rw [ht]; exact hl)).trans ht
  pending l p hp := h.pending l p (k.pending l p hp)
  camera l hl := k.camera l (h.camera l hl)
  off c hc := k.off c (h.off c hc)
  meas m hm := h.meas m (k.meas m hm)
  sst := k.sst.trans h.sst
  csq := k.csq.trans h.csq
  mode := k.mode.trans h.mode
  answers := k.answers.trans h.answers
  store := k.store.trans h.store

theorem storeFault_loopIx : LoopIx storeFaultIx := .inl rfl

/-- An operation of the deck. -/
theorem Commits.of_deck {s t : State} (k : DeckMoves s t) (f : DeckFlow s t) (b : SameB s t) : Commits s t where
  flow := f
  las l hl := by
    obtain ⟨ps, ht, hps⟩ := k.las l
    rw [hl] at hps
    have hnil : ps = [] := List.eq_nil_iff_forall_not_mem.mpr fun p hp => List.not_mem_nil (hps p hp)
    rw [ht, hnil, hl]
    rfl
  pending l p hp := by
    obtain ⟨ps, ht, hps⟩ := k.las l
    rw [ht] at hp
    exact hps p hp
  camera l hl := by rw [b.dcu]; exact hl
  off c hc := by rw [b.scu]; exact hc
  meas m hm := by rw [b.zsc] at hm; exact hm
  sst := b.sst
  csq := b.csq
  mode := k.aside.mode
  answers := k.answers
  store := k.aside.conds _ storeFault_loopIx

/-- An operation that leaves records, assemblers, strips and deck. -/
theorem Commits.of_same {s t : State} (h : SameA s t) (ha : Aside s t) : Commits s t where
  flow := .of_dkc (fun id hid => by rwa [findRec, h.rtb]) h.tbu h.dkc
  las l _ := by rw [h.las]
  pending l p hp := by rw [h.las] at hp; exact hp
  camera l hl := by rw [h.dcu]; exact hl
  off c hc := by rw [h.scu]; exact hc
  meas m hm := by rw [h.zsc] at hm; exact hm
  sst := h.sst
  csq := h.csq
  mode := ha.mode
  answers := ha.answers
  store := ha.conds _ storeFault_loopIx

/-! ### The deck's steps -/

theorem blindBegins_flow (s : State) : DeckFlow s (blindBegins s) := by
  rw [blindBegins]
  split
  iterate 3 exact enterBlind_flow _ _
  iterate 2 exact ((flushOut_flow _).trans (deckReview_flow _)).after rfl rfl rfl rfl rfl rfl
  all_goals exact (flushOut_flow _).trans (deckReview_flow _)

theorem reviewBlind_flow (further : Bool) (s : State) : DeckFlow s (reviewBlind further s) := by
  have hblind : DeckFlow s (withBlind (blindNow s) s) := (DeckFlow.refl _).after rfl rfl rfl rfl rfl rfl
  refine hblind.trans ?_
  rw [reviewBlind]
  dsimp only
  split
  · split
    · exact blindBegins_flow _
    · split
      · exact (flushOut_flow _).trans (deckReview_flow _)
      · exact .refl _
  · split
    · exact enterResync_flow _ _
    · exact .refl _

/-! ### The verdict on a ghost (R137) -/

/-- A list in which one entry has been changed holds each entry as it was or changed. -/
theorem changeFirst_mem {α : Type} {p : α → Bool} {f : α → α} {xs ys : List α} (h : changeFirst p f xs = some ys) :
    (∀ y ∈ ys, ∃ x ∈ xs, y = x ∨ y = f x) ∧ ∀ x ∈ xs, x ∈ ys ∨ f x ∈ ys := by
  induction xs generalizing ys with
  | nil => cases h
  | cons x xs ih =>
    rw [changeFirst] at h
    split at h
    · cases h
      refine ⟨fun y hy => ?_, fun z hz => ?_⟩
      · rcases List.mem_cons.mp hy with rfl | hy
        · exact ⟨x, List.mem_cons_self, .inr rfl⟩
        · exact ⟨y, List.mem_cons_of_mem _ hy, .inl rfl⟩
      · rcases List.mem_cons.mp hz with rfl | hz
        · exact .inr List.mem_cons_self
        · exact .inl (List.mem_cons_of_mem _ hz)
    · obtain ⟨zs, hzs, rfl⟩ := Option.map_eq_some_iff.mp h
      obtain ⟨hback, hforth⟩ := ih hzs
      refine ⟨fun y hy => ?_, fun z hz => ?_⟩
      · rcases List.mem_cons.mp hy with rfl | hy
        · exact ⟨y, List.mem_cons_self, .inl rfl⟩
        · obtain ⟨z, hz, he⟩ := hback y hy
          exact ⟨z, List.mem_cons_of_mem _ hz, he⟩
      · rcases List.mem_cons.mp hz with rfl | hz
        · exact .inl List.mem_cons_self
        · exact (hforth z hz).imp (List.mem_cons_of_mem _) (List.mem_cons_of_mem _)

theorem changeLatestGhost_mem {f : DeckEntry → DeckEntry} {es fs : List DeckEntry} (h : changeLatestGhost f es = some fs) :
    (∀ e ∈ fs, ∃ x ∈ es, e = x ∨ e = f x) ∧ ∀ x ∈ es, x ∈ fs ∨ f x ∈ fs := by
  obtain ⟨gs, hgs, rfl⟩ := Option.map_eq_some_iff.mp h
  obtain ⟨hback, hforth⟩ := changeFirst_mem hgs
  simpa only [List.mem_reverse] using And.intro hback hforth

/-- The list of a lane replaced by one of the same records and times. -/
theorem withList_flow {l : Lane} {es : List DeckEntry} {load : Nat} {s : State} (hback : ∀ e ∈ es, ∃ old ∈ s.dkc.lists[l], SameEntry old e)
    (hforth : ∀ x ∈ s.dkc.lists[l], ∃ e ∈ es, SameEntry x e) : DeckFlow s (withList l es load s) where
  entries k e he := by
    by_cases hk : k = l
    · subst hk
      rw [show (withList k es load s).dkc.lists[k] = es from put_getElem_self _ _ _] at he
      exact hback e he
    · rw [show (withList l es load s).dkc.lists[k] = _ from put_getElem_other _ _ _ _ hk] at he
      exact ⟨e, he, .refl e⟩
  left k e he id hid := by
    by_cases hk : k = l
    · subst hk
      rw [show (withList k es load s).dkc.lists[k] = es from put_getElem_self _ _ _]
      obtain ⟨x, hx, hsame⟩ := hforth e he
      exact .inl ⟨x, hx, hsame.recId.trans hid⟩
    · rw [show (withList l es load s).dkc.lists[k] = _ from put_getElem_other _ _ _ _ hk]
      exact .inl ⟨e, he, hid⟩
  gone _ h := h
  grants _ h := .inl h
  last := .inl rfl
  times := ⟨0, (List.append_nil _).symm⟩
  tbu := rfl

/-- A change of list, load, ghost mark and unadmitted counter alone. -/
theorem Commits.of_flow {s t : State} (f : DeckFlow s t) (hlas : t.las = s.las) (hdcu : t.dcu = s.dcu) (hscu : t.scu = s.scu)
    (hzsc : t.zsc = s.zsc) (hsst : t.sst = s.sst) (hcsq : t.csq = s.csq) (ha : Aside s t) : Commits s t where
  flow := f
  las l _ := by rw [hlas]
  pending l p hp := by rw [hlas] at hp; exact hp
  camera l hl := by rw [hdcu]; exact hl
  off c hc := by rw [hscu]; exact hc
  meas m hm := by rw [hzsc] at hm; exact hm
  sst := hsst
  csq := hcsq
  mode := ha.mode
  answers := ha.answers
  store := ha.conds _ storeFault_loopIx

/-- A step of the deck at a commit, with what it leaves beside. -/
structure DeckStep (s t : State) : Prop where
  commits : Commits s t
  aside   : Aside s t
  liu     : t.liu = s.liu

theorem DeckStep.refl (s : State) : DeckStep s s := ⟨.refl s, .refl s, rfl⟩

theorem DeckStep.trans {s t u : State} (h : DeckStep s t) (k : DeckStep t u) : DeckStep s u :=
  ⟨h.commits.trans k.commits, h.aside.trans k.aside, k.liu.trans h.liu⟩

theorem DeckStep.of_deck {s t : State} (k : DeckMoves s t) (f : DeckFlow s t) (b : SameB s t) : DeckStep s t := ⟨.of_deck k f b, k.aside, b.liu⟩

theorem deckReview_step (s : State) : DeckStep s (deckReview s) := .of_deck (deckReview_deckMoves s) (deckReview_flow s) (deckReview_same s)

theorem reviewBlind_step (further : Bool) (s : State) : DeckStep s (reviewBlind further s) :=
  .of_deck (reviewBlind_deckMoves further s) (reviewBlind_flow further s) (reviewBlind_same further s)

theorem flushLane_step (s : State) (l : Lane) : DeckStep s (flushLane s l) :=
  .of_deck (flushLane_deckMoves s l) (flushLane_flow s l) (flushLane_same s l)

theorem useFree_step (s : State) : DeckStep s (useFree s) :=
  ⟨.of_flow (.of_dkc (fun _ h => h) rfl rfl) rfl rfl rfl rfl rfl rfl ⟨rfl, rfl, rfl, fun _ _ => rfl⟩, ⟨rfl, rfl, rfl, fun _ _ => rfl⟩, rfl⟩

theorem settleGhost_step (l : Lane) (s : State) : DeckStep s (settleGhost l true s) := by
  have haside : Aside s (unmarked l s) := ⟨rfl, rfl, rfl, fun _ _ => rfl⟩
  have hmark : DeckStep s (unmarked l s) :=
    ⟨.of_flow (.of_dkc (fun _ h => h) rfl rfl) rfl rfl rfl rfl rfl rfl haside, haside, rfl⟩
  have hsettle : settleGhost l true s = Machine.ghostVerdict l true (unmarked l s) := rfl
  rw [hsettle]
  refine hmark.trans ?_
  generalize unmarked l s = u
  rw [Machine.ghostVerdict, if_pos rfl]
  dsimp only
  split
  · exact .refl u
  next es hes =>
    obtain ⟨hback, hforth⟩ := changeLatestGhost_mem hes
    have hchanged : ∀ e : DeckEntry, SameEntry e { e with kind := .heavy, load := u.sst.live.deck.unknownLoad } := fun _ => ⟨rfl, rfl, rfl, rfl⟩
    have hflow : DeckFlow u (withList l es u.sst.live.deck.unknownLoad u) := by
      refine withList_flow (fun e he => ?_) fun x hx => ?_
      · obtain ⟨x, hx, rfl | rfl⟩ := hback e he
        · exact ⟨_, hx, .refl _⟩
        · exact ⟨x, hx, hchanged x⟩
      · rcases hforth x hx with h | h
        · exact ⟨x, h, .refl x⟩
        · exact ⟨_, h, hchanged x⟩
    have hside : Aside u (countUnadmitted (withList l es u.sst.live.deck.unknownLoad u)) := ⟨rfl, rfl, rfl, fun _ _ => rfl⟩
    have hcount : DeckStep u (countUnadmitted (withList l es u.sst.live.deck.unknownLoad u)) :=
      ⟨.of_flow (hflow.trans (.of_dkc (fun _ h => h) rfl rfl)) rfl rfl rfl rfl rfl rfl hside, hside, rfl⟩
    exact hcount.trans (deckReview_step _)

theorem deckLoopLost_step (l : Lane) (s : State) : DeckStep s (deckLoopLost l s) := by
  rw [deckLoopLost]
  split
  · exact .refl s
  · exact reviewBlind_step true s

theorem thresholdLost_step (l : Lane) (s : State) : DeckStep s (thresholdLost l s) := by
  rw [thresholdLost]
  split
  · exact deckLoopLost_step l s
  · split
    · exact settleGhost_step l s
    · split
      · exact ((useFree_step s).trans (settleGhost_step l _)).trans (deckLoopLost_step l _)
      · exact ((useFree_step s).trans (deckLoopLost_step l _)).trans (settleGhost_step l _)

theorem flushAbsent_step (l : Lane) (s : State) : DeckStep s (flushAbsent l s) := by
  rw [flushAbsent]
  split
  · split
    · exact ((useFree_step s).trans (settleGhost_step l _)).trans (flushLane_step _ l)
    · exact ((useFree_step s).trans (flushLane_step _ l)).trans (settleGhost_step l _)
  · exact flushLane_step s l

/-! ### A lane made absent (R142, R163) -/

/-- A list that is empty stays so. -/
theorem DeckFlow.empty {s t : State} (h : DeckFlow s t) {l : Lane} (hl : s.dkc.lists[l] = []) : t.dkc.lists[l] = [] :=
  List.eq_nil_iff_forall_not_mem.mpr fun e he => by
    obtain ⟨old, hold, -⟩ := h.entries l e he
    rw [hl] at hold
    cases hold

theorem flushAbsent_lists (l : Lane) (s : State) : (flushAbsent l s).dkc.lists[l] = [] := by
  rw [flushAbsent]
  split
  · split
    · exact flushLane_lists_self _ _
    · exact (settleGhost_step l _).commits.flow.empty (flushLane_lists_self _ _)
  · exact flushLane_lists_self _ _

/-- What making a lane absent leaves. -/
structure LaneDropped (l : Lane) (wasClosed : Bool) (s t : State) : Prop extends DeckStep s t where
  camera : t.dcu.camera[l] = none
  list   : t.dkc.lists[l] = []
  shut   : wasClosed = false → (∀ c : Chan, chanLane c = l → IsOff t.scu[c]) ∧ ∀ m, t.zsc.meas = some m → chanLane m.chan ≠ l

theorem dropLane_dropped {l : Lane} {wasClosed : Bool} {s : State} (h : wasClosed = false → s.las[l] = emptyLas s.las[l]) :
    LaneDropped l wasClosed s (dropLane wasClosed l s) := by
  let x : State := { s with dcu := { s.dcu with camera := put s.dcu.camera l none } }
  have haside : Aside s x := ⟨rfl, rfl, rfl, fun _ _ => rfl⟩
  have hdark : x.dcu.camera[l] = none := put_getElem_self _ _ _
  have hcamera : DeckStep s x := by
    refine ⟨⟨.of_dkc (fun _ h => h) rfl rfl, fun _ _ => rfl, fun _ _ h => h, fun k hk => ?_, fun _ h => h, fun _ h => h, rfl, rfl, rfl, rfl, rfl⟩,
      haside, rfl⟩
    by_cases hkl : k = l
    · subst hkl
      exact hdark
    · exact (put_getElem_other _ _ _ _ hkl).trans hk
  have hflush := fun u => flushAbsent_step l u
  cases wasClosed with
  | true =>
    have hdrop : dropLane true l s = flushAbsent l (abandonLaneZero l x) := rfl
    have hzero : DeckStep x (abandonLaneZero l x) := by
      have hside := abandonLaneZero_aside l x
      have hmeas := fun m (hm : (abandonLaneZero l x).zsc.meas = some m) => (abandonLaneZero_meas l x hm).1
      have heq := abandonLaneZero_eq l x
      generalize abandonLaneZero l x = y at hside hmeas heq
      have hrest : y.rtb = x.rtb ∧ y.dkc = x.dkc ∧ y.tbu = x.tbu ∧ y.las = x.las ∧ y.dcu = x.dcu ∧ y.scu = x.scu ∧ y.sst = x.sst ∧
          y.csq = x.csq ∧ y.liu = x.liu := by
        rw [heq]
        exact ⟨rfl, rfl, rfl, rfl, rfl, rfl, rfl, rfl, rfl⟩
      obtain ⟨hrtb, hdkc, htbu, hlas, hdcu, hscu, hsst, hcsq, hliu⟩ := hrest
      refine ⟨⟨.of_dkc (fun id hid => by rwa [findRec, hrtb]) htbu hdkc, fun _ _ => by rw [hlas], fun k p hp => hlas ▸ hp, fun k hk => hdcu ▸ hk,
        fun c hc => hscu ▸ hc, hmeas, hsst, hcsq, hside.mode, hside.answers, hside.conds _ storeFault_loopIx⟩, hside, hliu⟩
    have hstep := hcamera.trans hzero
    rw [hdrop]
    refine ⟨hstep.trans (hflush _), ?_, flushAbsent_lists l _, fun hc => Bool.noConfusion hc⟩
    exact (hzero.trans (hflush _)).commits.camera l hdark
  | false =>
    have hempty : x.las[l] = emptyLas x.las[l] := h rfl
    have hshut := shutLane_shut (l := l) (s := x) (by rw [hempty]; rfl)
    have hsame := shutLane_same l x
    have hdrop : dropLane false l s = flushAbsent l (shutLane l x) := rfl
    have hoff : ∀ c, chanLane c = l → IsOff (shutLane l x).scu[c] := fun c hc => by
      rw [hshut.scu c, if_pos hc]
      exact ⟨rfl, rfl, rfl⟩
    rw [hdrop]
    generalize shutLane l x = y at hshut hsame hoff
    have hstep : DeckStep x y := by
      refine ⟨⟨.of_dkc (fun id hid => by rwa [findRec, hshut.rtb]) hsame.tbu hshut.dkc, fun _ _ => by rw [hshut.las], fun k p hp => hshut.las ▸ hp,
        fun k hk => hshut.dcu ▸ hk, fun c hc => ?_, fun m hm => (hshut.meas m hm).1, hsame.sst, hsame.csq, hshut.aside.mode,
        hshut.aside.answers, hshut.aside.conds _ storeFault_loopIx⟩, hshut.aside, hsame.liu⟩
      rw [hshut.scu c]
      split
      · exact ⟨rfl, rfl, rfl⟩
      · exact hc
    refine ⟨(hcamera.trans hstep).trans (hflush _), (hstep.trans (hflush _)).commits.camera l hdark, flushAbsent_lists l _, fun _ => ⟨fun c hc => ?_,
      fun m hm => ?_⟩⟩
    · exact (hflush y).commits.off c (hoff c hc)
    · exact (hshut.meas m ((hflush y).commits.meas m hm)).2

/-! ### The lanes at a commit (R163) -/

/-- A property of two states that a chain of steps gives from its parts: the step for b, and what is kept before and after it. -/
theorem foldl_at {β : Type} {f : State → β → State} {R : State → State → Prop} (hrefl : ∀ s, R s s)
    (htrans : ∀ s t u, R s t → R t u → R s u) {bs : List β} (hn : bs.Nodup) {b : β} (hb : b ∈ bs) (h : ∀ s c, c ≠ b → R s (f s c)) (s : State) :
    ∃ u, R s u ∧ R (f u b) (bs.foldl f s) := by
  have hfold : ∀ (cs : List β), b ∉ cs → ∀ u, R u (cs.foldl f u) := fun cs => by
    induction cs with
    | nil => exact fun _ u => hrefl u
    | cons c cs ih =>
      intro hc u
      rw [List.mem_cons, not_or] at hc
      exact htrans _ _ _ (h u c fun he => hc.1 he.symm) (ih hc.2 _)
  obtain ⟨pre, post, rfl⟩ := List.append_of_mem hb
  rw [List.nodup_middle, List.nodup_cons, List.mem_append, not_or] at hn
  refine ⟨pre.foldl f s, hfold pre hn.1.1 s, ?_⟩
  rw [List.foldl_append, List.foldl_cons]
  exact hfold post hn.1.2 _

/-- The new settings are live, and the assemblers of the lanes given are empty. -/
structure Ready (shut : List Lane) (w : Settings) (s : State) : Prop where
  live  : s.sst.live = w
  empty : ∀ l ∈ shut, s.las[l] = emptyLas s.las[l]

theorem Commits.ready {shut : List Lane} {w : Settings} {s t : State} (h : Commits s t) (k : Ready shut w s) : Ready shut w t where
  live := (congrArg SstState.live h.sst).trans k.live
  empty l hl := by
    rw [h.las l (k.empty l hl)]
    exact k.empty l hl

/-- What the commit of lanes leaves beside the closed marks. -/
structure LaneStep (s t : State) : Prop where
  commits : Commits s t
  conds   : ∀ ix, LoopIx ix → t.cmn.conds[ix] = s.cmn.conds[ix]
  liu     : t.liu = s.liu

theorem LaneStep.refl (s : State) : LaneStep s s := ⟨.refl s, fun _ _ => rfl, rfl⟩

theorem LaneStep.trans {s t u : State} (h : LaneStep s t) (k : LaneStep t u) : LaneStep s u :=
  ⟨h.commits.trans k.commits, fun ix hix => (k.conds ix hix).trans (h.conds ix hix), k.liu.trans h.liu⟩

theorem DeckStep.lane {s t : State} (h : DeckStep s t) : LaneStep s t := ⟨h.commits, h.aside.conds, h.liu⟩

theorem lanePresent_false {st : Settings} {l : Lane} : lanePresent st l = false ↔ st.site.laneCount ≤ l.val := by
  rw [lanePresent, decide_eq_false_iff_not, not_lt]

section Lanes

variable {old w : Settings} {modes : Vector LaneMode 3} {shut : List Lane}

/-- The lanes to be shut are those made absent whose mode was not CLOSED. -/
def ShutsAll (old w : Settings) (modes : Vector LaneMode 3) (shut : List Lane) : Prop :=
  ∀ l : Lane, l.val < old.site.laneCount → w.site.laneCount ≤ l.val → modes[l] ≠ .closed → l ∈ shut

theorem commitLane_dropped {s : State} {l : Lane} (hshut : ShutsAll old w modes shut) (hs : Ready shut w s) (ho : l.val < old.site.laneCount)
    (hw : w.site.laneCount ≤ l.val) : LaneDropped l (modes[l] == .closed) s (commitLane old modes s l) := by
  have hold : lanePresent old l = true := (lanePresent_iff old l).mpr ho
  have hnew : lanePresent s.sst.live l = false := by
    rw [hs.live]
    exact lanePresent_false.mpr hw
  have heq : commitLane old modes s l = dropLane (modes[l] == .closed) l s := by rw [commitLane, hold, hnew]
  rw [heq]
  exact dropLane_dropped fun hc => hs.empty l (hshut l ho hw (beq_eq_false_iff_ne.mp hc))

/-- The state with the closed mark of a lane set. -/
def marked (l : Lane) (s : State) : State := { s with cmn.closedMark := put s.cmn.closedMark l true }

theorem commitLane_marked {s : State} {l : Lane} (hs : s.sst.live = w) (ho : old.site.laneCount ≤ l.val) (hw : l.val < w.site.laneCount) :
    commitLane old modes s l = marked l s := by
  have hold : lanePresent old l = false := lanePresent_false.mpr ho
  have hnew : lanePresent s.sst.live l = true := by
    rw [hs]
    exact (lanePresent_iff w l).mpr hw
  rw [commitLane, hold, hnew]
  rfl

theorem commitLane_stays {s : State} {l : Lane} (hs : s.sst.live = w) (h : l.val < old.site.laneCount ↔ l.val < w.site.laneCount) :
    commitLane old modes s l = s := by
  have hsame : lanePresent s.sst.live l = lanePresent old l := by
    rw [hs, Bool.eq_iff_iff, lanePresent_iff, lanePresent_iff]
    exact h.symm
  rw [commitLane, hsame]
  cases lanePresent old l <;> rfl

theorem marked_step (l : Lane) (s : State) : LaneStep s (marked l s) :=
  ⟨⟨.of_dkc (fun _ h => h) rfl rfl, fun _ _ => rfl, fun _ _ h => h, fun _ h => h, fun _ h => h, fun _ h => h, rfl, rfl, rfl, rfl, rfl⟩,
    fun _ _ => rfl, rfl⟩

/-- One lane at a commit: the step, and the closed marks. -/
theorem commitLane_step {s : State} (hshut : ShutsAll old w modes shut) (hs : Ready shut w s) (l : Lane) :
    LaneStep s (commitLane old modes s l) ∧ (commitLane old modes s l).cmn.closedMark =
      if old.site.laneCount ≤ l.val ∧ l.val < w.site.laneCount then put s.cmn.closedMark l true else s.cmn.closedMark := by
  by_cases ho : l.val < old.site.laneCount
  · have hnot : ¬ (old.site.laneCount ≤ l.val ∧ l.val < w.site.laneCount) := fun h => absurd ho (not_lt.mpr h.1)
    rw [if_neg hnot]
    by_cases hw : l.val < w.site.laneCount
    · rw [commitLane_stays hs.live (iff_of_true ho hw)]
      exact ⟨.refl s, rfl⟩
    · have hdrop := commitLane_dropped hshut hs ho (not_lt.mp hw)
      exact ⟨hdrop.lane, hdrop.aside.closed⟩
  · by_cases hw : l.val < w.site.laneCount
    · rw [commitLane_marked hs.live (not_lt.mp ho) hw, if_pos ⟨not_lt.mp ho, hw⟩]
      exact ⟨marked_step l s, rfl⟩
    · rw [commitLane_stays hs.live (iff_of_false ho hw), if_neg fun h => hw h.2]
      exact ⟨.refl s, rfl⟩

/-- What the lanes do at a commit. -/
structure LanesCommitted (old w : Settings) (modes : Vector LaneMode 3) (s t : State) : Prop extends LaneStep s t where
  marks   : ∀ l : Lane, t.cmn.closedMark[l] = if old.site.laneCount ≤ l.val ∧ l.val < w.site.laneCount then true else s.cmn.closedMark[l]
  dropped : ∀ l : Lane, l.val < old.site.laneCount → w.site.laneCount ≤ l.val → t.dcu.camera[l] = none ∧ t.dkc.lists[l] = [] ∧
              (modes[l] ≠ .closed → (∀ c : Chan, chanLane c = l → IsOff t.scu[c]) ∧ ∀ m, t.zsc.meas = some m → chanLane m.chan ≠ l)

theorem commitLanes_committed {s : State} (hshut : ShutsAll old w modes shut) (hs : Ready shut w s) :
    LanesCommitted old w modes s (allLanes.foldl (commitLane old modes) s) := by
  let Kept : Lane → State → State → Prop := fun l u v => Ready shut w u → LaneStep u v ∧ v.cmn.closedMark[l] = u.cmn.closedMark[l]
  have hrefl : ∀ l u, Kept l u u := fun _ u _ => ⟨.refl u, rfl⟩
  have htrans : ∀ l u v x, Kept l u v → Kept l v x → Kept l u x := fun l u v x h k hu => by
    obtain ⟨huv, hmark⟩ := h hu
    obtain ⟨hvx, hmark'⟩ := k (huv.commits.ready hu)
    exact ⟨huv.trans hvx, hmark'.trans hmark⟩
  have hother : ∀ l u k, k ≠ l → Kept l u (commitLane old modes u k) := fun l u k hk hu => by
    obtain ⟨hstep, hmarks⟩ := commitLane_step hshut hu k
    refine ⟨hstep, ?_⟩
    rw [hmarks]
    split
    · exact put_getElem_other _ _ _ _ fun he => hk he.symm
    · rfl
  have hat : ∀ l : Lane, ∃ u, Kept l s u ∧ Kept l (commitLane old modes u l) (allLanes.foldl (commitLane old modes) s) := fun l =>
    foldl_at (hrefl l) (htrans l) (by decide) (mem_allLanes l) (hother l) s
  have hwhole : LaneStep s (allLanes.foldl (commitLane old modes) s) := by
    obtain ⟨u, hsu, hut⟩ := hat 0
    obtain ⟨hstep, -⟩ := hsu hs
    have hu := hstep.commits.ready hs
    obtain ⟨hmid, -⟩ := commitLane_step hshut hu 0
    exact (hstep.trans hmid).trans (hut (hmid.commits.ready hu)).1
  refine ⟨hwhole, fun l => ?_, fun l ho hw => ?_⟩
  all_goals
    obtain ⟨u, hsu, hut⟩ := hat l
    obtain ⟨hstep, hmark⟩ := hsu hs
    have hu := hstep.commits.ready hs
    obtain ⟨hmid, hmarks⟩ := commitLane_step hshut hu l
    obtain ⟨hlast, hkept⟩ := hut (hmid.commits.ready hu)
  · rw [hkept, hmarks, ← hmark]
    split
    · exact put_getElem_self _ _ _
    · rfl
  · have hdrop := commitLane_dropped hshut hu ho hw
    refine ⟨hlast.commits.camera l hdrop.camera, hlast.commits.flow.empty hdrop.list, fun hc => ?_⟩
    obtain ⟨hoff, hmeas⟩ := hdrop.shut (beq_eq_false_iff_ne.mpr hc)
    exact ⟨fun c hcl => hlast.commits.off c (hoff c hcl), fun m hm => hmeas m (hlast.commits.meas m hm)⟩

end Lanes

end Sys2Proof.Machine
end

section
/-! SUPPORT. What the loops do at a commit (R54), and what the deck takes of new settings (R142, R151). -/

namespace Sys2Proof.Machine

open Sys2Proof.Safety

/-! ### A change of service at a commit (R50) -/

theorem lasLoopLost_step (l : Lane) (s : State) : DeckStep s (lasLoopLost l s) := by
  have haside : Aside s (lasLoopLost l s) := ⟨rfl, rfl, rfl, fun _ _ => rfl⟩
  refine ⟨⟨.of_dkc (fun _ h => h) rfl rfl, fun k hk => ?_, fun k p hp => ?_, fun _ h => h, fun _ h => h, fun _ h => h, rfl, rfl, rfl, rfl, rfl⟩,
    haside, rfl⟩
  all_goals by_cases hkl : k = l
  · subst hkl
    have hnone : s.las[k].openVeh = none := by rw [hk]; rfl
    refine (change_getElem_self _ _ _).trans ?_
    rw [hnone]
    exact (congrArg (fun v => ({ s.las[k] with openVeh := v } : LasState)) hnone).symm
  · exact change_getElem_other _ _ _ _ hkl
  · subst hkl
    have hsame : (lasLoopLost k s).las[k].pendingList = s.las[k].pendingList := (congrArg LasState.pendingList (change_getElem_self _ _ _) :)
    rwa [hsame] at hp
  · rwa [show (lasLoopLost l s).las[k] = s.las[k] from change_getElem_other _ _ _ _ hkl] at hp

theorem serviceLost_step (l : Loop) (s : State) : DeckStep (quieted l s) (serviceLost l s) := by
  rw [serviceLost]
  split
  · exact lasLoopLost_step _ _
  · exact thresholdLost_step _ _
  · exact deckLoopLost_step _ _
  · exact .refl _

theorem serviceGained_step (l : Loop) (s : State) : DeckStep s (serviceGained l s) := by
  rw [serviceGained]
  split
  · exact reviewBlind_step false s
  · exact reviewBlind_step false s
  · exact .refl s
  · exact .refl s

theorem quieted_self {l : Loop} {s : State} (h : s.liu.loops[l].announced = false) : quieted l s = s := by
  have hloop : ({ s.liu.loops[l] with announced := false } : LoopState) = s.liu.loops[l] := by rw [← h]
  rw [quieted, hloop, withLoop, put_self]

/-- The notices of a change of service of a loop whose occupancy is not announced. -/
theorem serviceChange_step {l : Loop} {s : State} (was : Bool) (h : s.liu.loops[l].announced = false) : DeckStep s (serviceChange l was s) := by
  rw [serviceChange]
  split
  · have hlost := serviceLost_step l s
    rwa [quieted_self h] at hlost
  · split
    · exact serviceGained_step l s
    · exact .refl s

/-! ### A loop at a commit (R54) -/

/-- What a step of the loops at a commit leaves of loop k, of the pins and of the closed marks. -/
structure LoopKept (k : Loop) (s t : State) : Prop where
  loop    : t.liu.loops[k] = s.liu.loops[k]
  deb     : t.liu.deb[loopInput k] = s.liu.deb[loopInput k]
  stuck   : t.cmn.conds[loopStuckIx k] = s.cmn.conds[loopStuckIx k]
  chatter : t.cmn.conds[chatterIx k] = s.cmn.conds[chatterIx k]

theorem LoopKept.trans {k : Loop} {s t u : State} (h : LoopKept k s t) (j : LoopKept k t u) : LoopKept k s u :=
  ⟨j.loop.trans h.loop, j.deb.trans h.deb, j.stuck.trans h.stuck, j.chatter.trans h.chatter⟩

theorem LoopKept.of_eq {k : Loop} {s t : State} (hl : t.liu = s.liu) (hc : ∀ ix, LoopIx ix → t.cmn.conds[ix] = s.cmn.conds[ix]) :
    LoopKept k s t :=
  ⟨by rw [hl], by rw [hl], hc _ (.inr ⟨k, .inl rfl⟩), hc _ (.inr ⟨k, .inr rfl⟩)⟩

/-- A step at a commit that moves no loop but l. -/
structure LoopStep (l : Loop) (s t : State) : Prop where
  commits : Commits s t
  marks   : t.cmn.closedMark = s.cmn.closedMark
  pins    : t.liu.pins = s.liu.pins
  others  : ∀ k ≠ l, LoopKept k s t

theorem LoopStep.trans {l : Loop} {s t u : State} (h : LoopStep l s t) (j : LoopStep l t u) : LoopStep l s u :=
  ⟨h.commits.trans j.commits, j.marks.trans h.marks, j.pins.trans h.pins, fun k hk => (h.others k hk).trans (j.others k hk)⟩

theorem DeckStep.loopStep {s t : State} (h : DeckStep s t) (l : Loop) : LoopStep l s t :=
  ⟨h.commits, h.aside.closed, by rw [h.liu], fun _ _ => .of_eq h.liu h.aside.conds⟩

theorem LoopStep.refl (l : Loop) (s : State) : LoopStep l s s := (DeckStep.refl s).loopStep l

/-- A loop with its debounce. -/
def withLoopDeb (l : Loop) (x : LoopState) (d : Debounce) (s : State) : State := { s with
  liu := { s.liu with loops := put s.liu.loops l x, deb := put s.liu.deb (loopInput l) d } }

theorem loopInput_ne {k l : Loop} (h : k ≠ l) : loopInput k ≠ loopInput l := fun he => h (Fin.ext (congrArg (fun i : Input => i.val) he))

theorem withLoopDeb_step (l : Loop) (x : LoopState) (d : Debounce) (s : State) : LoopStep l s (withLoopDeb l x d s) where
  commits := ⟨.of_dkc (fun _ h => h) rfl rfl, fun _ _ => rfl, fun _ _ h => h, fun _ h => h, fun _ h => h, fun _ h => h, rfl, rfl, rfl, rfl, rfl⟩
  marks := rfl
  pins := rfl
  others _ hk := ⟨put_getElem_other _ _ _ _ hk, put_getElem_other _ _ _ _ (loopInput_ne hk), rfl, rfl⟩

theorem withLoopDeb_loop (l : Loop) (x : LoopState) (d : Debounce) (s : State) : (withLoopDeb l x d s).liu.loops[l] = x := put_getElem_self _ _ _

theorem withLoopDeb_deb (l : Loop) (x : LoopState) (d : Debounce) (s : State) : (withLoopDeb l x d s).liu.deb[loopInput l] = d :=
  put_getElem_self _ _ _

theorem loopIx_ne (k l : Loop) : loopStuckIx k ≠ chatterIx l ∧ (k ≠ l → loopStuckIx k ≠ loopStuckIx l ∧ chatterIx k ≠ chatterIx l) ∧
    storeFaultIx ≠ loopStuckIx l ∧ storeFaultIx ≠ chatterIx l := by
  simp only [loopStuckIx, chatterIx, storeFaultIx, ne_eq, Fin.ext_iff]
  omega

/-- A clear notice of a loop's condition. -/
theorem giveClear_loopStep {l : Loop} {ix : CondIx} (h : ix = loopStuckIx l ∨ ix = chatterIx l) (s : State) : LoopStep l s (giveClear ix s) := by
  have hsame := giveClear_same ix s
  have hp := giveClear_places ix s
  have hother : ∀ jx, jx ≠ ix → (giveClear ix s).cmn.conds[jx] = s.cmn.conds[jx] := fun jx hj => giveClear_conds_other hj s
  refine ⟨⟨.of_dkc (fun id hid => by rwa [findRec, hsame.rtb]) hsame.tbu hsame.dkc, fun _ _ => by rw [hsame.las], fun k p hp => hsame.las ▸ hp,
    fun k hk => hsame.dcu ▸ hk, fun c hc => hsame.scu ▸ hc, fun m hm => hsame.zsc ▸ hm, hsame.sst, hsame.csq, hp.same (·.cmn.mode) fun _ => rfl,
    hp.answers, hother _ ?_⟩, hp.same (·.cmn.closedMark) fun _ => rfl, by rw [hsame.liu], fun k hk => ⟨by rw [hsame.liu], by rw [hsame.liu],
    hother _ ?_, hother _ ?_⟩⟩
  · rcases h with rfl | rfl
    · exact (loopIx_ne l l).2.2.1
    · exact (loopIx_ne l l).2.2.2
  · rcases h with rfl | rfl
    · exact ((loopIx_ne k l).2.1 hk).1
    · exact (loopIx_ne k l).1
  · rcases h with rfl | rfl
    · exact fun he => (loopIx_ne l k).1 he.symm
    · exact ((loopIx_ne k l).2.1 hk).2

/-- The clear notices of a loop that goes out of use. -/
structure LoopCleared (x : LoopState) (l : Loop) (s t : State) : Prop extends LoopStep l s t where
  liu     : t.liu = s.liu
  stuck   : t.cmn.conds[loopStuckIx l] = if x.stuck != .none then clearedEntry s.tbu.time s.cmn.conds[loopStuckIx l]
              else s.cmn.conds[loopStuckIx l]
  chatter : t.cmn.conds[chatterIx l] = if x.chatter.isSome then clearedEntry s.tbu.time s.cmn.conds[chatterIx l]
              else s.cmn.conds[chatterIx l]

theorem giveClear_conds_self (ix : CondIx) (s : State) : (giveClear ix s).cmn.conds[ix] = clearedEntry s.tbu.time s.cmn.conds[ix] := by
  rw [(giveClear_places ix s).conds, withEntry_conds_self]

theorem clearLoopConditions_cleared (x : LoopState) (l : Loop) (s : State) : LoopCleared x l s (clearLoopConditions x l s) := by
  have hne : chatterIx l ≠ loopStuckIx l := fun h => (loopIx_ne l l).1 h.symm
  have hfirst : LoopStep l s (if x.stuck == .none then s else giveClear (loopStuckIx l) s) ∧
      (if x.stuck == .none then s else giveClear (loopStuckIx l) s).liu = s.liu ∧
      (if x.stuck == .none then s else giveClear (loopStuckIx l) s).cmn.conds[loopStuckIx l] =
        (if x.stuck != .none then clearedEntry s.tbu.time s.cmn.conds[loopStuckIx l] else s.cmn.conds[loopStuckIx l]) ∧
      (if x.stuck == .none then s else giveClear (loopStuckIx l) s).cmn.conds[chatterIx l] = s.cmn.conds[chatterIx l] := by
    cases h : x.stuck == .none with
    | true =>
      have hb : (x.stuck != .none) = false := by rw [bne, h]; rfl
      rw [hb]
      exact ⟨.refl l s, rfl, rfl, rfl⟩
    | false =>
      have hb : (x.stuck != .none) = true := by rw [bne, h]; rfl
      rw [hb]
      exact ⟨giveClear_loopStep (.inl rfl) s, (giveClear_same _ s).liu, giveClear_conds_self _ s, giveClear_conds_other hne s⟩
  rw [clearLoopConditions]
  generalize (if x.stuck == .none then s else giveClear (loopStuckIx l) s) = u at hfirst
  obtain ⟨hstep, hliu, hstuck, hchatter⟩ := hfirst
  by_cases hc : x.chatter.isSome = true
  · rw [if_pos hc]
    refine ⟨hstep.trans (giveClear_loopStep (.inr rfl) u), (giveClear_same _ u).liu.trans hliu, ?_, ?_⟩
    · exact (giveClear_conds_other (loopIx_ne l l).1 u).trans hstuck
    · rw [if_pos hc, giveClear_conds_self, hchatter, hstep.commits.flow.tbu]
  · rw [if_neg hc]
    exact ⟨hstep, hliu, hstuck, hchatter.trans (if_neg hc).symm⟩

/-- A loop that has gone out of use. -/
def retired (x : LoopState) : LoopState := { x with announced := false, stuck := .none, chatter := none, edges := [] }

/-- A loop that has come into use at a level. -/
def admitted (now : Time) (level : Bool) (x : LoopState) : LoopState :=
  { x with occStart := if level then now else x.occStart, announced := false, stuck := .none, chatter := none, edges := [] }

section Loops

variable {old w : Settings} {l : Loop} {s : State}

theorem commitLoop_retired (hs : s.sst.live = w) (ho : loopInUse old l = true) (hw : loopInUse w l = false) :
    let x := s.liu.loops[l]
    let z := clearLoopConditions x l (withLoopDeb l (retired x) { s.liu.deb[loopInput l] with level := false, cand := none } s)
    commitLoop old s l = serviceChange l (servedUnder old s l) z := by
  rw [commitLoop, ho, hs, hw]
  rfl

theorem commitLoop_admitted (hs : s.sst.live = w) (ho : loopInUse old l = false) (hw : loopInUse w l = true) :
    let level := levelUnder w (loopInput l) s.liu.pins[loopInput l]
    let z := withLoopDeb l (admitted s.tbu.time level s.liu.loops[l]) { s.liu.deb[loopInput l] with level := level, cand := none } s
    commitLoop old s l = serviceChange l (servedUnder old s l) z := by
  subst hs
  rw [commitLoop, ho, hw]
  rfl

/-- A loop that is in use before the commit and after it, or neither. -/
theorem commitLoop_stays (hs : s.sst.live = w) (h : loopInUse old l = loopInUse w l) :
    let level := levelUnder w (loopInput l) s.liu.pins[loopInput l]
    let d := s.liu.deb[loopInput l]
    commitLoop old s l = if loopInUse old l = true ∧ old.loop.loopPol[l] ≠ w.loop.loopPol[l] ∧ level ≠ d.level then
      withLoopDeb l s.liu.loops[l] (edgedDebounce s.tbu.time level d) s else s := by
  subst hs
  intro level d
  have hedge : changeDeb (loopInput l) (debounceEdge s.now level) s = withLoopDeb l s.liu.loops[l] (edgedDebounce s.tbu.time level d) s := by
    rw [withLoopDeb, put_self, ← debounceEdge_eq]
    rfl
  rw [commitLoop, ← h]
  cases ho : loopInUse old l with
  | false => exact (if_neg fun hc => Bool.noConfusion hc.1).symm
  | true =>
    by_cases hpol : old.loop.loopPol[l] = s.sst.live.loop.loopPol[l]
    · have hsame : (old.loop.loopPol[l] != s.sst.live.loop.loopPol[l]) = false := by rw [hpol]; exact bne_self_eq_false _
      rw [hsame]
      exact (if_neg fun hc => hc.2.1 hpol).symm
    · have hdiff : (old.loop.loopPol[l] != s.sst.live.loop.loopPol[l]) = true := bne_iff_ne.mpr hpol
      rw [hdiff, ← hedge]
      have hreread : rereadLoop l s = if (level != d.level) = true then changeDeb (loopInput l) (debounceEdge s.now level) s else s := rfl
      refine hreread.trans ?_
      by_cases hl : level = d.level
      · rw [if_neg fun hc => bne_iff_ne.mp hc hl, if_neg fun hc => hc.2.2 hl]
      · rw [if_pos (bne_iff_ne.mpr hl), if_pos ⟨rfl, hpol, hl⟩]

/-- What becomes of a loop at a commit: it goes out of use, comes into use, or stays (R54). -/
structure LoopFate (old w : Settings) (l : Loop) (s t : State) : Prop where
  out   : loopInUse old l = true → loopInUse w l = false → t.liu.loops[l] = retired s.liu.loops[l] ∧
            t.liu.deb[loopInput l] = { s.liu.deb[loopInput l] with level := false, cand := none } ∧
            t.cmn.conds[loopStuckIx l] = (if s.liu.loops[l].stuck != .none then clearedEntry s.tbu.time s.cmn.conds[loopStuckIx l]
              else s.cmn.conds[loopStuckIx l]) ∧
            t.cmn.conds[chatterIx l] = if s.liu.loops[l].chatter.isSome then clearedEntry s.tbu.time s.cmn.conds[chatterIx l]
              else s.cmn.conds[chatterIx l]
  into  : loopInUse old l = false → loopInUse w l = true →
            t.liu.loops[l] = admitted s.tbu.time (levelUnder w (loopInput l) s.liu.pins[loopInput l]) s.liu.loops[l] ∧
            t.liu.deb[loopInput l] = { s.liu.deb[loopInput l] with
              level := levelUnder w (loopInput l) s.liu.pins[loopInput l], cand := none }
  stays : loopInUse old l = loopInUse w l → t.liu.loops[l] = s.liu.loops[l] ∧ t.liu.deb[loopInput l] =
            if loopInUse old l = true ∧ old.loop.loopPol[l] ≠ w.loop.loopPol[l] ∧
              levelUnder w (loopInput l) s.liu.pins[loopInput l] ≠ s.liu.deb[loopInput l].level then
              edgedDebounce s.tbu.time (levelUnder w (loopInput l) s.liu.pins[loopInput l]) s.liu.deb[loopInput l]
            else s.liu.deb[loopInput l]

/-- What one loop does at a commit. -/
structure LoopCommitted (old w : Settings) (l : Loop) (s t : State) : Prop extends LoopStep l s t, LoopFate old w l s t

theorem commitLoop_out (hs : s.sst.live = w) (ho : loopInUse old l = true) (hw : loopInUse w l = false) :
    LoopCommitted old w l s (commitLoop old s l) := by
  have heq := commitLoop_retired hs ho hw
  dsimp only at heq
  generalize hy : withLoopDeb l (retired s.liu.loops[l]) { s.liu.deb[loopInput l] with level := false, cand := none } s = y at heq
  have hmoved : LoopStep l s y := hy ▸ withLoopDeb_step l _ _ s
  have hloop : y.liu.loops[l] = retired s.liu.loops[l] := hy ▸ withLoopDeb_loop l _ _ s
  have hdeb : y.liu.deb[loopInput l] = { s.liu.deb[loopInput l] with level := false, cand := none } := hy ▸ withLoopDeb_deb l _ _ s
  have hcmn : y.cmn = s.cmn := by rw [← hy]; rfl
  have hcleared := clearLoopConditions_cleared s.liu.loops[l] l y
  generalize clearLoopConditions s.liu.loops[l] l y = z at heq hcleared
  have hquiet : z.liu.loops[l].announced = false := by rw [hcleared.liu, hloop]; rfl
  have hservice := serviceChange_step (servedUnder old s l) hquiet
  rw [← heq] at hservice
  refine ⟨(hmoved.trans hcleared.toLoopStep).trans (hservice.loopStep l), ⟨fun _ _ => ⟨?_, ?_, ?_, ?_⟩, fun h => ?_, fun h => ?_⟩⟩
  · rw [hservice.liu, hcleared.liu, hloop]
  · rw [hservice.liu, hcleared.liu, hdeb]
  · rw [hservice.aside.conds _ (.inr ⟨l, .inl rfl⟩), hcleared.stuck, hcmn, hmoved.commits.flow.tbu]
  · rw [hservice.aside.conds _ (.inr ⟨l, .inr rfl⟩), hcleared.chatter, hcmn, hmoved.commits.flow.tbu]
  · rw [ho] at h
    cases h
  · rw [ho, hw] at h
    cases h

theorem commitLoop_into (hs : s.sst.live = w) (ho : loopInUse old l = false) (hw : loopInUse w l = true) :
    LoopCommitted old w l s (commitLoop old s l) := by
  have heq := commitLoop_admitted hs ho hw
  dsimp only at heq
  generalize hy : withLoopDeb l _ _ s = y at heq
  have hmoved : LoopStep l s y := hy ▸ withLoopDeb_step l _ _ s
  have hloop : y.liu.loops[l] = admitted s.tbu.time (levelUnder w (loopInput l) s.liu.pins[loopInput l]) s.liu.loops[l] :=
    hy ▸ withLoopDeb_loop l _ _ s
  have hdeb : y.liu.deb[loopInput l] = { s.liu.deb[loopInput l] with
      level := levelUnder w (loopInput l) s.liu.pins[loopInput l], cand := none } := hy ▸ withLoopDeb_deb l _ _ s
  have hquiet : y.liu.loops[l].announced = false := by rw [hloop]; rfl
  have hservice := serviceChange_step (servedUnder old s l) hquiet
  rw [← heq] at hservice
  refine ⟨hmoved.trans (hservice.loopStep l), ⟨fun h => ?_, fun _ _ => ⟨?_, ?_⟩, fun h => ?_⟩⟩
  · rw [ho] at h
    cases h
  · rw [hservice.liu, hloop]
  · rw [hservice.liu, hdeb]
  · rw [ho, hw] at h
    cases h

theorem commitLoop_kept (hs : s.sst.live = w) (h : loopInUse old l = loopInUse w l) : LoopCommitted old w l s (commitLoop old s l) := by
  have heq := commitLoop_stays hs h
  dsimp only at heq
  have hcross : ∀ b, loopInUse old l = b → loopInUse w l ≠ !b := fun b hb hn => by
    rw [← h, hb] at hn
    cases b <;> cases hn
  refine ⟨?_, ⟨fun ho hw => absurd hw (hcross _ ho), fun ho hw => absurd hw (hcross _ ho), fun _ => ?_⟩⟩
  · rw [heq]
    split
    · exact withLoopDeb_step l _ _ s
    · exact .refl l s
  · rw [heq]
    split
    · exact ⟨withLoopDeb_loop l _ _ s, withLoopDeb_deb l _ _ s⟩
    · exact ⟨rfl, rfl⟩

theorem commitLoop_committed (hs : s.sst.live = w) (l : Loop) : LoopCommitted old w l s (commitLoop old s l) := by
  cases ho : loopInUse old l with
  | true =>
    cases hw : loopInUse w l with
    | true => exact commitLoop_kept hs (ho.trans hw.symm)
    | false => exact commitLoop_out hs ho hw
  | false =>
    cases hw : loopInUse w l with
    | true => exact commitLoop_into hs ho hw
    | false => exact commitLoop_kept hs (ho.trans hw.symm)

/-- The fate of a loop that steps before and after leave alone. -/
theorem LoopFate.between {u v t : State} (h : LoopKept l s u) (hp : u.liu.pins = s.liu.pins) (ht : u.tbu = s.tbu)
    (f : LoopFate old w l u v) (k : LoopKept l v t) : LoopFate old w l s t where
  out ho hw := by
    have hf := f.out ho hw
    rw [h.loop, h.deb, h.stuck, h.chatter, ht] at hf
    rw [k.loop, k.deb, k.stuck, k.chatter]
    exact hf
  into ho hw := by
    have hf := f.into ho hw
    rw [h.loop, h.deb, hp, ht] at hf
    rw [k.loop, k.deb]
    exact hf
  stays he := by
    have hf := f.stays he
    rw [h.loop, h.deb, hp, ht] at hf
    rw [k.loop, k.deb]
    exact hf

/-- What the loops do at a commit. -/
structure LoopsCommitted (old w : Settings) (s t : State) : Prop where
  commits : Commits s t
  marks   : t.cmn.closedMark = s.cmn.closedMark
  pins    : t.liu.pins = s.liu.pins
  fates   : ∀ l : Loop, LoopFate old w l s t

theorem mem_allLoops : ∀ l : Loop, l ∈ allLoops := by decide

theorem commitLoops_committed (hs : s.sst.live = w) : LoopsCommitted old w s (allLoops.foldl (commitLoop old) s) := by
  let Kept : Loop → State → State → Prop := fun l u v =>
    u.sst.live = w → Commits u v ∧ v.cmn.closedMark = u.cmn.closedMark ∧ v.liu.pins = u.liu.pins ∧ LoopKept l u v
  have hlive : ∀ {u v : State}, Commits u v → u.sst.live = w → v.sst.live = w := fun h hu => (congrArg SstState.live h.sst).trans hu
  have hrefl : ∀ l u, Kept l u u := fun _ u _ => ⟨.refl u, rfl, rfl, ⟨rfl, rfl, rfl, rfl⟩⟩
  have htrans : ∀ l u v x, Kept l u v → Kept l v x → Kept l u x := fun l u v x h k hu => by
    obtain ⟨huv, hmark, hpin, hkept⟩ := h hu
    obtain ⟨hvx, hmark', hpin', hkept'⟩ := k (hlive huv hu)
    exact ⟨huv.trans hvx, hmark'.trans hmark, hpin'.trans hpin, hkept.trans hkept'⟩
  have hother : ∀ l u k, k ≠ l → Kept l u (commitLoop old u k) := fun l u k hk hu => by
    have hone : LoopCommitted old w k u _ := commitLoop_committed hu k
    exact ⟨hone.commits, hone.marks, hone.pins, hone.others l hk.symm⟩
  have hat : ∀ l : Loop, ∃ u, Kept l s u ∧ Kept l (commitLoop old u l) (allLoops.foldl (commitLoop old) s) := fun l =>
    foldl_at (hrefl l) (htrans l) (by decide) (mem_allLoops l) (hother l) s
  have hwhole : ∀ l : Loop, Commits s (allLoops.foldl (commitLoop old) s) ∧
      (allLoops.foldl (commitLoop old) s).cmn.closedMark = s.cmn.closedMark ∧
      (allLoops.foldl (commitLoop old) s).liu.pins = s.liu.pins ∧ LoopFate old w l s (allLoops.foldl (commitLoop old) s) := fun l => by
    obtain ⟨u, hsu, hut⟩ := hat l
    obtain ⟨hbefore, hmark, hpin, hkept⟩ := hsu hs
    have hu := hlive hbefore hs
    have hone : LoopCommitted old w l u _ := commitLoop_committed hu l
    obtain ⟨hafter, hmark', hpin', hkept'⟩ := hut (hlive hone.commits hu)
    exact ⟨(hbefore.trans hone.commits).trans hafter, hmark'.trans (hone.marks.trans hmark), hpin'.trans (hone.pins.trans hpin),
      hone.toLoopFate.between hkept hpin hbefore.flow.tbu hkept'⟩
  exact ⟨(hwhole 0).1, (hwhole 0).2.1, (hwhole 0).2.2.1, fun l => (hwhole l).2.2.2⟩

end Loops

/-! ### The deck at a commit (R142, R151) -/

/-- The state with a longer DECK_OVERSTAY tested and the grant times outside a shorter WIN_LEN removed. -/
def deckRetested (old : Settings) (s : State) : State := commitWindow (commitOverstay old s)

/-- An entry tested again under a longer DECK_OVERSTAY. -/
def retested (old : Settings) (s : State) (e : DeckEntry) : DeckEntry :=
  if old.deck.overstay < s.sst.live.deck.overstay then
    { e with aged := e.agedFull || decide (s.sst.live.deck.overstay * 100000 ≤ (s.tbu.time - e.entryTime).toNat) }
  else e

theorem deckRetested_eq (old : Settings) (s : State) : deckRetested old s = { s with
    dkc := { s.dkc with
      lists := mapVec (fun es => es.map (retested old s)) s.dkc.lists
      grantTimes := s.dkc.grantTimes.filter fun t => decide ((s.tbu.time - t).toNat < s.sst.live.deck.winLen * 100000) } } := by
  have hwindow : ∀ u : State, commitWindow u = { u with dkc := { u.dkc with
      grantTimes := u.dkc.grantTimes.filter fun t => decide ((u.tbu.time - t).toNat < u.sst.live.deck.winLen * 100000) } } := fun u => by
    have hpass : (fun t => !passed u.now t (secs u.sst.live.deck.winLen)) =
        fun t => decide ((u.tbu.time - t).toNat < u.sst.live.deck.winLen * 100000) := by
      funext t
      have hp : passed u.now t (secs u.sst.live.deck.winLen) = decide (u.sst.live.deck.winLen * 100000 ≤ (u.tbu.time - t).toNat) := rfl
      rw [hp, ← decide_not]
      exact decide_eq_decide.mpr not_le
    rw [commitWindow, hpass]
  rw [deckRetested, hwindow, commitOverstay]
  by_cases h : old.deck.overstay < s.sst.live.deck.overstay
  · have hret : retested old s = fun e =>
        { e with aged := e.agedFull || decide (s.sst.live.deck.overstay * 100000 ≤ (s.tbu.time - e.entryTime).toNat) } := by
      funext e
      exact if_pos h
    rw [if_pos h, hret]
    rfl
  · have hret : retested old s = id := by
      funext e
      exact if_neg h
    have hsame : mapVec (fun es => es.map (retested old s)) s.dkc.lists = s.dkc.lists := by
      rw [hret]
      simp [mapVec]
    rw [if_neg h, hsame]

/-- The overload condition is as the account and the latch form it (R142). -/
def OverloadFormed (s : State) : Prop := s.dkc.overload = true ↔ s.sst.live.deck.budget < s.dkc.onDeck ∨ s.dkc.listFull = true

theorem OverloadFormed.of_eq {s t : State} (h : OverloadFormed s) (ho : t.dkc.overload = s.dkc.overload) (hd : t.dkc.onDeck = s.dkc.onDeck)
    (hf : t.dkc.listFull = s.dkc.listFull) (hs : t.sst.live = s.sst.live) : OverloadFormed t := by
  rw [OverloadFormed, ho, hd, hf, hs]
  exact h

theorem formOverload_formed (s : State) : OverloadFormed (formOverload s) := by
  rw [OverloadFormed, formOverload_overload, loadedNow, decide_eq_true_iff, formOverload_eq]
  exact or_comm

theorem arbitrate_formed {s : State} (h : OverloadFormed s) : OverloadFormed (arbitrate s) := by
  have hg := arbitrate_granting s
  exact h.of_eq (congrArg (fun u : State => u.dkc.overload) hg :) hg.onDeck (congrArg (fun u : State => u.dkc.listFull) hg :)
    (congrArg (fun u : State => u.sst.live) hg :)

theorem changeDeck_formed {s : State} (h : OverloadFormed s) (new : DeckSt) (c : DeckCause) : OverloadFormed (changeDeck new c s) := by
  have has : OverloadFormed (deckAs new s) := arbitrate_formed (s := { s with dkc := { s.dkc with st := new } }) h
  have hdkc := changeDeck_granting new c s
  exact has.of_eq (by rw [hdkc]) (by rw [hdkc]) (by rw [hdkc]) (changeDeck_places new c s).live

theorem enterResync_formed (c : DeckCause) (s : State) : OverloadFormed (enterResync c s) := by
  rw [enterResync_eq]
  exact changeDeck_formed (formOverload_formed _) _ _

theorem enterBlind_formed (c : DeckCause) (s : State) : OverloadFormed (enterBlind c s) := by
  rw [enterBlind_eq]
  exact changeDeck_formed (formOverload_formed _) _ _

theorem endResting_formed (s : State) : OverloadFormed (endResting s) := by
  rw [endResting_eq]
  split
  · exact enterBlind_formed _ _
  · split
    · exact enterResync_formed _ _
    · split
      · exact changeDeck_formed (formOverload_formed _) _ _
      · exact changeDeck_formed (formOverload_formed _) _ _

theorem endIsolation_formed {s : State} (h : OverloadFormed s) : OverloadFormed (endIsolation s) := by
  rw [endIsolation_eq]
  split
  · exact endResting_formed _
  · exact changeDeck_formed (s := { s with dkc := { s.dkc with
      timer := some (s.tbu.time + BitVec.ofNat 32 (s.sst.live.deck.restTime * 100000)) } }) h _ _

theorem deckReview_formed (s : State) : OverloadFormed (deckReview s) := by
  have hf := formOverload_formed s
  rw [deckReview]
  generalize formOverload s = u at hf
  split
  · split
    · exact changeDeck_formed hf _ _
    · exact arbitrate_formed hf
  · split
    · exact hf
    · exact changeDeck_formed hf _ _
  · split
    · exact hf
    · exact endIsolation_formed hf
  · exact arbitrate_formed hf
  all_goals exact hf

theorem enterResync_blindFlag (c : DeckCause) (s : State) : (enterResync c s).dkc.blind = s.dkc.blind := by
  rw [enterResync_dkc]
  rfl

theorem endResting_blindFlag (s : State) : (endResting s).dkc.blind = s.dkc.blind := by
  have hrested : (rested s).dkc.blind = s.dkc.blind := rfl
  rw [endResting_eq, ← hrested]
  generalize rested s = u
  split
  · exact enterBlind_blind _ _
  · split
    · exact enterResync_blindFlag _ _
    · split
      · exact changeDeck_blind _ _ _
      · exact changeDeck_blind _ _ _

/-- The review of the deck leaves the blind condition as it is formed. -/
theorem deckReview_blindFlag (s : State) : (deckReview s).dkc.blind = s.dkc.blind := by
  have hf : (formOverload s).dkc.blind = s.dkc.blind := rfl
  rw [deckReview, ← hf]
  generalize formOverload s = u
  split
  · split
    · exact changeDeck_blind _ _ _
    · exact (arbitrate_granting u).blind
  · split
    · rfl
    · exact changeDeck_blind _ _ _
  · split
    · rfl
    · have hrest : (beginRest u).dkc.blind = u.dkc.blind := by rw [beginRest_dkc]
      rw [endIsolation_eq]
      split
      · exact (endResting_blindFlag _).trans hrest
      · exact hrest
  · exact (arbitrate_granting u).blind
  all_goals rfl

/-- What the deck does at a commit. -/
structure DeckCommitted (old : Settings) (s t : State) : Prop where
  step     : DeckStep (deckRetested old s) t
  blind    : t.dkc.blind = blindNow t
  overload : OverloadFormed t
  rests    : HeadRests t

theorem commitDeck_committed (old : Settings) (s : State) : DeckCommitted old s (commitDeck old s) := by
  have heq : commitDeck old s = deckReview (reviewBlind false (deckRetested old s)) := rfl
  have hboth := (reviewBlind_step false (deckRetested old s)).trans (deckReview_step _)
  rw [← heq] at hboth
  refine ⟨hboth, ?_, heq ▸ deckReview_formed _, heq ▸ headRests_deckReview _⟩
  rw [blindNow_congr (congrArg SstState.live hboth.commits.sst) hboth.liu hboth.aside.closed, heq, deckReview_blindFlag, reviewBlind_blind]

end Sys2Proof.Machine
end

section
/-! SUPPORT. The settling of the end of a store write (R179, R180). -/

namespace Sys2Proof.Machine

open Sys2Proof.Safety

/-! ### The settings taken (R179) -/

/-- The state in which the working copy is live and a failed write has given its fault cause, before the blocks take the commit. -/
def settingsTaken (good : Bool) (s : State) : State :=
  let s1 := takeWorking good s
  formModes (if good then s1 else giveFault storeFaultIx s1.now s1)

/-- The lane modes before the commit. -/
def modesNow (s : State) : Vector LaneMode 3 := Vector.ofFn (laneModeOf s)

theorem modesNow_lane (s : State) (l : Lane) : (modesNow s)[l] = laneModeOf s l := by
  simp [modesNow]

theorem endStoreWrite_eq (good : Bool) (s : State) :
    endStoreWrite good s = releaseCommit (commitBlocks s.sst.live (modesNow s) (settingsTaken good s)) := rfl

/-- What the taking of the settings leaves. -/
structure Taken (good : Bool) (s x : State) : Prop where
  tbu     : x.tbu = s.tbu
  csq     : x.csq = s.csq
  scu     : x.scu = s.scu
  zsc     : x.zsc = s.zsc
  liu     : x.liu = s.liu
  las     : x.las = s.las
  rtb     : x.rtb = s.rtb
  dkc     : x.dkc = s.dkc
  sst     : x.sst = (takeWorking good s).sst
  flag    : x.cmn.safeFlag = false
  mode    : x.cmn.mode = .normal
  marks   : x.cmn.closedMark = s.cmn.closedMark
  store   : x.cmn.conds[storeFaultIx] =
              if good then s.cmn.conds[storeFaultIx] else causedEntry true s.tbu.time s.cmn.conds[storeFaultIx]
  conds   : ∀ ix, ix ≠ storeFaultIx → x.cmn.conds[ix] = s.cmn.conds[ix]
  answers : answerPath x = answerPath s
  waiting : x.lki.requests = s.lki.requests ∧ x.lki.heldCommit = s.lki.heldCommit ∧ x.lki.behind = s.lki.behind

theorem settingsTaken_taken (good : Bool) (s : State) : Taken good s (settingsTaken good s) := by
  cases good with
  | true => exact ⟨rfl, rfl, rfl, rfl, rfl, rfl, rfl, rfl, rfl, rfl, rfl, rfl, rfl, fun _ _ => rfl, rfl, rfl, rfl, rfl⟩
  | false =>
    have hsame := giveFault_same storeFaultIx s.tbu.time (takeWorking false s)
    have hp := giveFault_places storeFaultIx s.tbu.time (takeWorking false s)
    have hkeeps := giveFault_keeps storeFaultIx s.tbu.time (takeWorking false s)
    have heq : settingsTaken false s = formModes (giveFault storeFaultIx s.tbu.time (takeWorking false s)) := rfl
    rw [heq]
    exact ⟨hsame.tbu, hsame.csq, hsame.scu, hsame.zsc, hsame.liu, hsame.las, hsame.rtb, hsame.dkc, hsame.sst, hkeeps.flag,
      hp.same (·.cmn.mode) fun _ => rfl, hp.same (·.cmn.closedMark) fun _ => rfl,
      (congrArg (fun v : Vector CondEntry 65 => v[storeFaultIx]) hp.conds).trans (withEntry_conds_self _ _ _),
      fun ix hix => (congrArg (fun v : Vector CondEntry 65 => v[ix]) hp.conds).trans (withEntry_conds_other hix _ _),
      hp.answers, hkeeps.requests, hkeeps.held, hkeeps.behind⟩

/-! ### The blocks at a commit -/

theorem mem_lanesShut {old : Settings} {modes : Vector LaneMode 3} {s : State} (l : Lane) : l ∈ lanesShut old modes s ↔
    l.val < old.site.laneCount ∧ s.sst.live.site.laneCount ≤ l.val ∧ modes[l] ≠ .closed := by
  rw [lanesShut, List.mem_filter, Bool.and_eq_true, Bool.and_eq_true, lanePresent_iff, Bool.not_eq_true', lanePresent_false, bne_iff_ne,
    and_assoc]
  exact and_iff_right (mem_allLanes l)

/-- What the blocks do at a commit before the deck takes the new settings. -/
structure LanesAndLoops (old w : Settings) (modes : Vector LaneMode 3) (s t : State) : Prop where
  flow    : DeckFlow s t
  sst     : t.sst = s.sst
  csq     : t.csq = s.csq
  mode    : t.cmn.mode = s.cmn.mode
  answers : answerPath t = answerPath s
  store   : t.cmn.conds[storeFaultIx] = s.cmn.conds[storeFaultIx]
  pins    : t.liu.pins = s.liu.pins
  marks   : ∀ l : Lane, t.cmn.closedMark[l] = if old.site.laneCount ≤ l.val ∧ l.val < w.site.laneCount then true else s.cmn.closedMark[l]
  fates   : ∀ l : Loop, LoopFate old w l s t
  dropped : ∀ l : Lane, l.val < old.site.laneCount → w.site.laneCount ≤ l.val → t.dcu.camera[l] = none ∧ t.dkc.lists[l] = [] ∧
              (modes[l] ≠ .closed → t.las[l] = emptyLas s.las[l] ∧ (∀ id, Held s.las[l] id → findRec t id = none) ∧
                (∀ k : Lane, ∀ p ∈ t.las[k].pendingList, ¬ Held s.las[l] p.awaits) ∧ (∀ c : Chan, chanLane c = l → IsOff t.scu[c]) ∧
                ∀ m, t.zsc.meas = some m → chanLane m.chan ≠ l)

/-- The lanes and the loops at a commit, after the assemblers' part. -/
def lanesAndLoops (old : Settings) (modes : Vector LaneMode 3) (s : State) : State :=
  allLoops.foldl (commitLoop old) (allLanes.foldl (commitLane old modes) (abandonLanes (lanesShut old modes s) s))

theorem lanesAndLoops_committed {old w : Settings} {modes : Vector LaneMode 3} {s : State} (hs : s.sst.live = w) :
    LanesAndLoops old w modes s (lanesAndLoops old modes s) := by
  have hab := abandonLanes_abandoned (lanesShut old modes s) s
  have hmem : ∀ l : Lane, l.val < old.site.laneCount → w.site.laneCount ≤ l.val → modes[l] ≠ .closed → l ∈ lanesShut old modes s :=
    fun l ho hw hm => (mem_lanesShut l).mpr ⟨ho, hs ▸ hw, hm⟩
  rw [lanesAndLoops]
  generalize abandonLanes (lanesShut old modes s) s = y at hab
  have hready : Ready (lanesShut old modes s) w y := by
    refine ⟨(congrArg SstState.live hab.same.sst).trans hs, fun l hl => ?_⟩
    rw [hab.emptied l hl]
    rfl
  have hlanes := commitLanes_committed (old := old) (modes := modes) hmem hready
  generalize allLanes.foldl (commitLane old modes) y = z at hlanes
  have hloops := commitLoops_committed (old := old) (hlanes.commits.ready hready).live
  generalize allLoops.foldl (commitLoop old) z = t at hloops
  have hwhole := hlanes.commits.trans hloops.commits
  have hkept : ∀ l, LoopKept l s z := fun l =>
    .of_eq (hlanes.liu.trans hab.same.liu) fun ix hix => (hlanes.conds ix hix).trans (hab.aside.conds ix hix)
  refine ⟨hab.flow.trans hwhole.flow, hwhole.sst.trans hab.same.sst, hwhole.csq.trans hab.same.csq, hwhole.mode.trans hab.aside.mode,
    hwhole.answers.trans hab.aside.answers, hwhole.store.trans (hab.aside.conds _ storeFault_loopIx), ?_, fun l => ?_, fun l => ?_,
    fun l ho hw => ?_⟩
  · rw [hloops.pins, hlanes.liu, hab.same.liu]
  · rw [hloops.marks, hlanes.marks, hab.aside.closed]
  · refine (hloops.fates l).between (hkept l) ?_ ?_ ⟨rfl, rfl, rfl, rfl⟩
    · rw [hlanes.liu, hab.same.liu]
    · rw [hlanes.commits.flow.tbu, hab.same.tbu]
  · obtain ⟨hcamera, hlist, hshut⟩ := hlanes.dropped l ho hw
    refine ⟨hloops.commits.camera l hcamera, hloops.commits.flow.empty hlist, fun hm => ?_⟩
    have hin := hmem l ho hw hm
    obtain ⟨hoff, hmeas⟩ := hshut hm
    have hheld : ∀ id, Held s.las[l] id → id ∈ heldIn s (lanesShut old modes s) := fun id hid => (mem_heldIn _ _ _).mpr ⟨l, hin, hid⟩
    refine ⟨?_, fun id hid => ?_, fun k p hp hid => ?_, fun c hc => hloops.commits.off c (hoff c hc), fun m hm =>
      hmeas m (hloops.commits.meas m hm)⟩
    · rw [hwhole.las l (hready.empty l hin), hab.emptied l hin]
    · exact hwhole.flow.gone id (hab.gone id (hheld id hid))
    · exact hab.unawaited k p (hwhole.pending k p hp) (hheld _ hid)

/-! ### Detectors, hold and answers at the end -/

/-- The detectors and the hold at the end of a commit. -/
def detectorsAndHold (s : State) : State := commitTrace (commitDetectors s)

theorem detectorsAndHold_rest (s : State) : ∃ scu trs, detectorsAndHold s = { s with scu := scu, trs := trs } := by
  rw [detectorsAndHold, commitTrace]
  split
  · exact ⟨_, s.trs, rfl⟩
  · exact ⟨_, _, rfl⟩

theorem detectorsAndHold_scu (s : State) (c : Chan) : (detectorsAndHold s).scu[c] =
    if s.scu[c].det == .idle then { s.scu[c] with cfg := s.sst.live.det } else s.scu[c] := by
  have hscu : (detectorsAndHold s).scu = (commitDetectors s).scu := by
    rw [detectorsAndHold, commitTrace]
    split <;> rfl
  rw [hscu]
  exact mapVec_getElem _ _ _

theorem detectorsAndHold_held {s : State} (h : s.sst.live.link.traceMode ≠ .holdOnDivert) : (detectorsAndHold s).trs.held = none := by
  have hmode : ¬ ((commitDetectors s).sst.live.link.traceMode == .holdOnDivert) = true := fun hc => h (beq_iff_eq.mp hc)
  rw [detectorsAndHold, commitTrace, if_neg hmode]

theorem kick_lki (s : State) : kick s = { s with lki := (kick s).lki } := by
  rw [kick]
  split
  · rfl
  · split <;> rfl

theorem releaseCommit_lki (s : State) : releaseCommit s = { s with lki := (releaseCommit s).lki } := by
  rw [releaseCommit]
  split
  · rfl
  · exact kick_lki _

theorem releaseCommit_requests (s : State) : (releaseCommit s).lki.requests = s.lki.requests := by
  rw [releaseCommit]
  split
  · rfl
  · exact (kick_spec _).2.2.2.1

/-- The answers being sent or ready, without those that wait behind a held one. -/
def readyPath (s : State) : List Answer := answerPath { s with lki.behind := [] }

theorem answerPath_ready (s : State) : answerPath s = readyPath s ++ s.lki.behind :=
  congrArg (· ++ s.lki.behind) (List.append_nil _).symm

/-- The commit answered, before the answers that waited behind it. -/
theorem releaseCommit_answers {x s : State} {tag : Byte} (h : s.lki.heldCommit = some tag) (hp : answerPath s = answerPath x)
    (hb : s.lki.behind = x.lki.behind) : (releaseCommit s).lki.heldCommit = none ∧ (releaseCommit s).lki.behind = [] ∧
    answerPath (releaseCommit s) = readyPath x ++ [⟨0xB1, tag, .ok, .empty⟩] ++ x.lki.behind := by
  have hready : readyPath s = readyPath x := by
    rw [answerPath_ready, answerPath_ready, hb] at hp
    exact List.append_cancel_right hp
  let y : State := { s with lki := { s.lki with
    heldCommit := none, ready := s.lki.ready ++ [⟨0x31 + 0x80, tag, .ok, .empty⟩] ++ s.lki.behind, behind := [] } }
  have hkick : releaseCommit s = kick y := by
    rw [releaseCommit, h]
  have hpath : answerPath y = readyPath s ++ [⟨0xB1, tag, .ok, .empty⟩] ++ s.lki.behind := by
    simp only [answerPath, readyPath, y, List.append_assoc, List.append_nil]
    rfl
  rw [hkick, (kick_keeps y).held, (kick_keeps y).behind, (kick_spec y).1, hpath, hready, hb]
  exact ⟨rfl, rfl, rfl⟩

/-- What outputs and link do not touch is the same at the end of the store write. -/
theorem ended_same (s : State) {α : Type} (f : State → α) (hs : ∀ u, f (sansOutputs u) = f u) (hk : ∀ (u : State) k, f { u with lki := k } = f u) :
    f (settle (releaseCommit s)) = f s := by
  rw [settled_same _ f hs, releaseCommit_lki, hk]

end Sys2Proof.Machine
end

section
/-! SUPPORT. The blocks at a commit as a whole, and the end of a store write (R54, R142, R151, R179, R180). -/

namespace Sys2Proof.Machine

open Sys2Proof.Safety

/-! ### Retested entries and grant times (R151) -/

/-- Grant times of the present added to a list leave, of those within a window, the earlier ones and some of the present. -/
theorem filter_append_present (p : Time → Bool) (ts : List Time) (n : Nat) (now : Time) :
    ∃ m, (ts ++ List.replicate n now).filter p = ts.filter p ++ List.replicate m now := by
  rw [List.filter_append, List.filter_replicate]
  split
  · exact ⟨n, rfl⟩
  · exact ⟨0, rfl⟩

theorem deckRetested_list (old : Settings) (s : State) (l : Lane) :
    (deckRetested old s).dkc.lists[l] = s.dkc.lists[l].map (retested old s) := by
  rw [deckRetested_eq]
  exact mapVec_getElem _ _ _

theorem retested_recId (old : Settings) (s : State) (e : DeckEntry) : (retested old s e).recId = e.recId := by
  rw [retested]
  split <;> rfl

theorem retested_entryTime (old : Settings) (s : State) (e : DeckEntry) : (retested old s e).entryTime = e.entryTime := by
  rw [retested]
  split <;> rfl

theorem retested_aged (old : Settings) (s : State) (e : DeckEntry) : (retested old s e).aged =
    if old.deck.overstay < s.sst.live.deck.overstay then
      e.agedFull || decide (s.sst.live.deck.overstay * 100000 ≤ (s.tbu.time - e.entryTime).toNat)
    else e.aged := by
  rw [retested]
  split <;> rfl

/-! ### The deck's part between the lanes and the end -/

/-- What the lists, grants and entries have come to at the end of a commit. -/
structure DeckSettled (old w : Settings) (s t : State) : Prop where
  times   : ∃ n : Nat, t.dkc.grantTimes =
              (s.dkc.grantTimes.filter fun x => decide ((s.tbu.time - x).toNat < w.deck.winLen * 100000)) ++ List.replicate n s.tbu.time
  grants  : ∀ g ∈ t.dkc.grants, g ∈ s.dkc.grants ∨ g.time = s.tbu.time
  last    : t.dkc.lastGrant = s.dkc.lastGrant ∨ ∃ g, t.dkc.lastGrant = some g ∧ g.time = s.tbu.time
  entries : ∀ l : Lane, ∀ e ∈ t.dkc.lists[l], ∃ x ∈ s.dkc.lists[l], e.recId = x.recId ∧ e.entryTime = x.entryTime ∧
              e.aged = if old.deck.overstay < w.deck.overstay then
                x.agedFull || decide (w.deck.overstay * 100000 ≤ (s.tbu.time - x.entryTime).toNat) else x.aged
  left    : ∀ l : Lane, t.dkc.lists[l] = [] → ∀ e ∈ s.dkc.lists[l], ∀ id, e.recId = some id → findRec t id = none

theorem DeckFlow.settled {old w : Settings} {s z t : State} (hz : z.sst.live = w) (h : DeckFlow s z) (k : DeckFlow (deckRetested old z) t) :
    DeckSettled old w s t := by
  have htbu : (deckRetested old z).tbu = s.tbu := by
    rw [deckRetested_eq]
    exact h.tbu
  have hgrants : (deckRetested old z).dkc.grants = z.dkc.grants := by rw [deckRetested_eq]
  have hlast : (deckRetested old z).dkc.lastGrant = z.dkc.lastGrant := by rw [deckRetested_eq]
  have hfind : ∀ id, findRec (deckRetested old z) id = findRec z id := fun id => by
    rw [deckRetested_eq]
    rfl
  have htimes : (deckRetested old z).dkc.grantTimes =
      z.dkc.grantTimes.filter fun x => decide ((s.tbu.time - x).toNat < w.deck.winLen * 100000) := by
    rw [deckRetested_eq, ← hz, ← h.tbu]
  refine ⟨?_, fun g hg => ?_, ?_, fun l e he => ?_, fun l hl e he id hid => ?_⟩
  · obtain ⟨n, hn⟩ := h.times
    obtain ⟨m, hm⟩ := k.times
    obtain ⟨j, hj⟩ := filter_append_present (fun x => decide ((s.tbu.time - x).toNat < w.deck.winLen * 100000)) s.dkc.grantTimes n s.tbu.time
    refine ⟨j + m, ?_⟩
    rw [hm, htimes, hn, hj, htbu, List.append_assoc, List.replicate_append_replicate]
  · rcases k.grants g hg with hg | hg
    · exact h.grants g (hgrants ▸ hg)
    · exact .inr (hg.trans (congrArg TbuState.time htbu))
  · rcases k.last with hk | ⟨g, hg, ht⟩
    · rw [hk, hlast]
      exact h.last
    · exact .inr ⟨g, hg, ht.trans (congrArg TbuState.time htbu)⟩
  · obtain ⟨y, hy, hsame⟩ := k.entries l e he
    rw [deckRetested_list] at hy
    obtain ⟨v, hv, rfl⟩ := List.mem_map.mp hy
    obtain ⟨x, hx, hfirst⟩ := h.entries l v hv
    refine ⟨x, hx, ?_, ?_, ?_⟩
    · rw [hsame.recId, retested_recId, hfirst.recId]
    · rw [hsame.time, retested_entryTime, hfirst.time]
    · rw [hsame.aged, retested_aged, hfirst.aged, hfirst.agedFull, hfirst.time, hz, h.tbu]
  · rcases h.left l e he id hid with ⟨v, hv, hvid⟩ | hgone
    · have hmem : retested old z v ∈ (deckRetested old z).dkc.lists[l] := by
        rw [deckRetested_list]
        exact List.mem_map_of_mem hv
      rcases k.left l _ hmem id ((retested_recId old z v).trans hvid) with ⟨y, hy, -⟩ | hgone
      · rw [hl] at hy
        cases hy
      · exact hgone
    · exact k.gone id ((hfind id).trans hgone)

/-! ### The blocks as a whole -/

/-- What becomes of a lane made absent (R33, R73, R142). -/
structure LaneGone (modes : Vector LaneMode 3) (l : Lane) (s t : State) : Prop where
  camera : t.dcu.camera[l] = none
  list   : t.dkc.lists[l] = []
  shut   : modes[l] ≠ .closed → t.las[l] = emptyLas s.las[l] ∧ (∀ id, Held s.las[l] id → findRec t id = none) ∧
             (∀ k : Lane, ∀ p ∈ t.las[k].pendingList, ¬ Held s.las[l] p.awaits) ∧ (∀ c : Chan, chanLane c = l → IsOff t.scu[c]) ∧
             ∀ m, t.zsc.meas = some m → chanLane m.chan ≠ l

/-- What the blocks do at a commit. -/
structure BlocksCommitted (old w : Settings) (modes : Vector LaneMode 3) (s t : State) : Prop extends DeckSettled old w s t where
  sst      : t.sst = s.sst
  csq      : t.csq = s.csq
  tbu      : t.tbu = s.tbu
  mode     : t.cmn.mode = s.cmn.mode
  answers  : answerPath t = answerPath s
  store    : t.cmn.conds[storeFaultIx] = s.cmn.conds[storeFaultIx]
  pins     : t.liu.pins = s.liu.pins
  marks    : ∀ l : Lane, t.cmn.closedMark[l] = if old.site.laneCount ≤ l.val ∧ l.val < w.site.laneCount then true else s.cmn.closedMark[l]
  fates    : ∀ l : Loop, LoopFate old w l s t
  absent   : ∀ l : Lane, l.val < old.site.laneCount → w.site.laneCount ≤ l.val → LaneGone modes l s t
  idle     : ∀ c : Chan, t.scu[c].det = .idle → t.scu[c].cfg = w.det
  hold     : w.link.traceMode ≠ .holdOnDivert → t.trs.held = none
  blind    : t.dkc.blind = blindNow t
  overload : OverloadFormed t
  rests    : HeadRests t

theorem commitBlocks_committed {old w : Settings} {modes : Vector LaneMode 3} {s : State} (hs : s.sst.live = w) :
    BlocksCommitted old w modes s (commitBlocks old modes s) := by
  have hlanes := lanesAndLoops_committed (old := old) (modes := modes) hs
  have heq : commitBlocks old modes s = detectorsAndHold (commitDeck old (lanesAndLoops old modes s)) := rfl
  rw [heq]
  generalize lanesAndLoops old modes s = z at hlanes
  have hdeck := commitDeck_committed old z
  generalize commitDeck old z = y at hdeck
  have hret := deckRetested_eq old z
  have hz : z.sst.live = w := (congrArg SstState.live hlanes.sst).trans hs
  have hzsst : (deckRetested old z).sst = z.sst := by rw [hret]
  have hysst : y.sst = z.sst := hdeck.step.commits.sst.trans hzsst
  have hylive : y.sst.live = w := (congrArg SstState.live hysst).trans hz
  have hidle := detectorsAndHold_scu y
  have hhold := detectorsAndHold_held (s := y)
  obtain ⟨scu, trs, hend⟩ := detectorsAndHold_rest y
  rw [hylive] at hidle hhold
  rw [hend] at hidle hhold ⊢
  have hoff : ∀ c : Chan, IsOff y.scu[c] → IsOff scu[c] := fun c hc => by
    have hdet : (y.scu[c].det == .idle) = false := by
      rw [hc.1]
      rfl
    have hkept : scu[c] = y.scu[c] := (hidle c).trans (by rw [hdet]; rfl)
    rw [hkept]
    exact hc
  have hsettled : DeckSettled old w s y := hlanes.flow.settled hz hdeck.step.commits.flow
  have hafter := hdeck.step.commits
  have haside := hdeck.step.aside
  have hliu := hdeck.step.liu
  rw [hret] at hafter haside hliu
  refine ⟨⟨hsettled.times, hsettled.grants, hsettled.last, hsettled.entries, hsettled.left⟩, hysst.trans hlanes.sst, hafter.csq.trans hlanes.csq,
    hafter.flow.tbu.trans hlanes.flow.tbu, haside.mode.trans hlanes.mode, haside.answers.trans hlanes.answers, hafter.store.trans hlanes.store,
    (congrArg LiuState.pins hliu).trans hlanes.pins, fun l => ?_, fun l => ?_, fun l ho hw => ?_, fun c hc => ?_, hhold, ?_, ?_, ?_⟩
  · exact (congrArg (fun v : Vector Bool 3 => v[l]) haside.closed).trans (hlanes.marks l)
  · exact (hlanes.fates l).between ⟨rfl, rfl, rfl, rfl⟩ rfl rfl (.of_eq hliu haside.conds)
  · obtain ⟨hcamera, hlist, hshut⟩ := hlanes.dropped l ho hw
    refine ⟨hafter.camera l hcamera, ?_, fun hm => ?_⟩
    · refine hdeck.step.commits.flow.empty ?_
      rw [deckRetested_list, hlist]
      rfl
    · obtain ⟨hlas, hgone, hawaits, hscu, hmeas⟩ := hshut hm
      refine ⟨(hafter.las l ?_).trans hlas, fun id hid => hafter.flow.gone id (hgone id hid), fun k p hp => hawaits k p (hafter.pending k p hp),
        fun c hc => hoff c (hafter.off c (hscu c hc)), fun m hm => hmeas m (hafter.meas m hm)⟩
      exact (show z.las[l] = emptyLas z.las[l] by rw [hlas]; rfl)
  · have hone := hidle c
    cases hdet : y.scu[c].det == .idle with
    | true =>
      rw [hdet, if_pos rfl] at hone
      exact congrArg ScuState.cfg hone
    | false =>
      rw [hdet] at hone
      have hkept : scu[c] = y.scu[c] := hone
      have hnot : (scu[c].det == .idle) = false := by rw [hkept, hdet]
      have his : scu[c].det = .idle := hc
      rw [his] at hnot
      cases hnot
  · exact hdeck.blind
  · exact hdeck.overload
  · exact hdeck.rests

/-! ### The end of the store write -/

section Ended

variable {good : Bool} {w : Settings} {s : State}

theorem settingsTaken_live (hw : s.sst.working = some w) : (settingsTaken good s).sst.live = w := by
  rw [(settingsTaken_taken good s).sst, takeWorking, hw]
  rfl

/-- The state at the end of the store write. -/
def storeWritten (good : Bool) (s : State) : State := settle (endStoreWrite good s)

/-- The state at the end of the store write before its answer and its outputs. -/
def committedState (good : Bool) (s : State) : State := commitBlocks s.sst.live (modesNow s) (settingsTaken good s)

theorem committedState_blocks (hw : s.sst.working = some w) :
    BlocksCommitted s.sst.live w (modesNow s) (settingsTaken good s) (committedState good s) := commitBlocks_committed (settingsTaken_live hw)

/-- What outputs and link do not touch stands as the blocks leave it. -/
theorem storeWritten_same {α : Type} (f : State → α) (hf : ∀ u, f (sansOutputs u) = f u) (hk : ∀ (u : State) k, f { u with lki := k } = f u) :
    f (storeWritten good s) = f (committedState good s) := ended_same _ f hf hk

theorem storeWritten_field (hw : s.sst.working = some w) {α : Type} (g : SstState → α) (hg : ∀ (u : SstState) r, g { u with retained := r } = g u) :
    g (storeWritten good s).sst = g (takeWorking good s).sst :=
  (storeWritten_same (fun u => g u.sst) (fun u => hg u.sst none) fun _ _ => rfl).trans
    (congrArg g ((committedState_blocks hw).sst.trans (settingsTaken_taken good s).sst))

theorem storeWritten_live (hw : s.sst.working = some w) : (storeWritten good s).sst.live = w := by
  refine (storeWritten_field hw SstState.live fun _ _ => rfl).trans ?_
  rw [takeWorking, hw]
  rfl

theorem releaseCommit_sst (u : State) : (releaseCommit u).sst = u.sst := by
  rw [releaseCommit_lki]

theorem storeWritten_retained (hw : s.sst.working = some w) : (storeWritten good s).sst.retained = none ∨
    (storeWritten good s).sst.retained = some (s.sst.liveGen, s.sst.live) := by
  have hsst : (endStoreWrite good s).sst = (takeWorking good s).sst := by
    have hreleased := releaseCommit_sst (committedState good s)
    rw [(committedState_blocks hw).sst, (settingsTaken_taken good s).sst] at hreleased
    exact hreleased
  have hretained : (takeWorking good s).sst.retained = some (s.sst.liveGen, s.sst.live) := rfl
  rw [storeWritten, (settle_formedFrom _).retained, hsst, hretained]
  exact (Option.eq_none_or_eq_some _).imp id fun ⟨g, hg⟩ => hg.trans (Option.filter_eq_some_iff.mp hg).1.symm

theorem storeWritten_answers (hw : s.sst.working = some w) {tag : Byte} (h : s.lki.heldCommit = some tag) :
    (storeWritten good s).lki.heldCommit = none ∧ (storeWritten good s).lki.behind = [] ∧
      answerPath (storeWritten good s) = readyPath s ++ [⟨0xB1, tag, .ok, .empty⟩] ++ s.lki.behind := by
  have hx := settingsTaken_taken good s
  have hkeeps := commitBlocks_keeps s.sst.live (modesNow s) (settingsTaken good s)
  obtain ⟨-, hheld, hbehind⟩ := hx.waiting
  have hreleased := releaseCommit_answers (x := s) (s := committedState good s) ((hkeeps.held.trans hheld).trans h)
    ((committedState_blocks hw).answers.trans hx.answers) (hkeeps.behind.trans hbehind)
  rw [storeWritten, settled_same _ answerPath fun _ => rfl, settled_same _ (·.lki.heldCommit) fun _ => rfl,
    settled_same _ (·.lki.behind) fun _ => rfl]
  exact hreleased

theorem storeWritten_requests : (storeWritten good s).lki.requests = s.lki.requests := by
  rw [storeWritten, settled_same _ (·.lki.requests) fun _ => rfl, endStoreWrite_eq, releaseCommit_requests]
  exact (commitBlocks_keeps _ _ _).requests.trans (settingsTaken_taken good s).waiting.1

theorem edgedDebounce_changed {now : Time} {level : Bool} {d : Debounce} (h : level ≠ d.level) : edgedDebounce now level d =
    { d with lastEdge := now, cand := if d.cand.isSome then d.cand else some ⟨level, now⟩ } := by
  rw [edgedDebounce, if_neg h]

/-- What becomes of a loop at the end of the store write. -/
theorem storeWritten_fate (hw : s.sst.working = some w) (l : Loop) : LoopFate s.sst.live w l s (storeWritten good s) := by
  have hx := settingsTaken_taken good s
  have hkept : LoopKept l s (settingsTaken good s) :=
    ⟨by rw [hx.liu], by rw [hx.liu], hx.conds _ (loopIx_ne l l).2.2.1.symm, hx.conds _ (loopIx_ne l l).2.2.2.symm⟩
  refine ((committedState_blocks hw).fates l).between hkept (by rw [hx.liu]) hx.tbu (.of_eq ?_ fun ix _ => ?_)
  · exact storeWritten_same State.liu (fun _ => rfl) fun _ _ => rfl
  · exact storeWritten_same (·.cmn.conds[ix]) (fun _ => rfl) fun _ _ => rfl

/-- What becomes of a lane that the store write makes absent. -/
theorem storeWritten_lane (hw : s.sst.working = some w) {l : Lane} (ho : l.val < s.sst.live.site.laneCount) (hn : w.site.laneCount ≤ l.val) :
    LaneGone (modesNow s) l s (storeWritten good s) := by
  have hx := settingsTaken_taken good s
  obtain ⟨hcamera, hlist, hshut⟩ := (committedState_blocks (good := good) hw).absent l ho hn
  have hlas : (storeWritten good s).las = _ := storeWritten_same State.las (fun _ => rfl) fun _ _ => rfl
  have hscu : (storeWritten good s).scu = _ := storeWritten_same State.scu (fun _ => rfl) fun _ _ => rfl
  have hzsc : (storeWritten good s).zsc = _ := storeWritten_same State.zsc (fun _ => rfl) fun _ _ => rfl
  have hfind : ∀ id, findRec (storeWritten good s) id = _ := fun id => storeWritten_same (findRec · id) (fun _ => rfl) fun _ _ => rfl
  refine ⟨?_, ?_, fun hm => ?_⟩
  · exact (storeWritten_same (·.dcu.camera[l]) (fun _ => rfl) fun _ _ => rfl).trans hcamera
  · exact (storeWritten_same (·.dkc.lists[l]) (fun _ => rfl) fun _ _ => rfl).trans hlist
  · have hs := hshut hm
    rw [hx.las] at hs
    simp only [hlas, hscu, hzsc, hfind]
    exact hs

theorem storeWritten_deck (hw : s.sst.working = some w) : DeckSettled s.sst.live w s (storeWritten good s) := by
  have hx := settingsTaken_taken good s
  have hz := (committedState_blocks (good := good) hw).toDeckSettled
  have htimes : (storeWritten good s).dkc.grantTimes = _ := storeWritten_same (·.dkc.grantTimes) (fun _ => rfl) fun _ _ => rfl
  have hgrants : (storeWritten good s).dkc.grants = _ := storeWritten_same (·.dkc.grants) (fun _ => rfl) fun _ _ => rfl
  have hlast : (storeWritten good s).dkc.lastGrant = _ := storeWritten_same (·.dkc.lastGrant) (fun _ => rfl) fun _ _ => rfl
  have hlists : (storeWritten good s).dkc.lists = _ := storeWritten_same (·.dkc.lists) (fun _ => rfl) fun _ _ => rfl
  have hfind : ∀ id, findRec (storeWritten good s) id = _ := fun id => storeWritten_same (findRec · id) (fun _ => rfl) fun _ _ => rfl
  obtain ⟨htimes', hgrants', hlast', hentries', hleft'⟩ := hz
  rw [hx.tbu, hx.dkc] at htimes' hgrants' hlast'
  rw [hx.tbu, hx.dkc] at hentries'
  rw [hx.dkc] at hleft'
  refine ⟨?_, ?_, ?_, ?_, ?_⟩
  · rw [htimes]; exact htimes'
  · rw [hgrants]; exact hgrants'
  · rw [hlast]; exact hlast'
  · rw [hlists]; exact hentries'
  · simp only [hlists, hfind]; exact hleft'

theorem storeWritten_blind (hw : s.sst.working = some w) : (storeWritten good s).dkc.blind = blindNow (storeWritten good s) := by
  have hz := (committedState_blocks (good := good) hw).blind
  refine (storeWritten_same (·.dkc.blind) (fun _ => rfl) fun _ _ => rfl).trans (hz.trans (blindNow_congr ?_ ?_ ?_).symm)
  · exact storeWritten_same (·.sst.live) (fun _ => rfl) fun _ _ => rfl
  · exact storeWritten_same State.liu (fun _ => rfl) fun _ _ => rfl
  · exact storeWritten_same (·.cmn.closedMark) (fun _ => rfl) fun _ _ => rfl

theorem storeWritten_overload (hw : s.sst.working = some w) : OverloadFormed (storeWritten good s) := by
  refine (committedState_blocks (good := good) hw).overload.of_eq ?_ ?_ ?_ ?_
  · exact storeWritten_same (·.dkc.overload) (fun _ => rfl) fun _ _ => rfl
  · exact storeWritten_same (·.dkc.onDeck) (fun _ => rfl) fun _ _ => rfl
  · exact storeWritten_same (·.dkc.listFull) (fun _ => rfl) fun _ _ => rfl
  · exact storeWritten_same (·.sst.live) (fun _ => rfl) fun _ _ => rfl

theorem storeWritten_rests (hw : s.sst.working = some w) : HeadRests (storeWritten good s) := by
  intro id u hh
  rw [storeWritten_same headUpper (fun _ => rfl) fun _ _ => rfl] at hh
  exact (storeWritten_same (mayGrant u) (fun _ => rfl) fun _ _ => rfl).trans ((committedState_blocks (good := good) hw).rests id u hh)

end Ended

end Sys2Proof.Machine

namespace Sys2Proof.Proofs

open Sys2Proof.Machine
open Sys2Proof.Safety

/-- Settles O58: the settings taken, the lanes and the loops one after another, the deck under its new settings, and then the answer. -/
theorem storeWriteEnds : Obligations.StoreWriteEnds := by
  unfold Obligations.StoreWriteEnds
  intro good w s hbusy hw
  have hx := settingsTaken_taken good s
  have hz := committedState_blocks (good := good) hw
  refine ⟨storeWritten good s, when'_due hbusy _ _, (settle_formedFrom _).formed, storeWritten_live hw, storeWritten_field hw SstState.liveGen fun _ _ => rfl,
    storeWritten_field hw SstState.working fun _ _ => rfl, storeWritten_field hw SstState.storeBusy fun _ _ => rfl, ?_,
    storeWritten_field hw SstState.imageGood fun _ _ => rfl, storeWritten_retained hw, ?_, ?_, ?_, fun tag htag => ?_, fun l => ?_,
    fun c => ?_, fun hm => ?_, ?_, fun l => ?_, fun l ho hn => ?_, storeWritten_blind hw, (storeWritten_deck hw).times, ?_,
    storeWritten_rests hw, (storeWritten_deck hw).grants, (storeWritten_deck hw).last, (storeWritten_deck hw).entries, ?_, ?_,
    storeWritten_requests⟩
  · refine (storeWritten_field hw SstState.image fun _ _ => rfl).trans ?_
    rw [takeWorking, hw]
    rfl
  · exact (storeWritten_same (·.cmn.safeFlag) (fun _ => rfl) fun _ _ => rfl).trans ((commitBlocks_keeps _ _ _).flag.trans hx.flag)
  · exact (storeWritten_same (·.cmn.mode) (fun _ => rfl) fun _ _ => rfl).trans (hz.mode.trans hx.mode)
  · exact (storeWritten_same (·.cmn.conds[storeFaultIx]) (fun _ => rfl) fun _ _ => rfl).trans (hz.store.trans hx.store)
  · obtain ⟨hheld, hbehind, hpath⟩ := storeWritten_answers (good := good) hw htag
    exact ⟨hheld, hbehind, hpath.trans (congrArg (· ++ _ ++ _) (List.append_nil _))⟩
  · refine (storeWritten_same (·.cmn.closedMark[l]) (fun _ => rfl) fun _ _ => rfl).trans ((hz.marks l).trans ?_)
    rw [hx.marks]
  · have hscu : (storeWritten good s).scu[c] = _ := storeWritten_same (·.scu[c]) (fun _ => rfl) fun _ _ => rfl
    rw [hscu]
    exact hz.idle c
  · exact (storeWritten_same (·.trs.held) (fun _ => rfl) fun _ _ => rfl).trans (hz.hold hm)
  · refine (storeWritten_same (·.liu.pins) (fun _ => rfl) fun _ _ => rfl).trans (hz.pins.trans ?_)
    rw [hx.liu]
  · have hfate := storeWritten_fate (good := good) hw l
    refine ⟨hfate.out, hfate.into, fun he => ⟨(hfate.stays he).1, (hfate.stays he).2.trans (ite_congr rfl (fun hc => ?_) fun _ => rfl)⟩⟩
    exact edgedDebounce_changed hc.2.2
  · obtain ⟨hcamera, hlist, hshut⟩ := storeWritten_lane (good := good) hw ho hn
    refine ⟨hcamera, hlist, (storeWritten_deck hw).left l hlist, fun hm => hshut ?_⟩
    rw [modesNow_lane]
    exact hm
  · have hformed := storeWritten_overload (good := good) hw
    rw [OverloadFormed, storeWritten_live hw] at hformed
    exact hformed
  · exact (storeWritten_same State.csq (fun _ => rfl) fun _ _ => rfl).trans (hz.csq.trans hx.csq)
  · exact (storeWritten_same State.tbu (fun _ => rfl) fun _ _ => rfl).trans (hz.tbu.trans hx.tbu)

end Sys2Proof.Proofs
end
